-- ==== Sys2Proof/Word.lean ====
section
/-! DEFINITION. The plain types of the model: bytes, the numbers of ports, segments, bands, groups and sensors, and masks. -/

namespace Sys2Proof

/-- A byte of a port or sensor frame (R156, R180). -/
abbrev Byte := BitVec 8

/-- A master port, P0 to P2 (R153). -/
abbrev PortId := Fin 3

/-- A segment number, 0 to 15 (spec/00_scope.md, Terms). -/
abbrev SegId := Fin 16

/-- A band of a segment, B0 to B2. -/
abbrev BandId := Fin 3

/-- A group number, 0 to 47 (R2). -/
abbrev GroupId := Fin 48

/-- A sensor number, which is its channel on the sensor link, 0 to 31. -/
abbrev SensorId := Fin 32

/-- A segment mask: the set of segments whose bit is set (R176). -/
abbrev SegMask := BitVec 16

end Sys2Proof
end

