-- ==== Sys2Proof/Syntax.lean ====
section
/-! DEFINITION. The commands of spec/opcode_table.json, one constructor a row, and the request that a port's request slot
holds. A request row is the execution of the request waiting in the named port's slot (R161); an event row carries what
the outside contributes to the event. -/

namespace Sys2Proof

/-- The levels of a port's two strap pins, `true` for high (R154, R179). -/
structure StrapPins where
  first : Bool
  second : Bool
  deriving DecidableEq, Repr

/-- What arrives in a query's answer window (R114, R180). -/
inductive Answer where
  /-- No backward frame starts within the window. -/
  | silent
  /-- A whole backward frame: bits 15 to 12 the tag, bits 11 to 0 the data. -/
  | frame (bits : BitVec 16)
  /-- The first backward frame violates the bit coding. -/
  | violation
  /-- A backward frame starts within the window and is not complete at its end (R180). -/
  | cutOff
  deriving DecidableEq, Repr

/-- What a master clocked in a select period, known at its release (R153). -/
structure Clocked where
  /-- Data in at each bit period that passed whole within the select period, in order; as many bits were shifted out. -/
  bits : List Bool
  /-- The release falls together with a warm restart that was taken first (R165, log 33). -/
  atRestart : Bool
  deriving DecidableEq, Repr

/-- The request kinds of R177. -/
inductive Kind where
  | nop | ident | causesRead | causesClear | enablesWrite | eventsRead | segRead | sensorRead | tableRead | couplingRead
  | queryResult | energyRead | calResultRead | segDefine | segRemove | segTune | bandSet | layoutLock | couplingWrite
  | overrideSet | overrideCancel | lockSet | lockRelease | calStart | calAbort | linkPause | linkResume | groupClearFail
  | restart | holdSet | holdSettled | glareSet | settleSet | capSet | capCancel | powerSet | energyClear | queryDriver
  deriving DecidableEq, Repr

/-- A request's kind with its payload fields, in the order of R178. Each number is the field as the frame carries it. -/
inductive Body where
  | nop
  | ident
  | causesRead
  | causesClear (causes : BitVec 16)
  | enablesWrite (enables : BitVec 16) (mask : SegMask)
  | eventsRead
  | segRead (segment : Nat)
  | sensorRead (sensor : Nat)
  | tableRead (start : Nat)
  | couplingRead (sensor : Nat)
  | queryResult
  | energyRead (first : Nat)
  | calResultRead
  | segDefine (segment bandCount primary secondary : Nat)
  | segRemove (segment : Nat)
  | segTune (segment target passPeriod deadBand nUp nDown sUp sDown fallback : Nat)
  | bandSet (segment band ratio efficacy lmin lmax : Nat)
  | layoutLock
  /-- `positions` are the six positions of (group, coefficient). -/
  | couplingWrite (sensor darkOffset count : Nat) (positions : List (Nat × Nat))
  | overrideSet (mask : SegMask) (level minutes : Nat)
  | overrideCancel (mask : SegMask)
  | lockSet (mask : SegMask) (level : Nat)
  | lockRelease (mask : SegMask)
  /-- `settleUnits` counts 50 ms each; `option` is the option byte, M in bits 3 to 0 and the dark option in bits 7 to 4. -/
  | calStart (mask : SegMask) (base high low half settleUnits option : Nat)
  | calAbort
  | linkPause
  | linkResume
  | groupClearFail (group : Nat)
  | restart
  | holdSet (mask : SegMask) (seconds : Nat)
  | holdSettled (mask : SegMask)
  | glareSet (mask : SegMask) (threshold : Nat)
  | settleSet (seconds : Nat)
  /-- `minutes` is 65535 for none. -/
  | capSet (capId : Nat) (mask : SegMask) (level minutes : Nat)
  | capCancel (capId : Nat)
  | powerSet (group watts : Nat)
  | energyClear (mask : SegMask)
  | queryDriver (group item : Nat)
  deriving DecidableEq, Repr

/-- A request as a port's request slot holds it: the LINK flag, the tag, and the kind with its payload (R155, R156). -/
structure Request where
  link : Bool
  tag : Byte
  body : Body
  deriving DecidableEq, Repr

/-- The commands, in the order of spec/opcode_table.json. -/
inductive Instr where
  | powerOnReset (p0 p1 p2 : StrapPins)
  | selectAssert (port : PortId)
  | selectRelease (port : PortId) (clocked : Clocked)
  | nop (port : PortId)
  | ident (port : PortId)
  | causesRead (port : PortId)
  | causesClear (port : PortId)
  | enablesWrite (port : PortId)
  | eventsRead (port : PortId)
  | segRead (port : PortId)
  | sensorRead (port : PortId)
  | tableRead (port : PortId)
  | couplingRead (port : PortId)
  | queryResult (port : PortId)
  | energyRead (port : PortId)
  | calResultRead (port : PortId)
  | segDefine (port : PortId)
  | segRemove (port : PortId)
  | segTune (port : PortId)
  | bandSet (port : PortId)
  | layoutLock (port : PortId)
  | couplingWrite (port : PortId)
  | overrideSet (port : PortId)
  | overrideCancel (port : PortId)
  | lockSet (port : PortId)
  | lockRelease (port : PortId)
  | holdSet (port : PortId)
  | holdSettled (port : PortId)
  | settleSet (port : PortId)
  | capSet (port : PortId)
  | capCancel (port : PortId)
  | calStart (port : PortId)
  | calAbort (port : PortId)
  | linkPause (port : PortId)
  | linkResume (port : PortId)
  | groupClearFail (port : PortId)
  | powerSet (port : PortId)
  | energyClear (port : PortId)
  | glareSet (port : PortId)
  | queryDriver (port : PortId)
  | restart (port : PortId)
  | roundTimerExpiry
  /-- The four bytes of a sensor's reply (R180). -/
  | sensorReply (valueHigh valueLow status check : Byte)
  | replyWindowTimeout
  | interByteGap
  | turnaroundEnd
  | pass (segment : SegId)
  | fadeStep (group : GroupId)
  | uptimeTick
  | entryExpiry
  | energyTick
  | setLevelCompletion
  | queryFrameCompletion
  /-- `answer` is what arrived in the window. -/
  | answerWindowEnd (answer : Answer)
  | busFault
  | busRestoration
  | calStageTimerExpiry
  deriving DecidableEq, Repr

end Sys2Proof
end

