-- ==== Sys2Proof/Decode.lean ====
section
/-! DEFINITION. The command that a word spells by the bits of spec/opcode_table.json. No row of that table gives bits (its
"fields" are empty and it has no "fixed"), so no word spells a command. The bytes of a port frame are decoded where they
arrive, at SELECT_RELEASE (Sys2Proof/Machine/Operands.lean). -/

namespace Sys2Proof

/-- Log 24: the table gives no row a word, so there is nothing to decode. -/
def decodeTableWord (_nbits _w : Nat) : Option Instr := none

end Sys2Proof
end

