-- ==== Sys2Proof/Config.lean ====
section
/-! DEFINITION. What is fixed for one part and not by the spec: the strap levels of the reset state, and the free value. -/

namespace Sys2Proof.Config

/-- DESIGN CHOICE (log 5), unsafe: the strap levels that `State.reset` takes as sampled, FLOOR on P0, SHADE on P1 and
ENERGY on P2, as the worked examples of the spec have them. POWER_ON_RESET carries its own. -/
def resetStraps : StrapPins × StrapPins × StrapPins := (⟨false, true⟩, ⟨true, false⟩, ⟨true, true⟩)

/-- Free value (log 6), safe: the uptime after the second 4,294,967,295. R77 says the range is not exhausted in service
and states no value there. -/
opaque uptimePastEnd : BitVec 32

end Sys2Proof.Config
end

