-- ==== Sys2Proof/Machine/State.lean ====
section
/-! DEFINITION. The state of the part, block by block, as plain data, and its value right after power-on reset. -/

namespace Sys2Proof.Machine

open Sys2Proof

/-- No spec-given behaviour of the part is a machine fault, so there is no way to fault (INVENTORY.md, Faults). -/
inductive Fault where
  deriving DecidableEq, Repr

/-- Why a command has no meaning. -/
inductive Refusal where
  /-- Raised by exec alone, for a command whose meaning is not written; safe. -/
  | notModelled (mnemonic : String)
  deriving DecidableEq, Repr

/-! ## Ports (Sections 9 and 10) -/

/-- Strap roles and port roles (R154). -/
inductive Role where
  | off | floor | shade | energy
  deriving DecidableEq, Repr

/-- How much of the reply in the slot was clocked in the select period (R155; log 15). -/
inductive Progress where
  | none | partly | whole
  deriving DecidableEq, Repr

/-- A select period in progress. `out` is the frame fixed at the assertion of select (R157); 0xFF follows it. -/
structure Period where
  out : List Byte
  carriesReply : Bool
  /-- A warm restart took effect in the period (R165). -/
  void : Bool
  deriving DecidableEq, Repr

/-- The record of one port (R155). A port whose role is OFF keeps the blank record (log 18). -/
structure Port where
  role : Role
  strap : Role
  request : Option Request
  reply : Option (List Byte)
  progress : Progress
  refused : Bool
  /-- The cause set without SEG_EVENT, which follows from `events` (R170), by the bits of R178. -/
  raised : BitVec 16
  enables : BitVec 16
  segMask : SegMask
  /-- One set per segment, by the event bits of R179. -/
  events : Vector (BitVec 8) 16
  period : Option Period
  deriving DecidableEq, Repr

/-! ## Layout store (Section 1) -/

/-- The band fields of a configuration record (R1). -/
structure BandConfig where
  ratio : Nat
  efficacy : Nat
  lmin : Nat
  lmax : Nat
  deriving DecidableEq, Repr

/-- The configuration record of one segment (R1). -/
structure SegConfig where
  configured : Bool
  bandCount : Nat
  primary : Option SensorId
  secondary : Option SensorId
  target : Nat
  passPeriod : Nat
  deadBand : Nat
  nUp : Nat
  nDown : Nat
  sUp : Nat
  sDown : Nat
  fallback : Nat
  glareThreshold : Nat
  bands : Vector BandConfig 3
  deriving DecidableEq, Repr

/-- The layout store (R1, R13). -/
structure Layout where
  lock : Bool
  segs : Vector SegConfig 16
  deriving DecidableEq, Repr

/-! ## Segment controllers (Section 4) -/

/-- The modes of R52. -/
inductive Mode where
  | unconfigured | start | active | degraded | held | locked | calibrating
  deriving DecidableEq, Repr

/-- A control output with its valid flag (R67). -/
structure Output where
  value : Nat
  valid : Bool
  deriving DecidableEq, Repr

/-- The controller record of one segment (R51). -/
structure Ctrl where
  mode : Mode
  good : Nat
  miss : Nat
  /-- `none` is unseeded. -/
  filter : Option Nat
  lastRaw : Option Nat
  bandDaylight : Vector (Option Nat) 3
  outputs : Vector Output 3
  startSnap : Vector Nat 3
  heldSnap : Vector Nat 3
  glare : Bool
  /-- `none` is stopped; otherwise the interval in ms the timer was armed for (log 21). -/
  passTimer : Option Nat
  deriving DecidableEq, Repr

/-! ## Sensor link (Section 2) -/

/-- The states of a sample holder (R17). -/
inductive HolderState where
  | noData | fresh | suspect | stale
  deriving DecidableEq, Repr

/-- A sample holder (R17). -/
structure Holder where
  state : HolderState
  value : Option Nat
  saturated : Bool
  miss : Nat
  lastGood : Option Nat
  deriving DecidableEq, Repr

/-- Where a poll exchange stands: its reply is awaited or being received, or it is in the turnaround gap (R20). -/
inductive PollStage where
  | awaiting | turnaround
  deriving DecidableEq, Repr

/-- The poll in flight. `void` discards its outcome (R26, R30); `outlived` marks an exchange that a warm restart left
running, after which the new round takes its turns from channel 0 (R30, log 31). -/
structure Poll where
  channel : SensorId
  stage : PollStage
  void : Bool
  outlived : Bool
  deriving DecidableEq, Repr

/-- The sensor link controller (Section 2.1). -/
structure SensorLink where
  /-- The interval in ms the round timer was last armed for; it always runs (R18, log 21). -/
  roundTimer : Nat
  lateStart : Bool
  /-- `none` is idle; otherwise the channel whose turn it is. -/
  round : Option SensorId
  poll : Option Poll
  holders : Vector Holder 32
  deriving DecidableEq, Repr

/-! ## Coupling store (Section 3) -/

/-- An entry of a coupling list (R32). -/
structure Coupling where
  group : GroupId
  coeff : Nat
  deriving DecidableEq, Repr

/-- The coupling store (R32, R33). -/
structure CouplingStore where
  lists : Vector (List Coupling) 32
  dark : Vector Nat 32
  deriving DecidableEq, Repr

/-! ## Request table (Section 5) -/

/-- What an entry asks, with the fields its kind carries (R75). -/
inductive Ask where
  | override (level expiry : Nat)
  | hold (expiry : Nat) (settling : Bool)
  | lock (level : Nat)
  | cap (id level : Nat) (expiry : Option Nat)
  deriving DecidableEq, Repr

/-- An entry of the request table (R75). -/
structure Entry where
  mask : SegMask
  ask : Ask
  deriving DecidableEq, Repr

/-- The request table with the settle time and the uptime counter kept beside it (R76, R77, R88). -/
structure Table where
  /-- Oldest first. -/
  entries : List Entry
  settle : Nat
  uptime : Nat
  deriving DecidableEq, Repr

/-! ## Groups and luminaire link (Sections 6 and 7) -/

/-- What is held for an existing group: its record in the group table (R96), and the unsent flag and last-sent level that
the link controller holds for it (R112). -/
structure Group where
  present : Nat
  demanded : Nat
  timer : Bool
  failed : Bool
  power : Nat
  unsent : Bool
  lastSent : Option Nat
  deriving DecidableEq, Repr

/-- The luminaire link states (R112). -/
inductive LinkState where
  | running | draining | paused | down
  deriving DecidableEq, Repr

/-- The items of a query (R113). -/
inductive Item where
  | ratedPower | status
  deriving DecidableEq, Repr

/-- The status codes of an answer (R180). -/
inductive DriverStatus where
  | ok | lampFail | driverFault
  deriving DecidableEq, Repr

/-- The value of an answer, by the item asked (R118). -/
inductive AnswerValue where
  | power (watts : Nat)
  | status (code : DriverStatus)
  deriving DecidableEq, Repr

/-- The outcomes of a query (R114, R127). -/
inductive QueryOutcome where
  | ok (value : AnswerValue)
  | noAnswer
  | badFrame
  | noLink
  deriving DecidableEq, Repr

/-- The transmission on the luminaire link (R112, R113). -/
inductive Tx where
  /-- `kept`: the group has existed without interruption since the frame started (R113). -/
  | setLevel (group : GroupId) (level : Nat) (kept : Bool)
  /-- `owned`: the frame belongs to the query unit's query, which a warm restart ends (R130). -/
  | query (group : GroupId) (item : Item) (owned : Bool)
  /-- The answer window of a completed QUERY frame (R114). -/
  | window (group : GroupId) (item : Item) (owned : Bool)
  deriving DecidableEq, Repr

/-- The kinds the arbiter grants (R117). -/
inductive Grant where
  | level | query
  deriving DecidableEq, Repr

/-- The query unit (R118). `kept`: the query's group has existed without interruption since the acceptance (R121). -/
inductive QueryUnit where
  | idle
  | waiting (kept : Bool)
  | inFlight (kept : Bool)
  deriving DecidableEq, Repr

/-- The query result record (R118). -/
structure QueryRecord where
  valid : Bool
  port : PortId
  group : GroupId
  item : Item
  outcome : Option QueryOutcome
  deriving DecidableEq, Repr

/-- The luminaire link controller (R112). -/
structure Link where
  state : LinkState
  pauseInForce : Bool
  /-- Oldest first. -/
  queue : List (GroupId × Nat)
  tx : Option Tx
  lastGrant : Grant
  unit : QueryUnit
  record : QueryRecord
  /-- The bus-fault detector's last report was a fault (R126). -/
  faultReported : Bool
  deriving DecidableEq, Repr

/-- The luminaire side of the part: the group table and the link controller. -/
structure Lum where
  groups : Vector (Option Group) 48
  link : Link
  deriving DecidableEq, Repr

/-- The energy accumulator in Wh and the fraction in permille-watt-seconds of one segment (R106). -/
structure Energy where
  wh : Nat
  frac : Nat
  deriving DecidableEq, Repr

/-! ## Calibration sequencer (Section 8) -/

/-- The phases of a run (R131). -/
inductive Phase where
  | settleBase | dark | probeHigh | probeLow
  deriving DecidableEq, Repr

/-- The stages of a phase (R131, R138). -/
inductive Stage where
  | fadeWait | settle | sample | baseHold
  deriving DecidableEq, Repr

/-- The dark options (R133). -/
inductive DarkOption where
  | none | first | last
  deriving DecidableEq, Repr

/-- The parameters of a run as taken (R131, R135). `half` is h and `settle` is s, in ms. -/
structure CalParams where
  base : Nat
  high : Nat
  highEff : Nat
  low : Nat
  half : Nat
  settle : Nat
  loops : Nat
  dark : DarkOption
  deriving DecidableEq, Repr

/-- A pending dark offset (R140). -/
inductive PendingDark where
  | notTaken
  | rejected
  | measured (offset : Nat)
  deriving DecidableEq, Repr

/-- What a run gathers for one sensor (R131). `measured` lists the measured pairs of the sensor in ascending group order;
a group absent from it is unmeasured. -/
structure CalSensor where
  highSum : Nat
  highCount : Nat
  lowSum : Nat
  lowCount : Nat
  darkSum : Nat
  darkCount : Nat
  measured : List Coupling
  dark : PendingDark
  deriving DecidableEq, Repr

/-- A calibration run in progress (R131). -/
structure CalRun where
  phase : Phase
  stage : Stage
  segments : SegMask
  /-- In ascending order. -/
  groups : List GroupId
  /-- In ascending order. -/
  sensors : List SensorId
  params : CalParams
  probe : Nat
  cycle : Nat
  /-- The assigned level of each involved group; 0 at the others. -/
  assigned : Vector Nat 48
  /-- `none` is stopped; otherwise the interval in ms the stage timer was armed for (log 21). -/
  timer : Option Nat
  gathered : Vector CalSensor 32
  deriving DecidableEq, Repr

/-- The reasons of an abort (R132). -/
inductive AbortReason where
  | request | occupant | shade | lock | capped | link | restart
  deriving DecidableEq, Repr

/-- The outcomes of the calibration result record (R132). -/
inductive CalOutcome where
  | none
  | running
  | done
  | aborted (reason : AbortReason)
  deriving DecidableEq, Repr

/-- The sensor statuses of the calibration result record (R132). -/
inductive SensorStatus where
  | notInvolved | updated | partly | noSamples | darkRejected
  deriving DecidableEq, Repr

/-- The calibration result record (R132). -/
structure CalResult where
  outcome : CalOutcome
  segments : SegMask
  params : CalParams
  clamped : Bool
  statuses : Vector SensorStatus 32
  deriving DecidableEq, Repr

/-- The calibration sequencer (R131, R132); no run is IDLE. -/
structure Calibration where
  run : Option CalRun
  result : CalResult
  deriving DecidableEq, Repr

/-! ## The whole -/

/-- The state of the part, and the queue of the commands that wait. -/
structure State where
  /-- The model's own: the commands that wait, the next one first. -/
  pending : List Instr
  ports : Vector Port 3
  layout : Layout
  ctrls : Vector Ctrl 16
  sensors : SensorLink
  coupling : CouplingStore
  table : Table
  lum : Lum
  energy : Vector Energy 16
  cal : Calibration
  deriving DecidableEq, Repr

/-! ## Blank and initial records -/

/-- A port right after power-on reset; RESTARTED is bit 0 and present where the port has a role (R155, R175). -/
def Port.initial (strap role : Role) : Port where
  role := role
  strap := strap
  request := none
  reply := none
  progress := .none
  refused := false
  raised := if role = .off then 0 else 1
  enables := 0
  segMask := 0
  events := Vector.replicate 16 0
  period := none

/-- A configuration record with the defaults of R1, unconfigured. -/
def SegConfig.initial : SegConfig where
  configured := false
  bandCount := 0
  primary := none
  secondary := none
  target := 500
  passPeriod := 500
  deadBand := 10
  nUp := 3
  nDown := 1
  sUp := 5
  sDown := 10
  fallback := 800
  glareThreshold := 0
  bands := #v[⟨256, 600, 100, 1000⟩, ⟨128, 600, 100, 1000⟩, ⟨64, 600, 100, 1000⟩]

/-- The controller of an unconfigured segment, which holds nothing (R51; blank values, log 18). -/
def Ctrl.blank : Ctrl where
  mode := .unconfigured
  good := 0
  miss := 0
  filter := none
  lastRaw := none
  bandDaylight := Vector.replicate 3 none
  outputs := Vector.replicate 3 ⟨0, false⟩
  startSnap := Vector.replicate 3 0
  heldSnap := Vector.replicate 3 0
  glare := false
  passTimer := none

/-- A holder on entry to NO_DATA (R17). -/
def Holder.empty : Holder where
  state := .noData
  value := none
  saturated := false
  miss := 0
  lastGood := none

/-- The query result record before any query, and after a warm restart (R118). -/
def QueryRecord.initial : QueryRecord where
  valid := false
  port := 0
  group := 0
  item := .ratedPower
  outcome := none

/-- The link controller right after power-on reset (R112, R130). -/
def Link.initial : Link where
  state := .running
  pauseInForce := false
  queue := []
  tx := none
  lastGrant := .level
  unit := .idle
  record := QueryRecord.initial
  faultReported := false

/-- The calibration result record right after power-on reset (R132). -/
def CalResult.initial : CalResult where
  outcome := .none
  segments := 0
  params := ⟨0, 0, 0, 0, 0, 0, 0, .none⟩
  clamped := false
  statuses := Vector.replicate 32 .notInvolved

/-- Every block at its power-on values, with the given strap readings and port roles and nothing waiting
(R16, R31, R34, R74, R95, R111, R130, R152, R166). -/
def State.initial (strap role : Vector Role 3) : State where
  pending := []
  ports := Vector.ofFn fun p => Port.initial strap[p] role[p]
  layout := ⟨false, Vector.replicate 16 SegConfig.initial⟩
  ctrls := Vector.replicate 16 Ctrl.blank
  sensors := ⟨250, false, none, none, Vector.replicate 32 Holder.empty⟩
  coupling := ⟨Vector.replicate 32 [], Vector.replicate 32 0⟩
  table := ⟨[], 10, 0⟩
  lum := ⟨Vector.replicate 48 none, Link.initial⟩
  energy := Vector.replicate 16 ⟨0, 0⟩
  cal := ⟨none, CalResult.initial⟩

/-- The machine right after power-on reset with the straps of `Config.resetStraps` (log 5). -/
def State.reset : State :=
  State.initial #v[.floor, .shade, .energy] #v[.floor, .shade, .energy]

end Sys2Proof.Machine
end

