-- ==== Sys2Proof/WellFormed.lean ====
section
/-! DEFINITION. Well-formedness. The operands of a command are typed so that only ports, segments and groups the part has
can be named; what can be ill formed is a request, whose numbers must fit the widths of their frame fields (R178). -/

namespace Sys2Proof

/-- The number fits a field of one byte. -/
def fitsByte (n : Nat) : Bool := n < 256

/-- The number fits a field of two bytes. -/
def fitsWord (n : Nat) : Bool := n < 65536

/-- Every field of the payload fits its width in the layouts of R178. -/
def Body.wellFormed : Body → Bool
  | .nop | .ident | .causesRead | .eventsRead | .queryResult | .calResultRead | .layoutLock | .calAbort | .linkPause
  | .linkResume | .restart => true
  | .causesClear _ | .enablesWrite _ _ | .overrideCancel _ | .lockRelease _ | .holdSettled _ | .energyClear _ => true
  | .segRead n | .sensorRead n | .tableRead n | .couplingRead n | .energyRead n | .segRemove n | .groupClearFail n
  | .settleSet n | .capCancel n => fitsByte n
  | .segDefine a b c d => fitsByte a && fitsByte b && fitsByte c && fitsByte d
  | .segTune a t pp db nu nd su sd f =>
    fitsByte a && fitsWord t && fitsWord pp && fitsByte db && fitsByte nu && fitsByte nd && fitsByte su && fitsByte sd
      && fitsWord f
  | .bandSet a b r k lo hi => fitsByte a && fitsByte b && fitsWord r && fitsWord k && fitsWord lo && fitsWord hi
  | .couplingWrite a d c ps =>
    fitsByte a && fitsByte d && fitsByte c && ps.length == 6 && ps.all fun q => fitsByte q.1 && fitsWord q.2
  | .overrideSet _ l m => fitsWord l && fitsWord m
  | .lockSet _ l => fitsWord l
  | .calStart _ lb h l hp su o =>
    fitsWord lb && fitsWord h && fitsWord l && fitsWord hp && fitsByte su && fitsByte o
  | .holdSet _ n => fitsWord n
  | .glareSet _ t => fitsWord t
  | .capSet i _ l m => fitsByte i && fitsWord l && fitsWord m
  | .powerSet g w => fitsByte g && fitsWord w
  | .queryDriver g i => fitsByte g && fitsByte i

/-- A request whose payload is well formed; the LINK flag and the tag are always so. -/
def Request.wellFormed (r : Request) : Bool := r.body.wellFormed

end Sys2Proof
end

