-- ==== Sys2Proof/Machine/Operands.lean ====
section
/-! DEFINITION. Port frames: bytes and the CRC-8, the kind codes and lengths, the layouts of requests and replies
(Sections 9.4, 11.1 to 11.3), and the masks, numbers and clamps that every request uses. -/

namespace Sys2Proof.Machine

open Sys2Proof

/-! ## Masks and numbering -/

/-- The segment belongs to the mask (R176: bit n stands for segment n). -/
def maskHas (m : SegMask) (i : SegId) : Bool := m.getLsbD i.val

/-- The mask of the one segment. -/
def maskOf (i : SegId) : SegMask := BitVec.ofNat 16 (2 ^ i.val)

/-- The segments of the one mask and not of the other. -/
def maskMinus (a b : SegMask) : SegMask := a &&& ~~~b

/-- The segments of a mask in ascending order. -/
def maskSegs (m : SegMask) : List SegId := (List.finRange 16).filter (maskHas m ·)

/-- The mask of the segments that satisfy the test. -/
def maskWhere (f : SegId → Bool) : SegMask :=
  (List.finRange 16).foldl (fun m i => if f i then m ||| maskOf i else m) 0

/-- The group of band b of segment s has the number 3 × s + b (R2). -/
def groupOf (s : SegId) (b : BandId) : GroupId := ⟨3 * s.val + b.val, by omega⟩

/-- The segment that owns a group number (R2). -/
def segOf (g : GroupId) : SegId := ⟨g.val / 3, by omega⟩

/-- The band of a group number (R2). -/
def bandOf (g : GroupId) : BandId := ⟨g.val % 3, by omega⟩

/-- A segment number carried in a request, if it is below 16. -/
def segId? (n : Nat) : Option SegId := if h : n < 16 then some ⟨n, h⟩ else none

/-- A sensor number carried in a request, if it is below 32. -/
def sensorId? (n : Nat) : Option SensorId := if h : n < 32 then some ⟨n, h⟩ else none

/-- A group number carried in a request, if it is below 48. -/
def groupId? (n : Nat) : Option GroupId := if h : n < 48 then some ⟨n, h⟩ else none

/-- A band number carried in a request, if it is below 3. -/
def bandId? (n : Nat) : Option BandId := if h : n < 3 then some ⟨n, h⟩ else none

/-! ## Clamps -/

/-- "Clamped to lo..hi" (spec/00_scope.md, Conventions). -/
def clampTo (lo hi n : Nat) : Nat := if n < lo then lo else if hi < n then hi else n

/-- Brought into lo..hi, any value between not a multiple of the step rounded down to one (R10, R133). -/
def clampStep (lo hi step n : Nat) : Nat := if n < lo then lo else if hi < n then hi else n / step * step

/-! ## Bytes and the CRC-8 -/

/-- The byte of eight bits shifted, the most significant first (R153). -/
def byteOfBits (l : List Bool) : Byte := BitVec.ofNat 8 (l.foldl (fun a b => 2 * a + b.toNat) 0)

/-- The whole bytes among the bits shifted in a select period; the bits of a byte cut short are discarded (R153). -/
def bytesOfBits : List Bool → List Byte
  | a :: b :: c :: d :: e :: f :: g :: h :: rest => byteOfBits [a, b, c, d, e, f, g, h] :: bytesOfBits rest
  | _ => []

/-- Bytes as they are shifted, each most significant bit first (R153). -/
def bitsOfBytes (l : List Byte) : List Bool := l.flatMap fun x => (List.finRange 8).map fun i => x.getMsbD i.val

/-- A number in the given count of bytes, most significant first (R176). -/
def beBytes : Nat → Nat → List Byte
  | 0, _ => []
  | k + 1, n => BitVec.ofNat 8 (n / 256 ^ k) :: beBytes k n

/-- Bytes read as one number, most significant first (R176). -/
def beNat (l : List Byte) : Nat := l.foldl (fun a b => a * 256 + b.toNat) 0

/-- Fields of one width packed into one number, the first most significant (R179, level block and sensor statuses). -/
def packFields (width : Nat) (l : List Nat) : Nat := l.foldl (fun a n => a * 2 ^ width + n) 0

/-- One bit of the CRC-8 register: polynomial x^8 + x^2 + x + 1, most significant bit first (R21, R156). -/
def crcShift (c : Byte) : Byte := if c.msb then (c <<< 1) ^^^ 0x07 else c <<< 1

/-- One byte into the CRC-8 register. -/
def crcByte (c b : Byte) : Byte :=
  crcShift (crcShift (crcShift (crcShift (crcShift (crcShift (crcShift (crcShift (c ^^^ b))))))))

/-- The CRC-8 of R21 and R156: initial value 0x00, no reflection, no final inversion. -/
def crc8 (l : List Byte) : Byte := l.foldl crcByte 0

/-- The bytes with their check byte behind them. -/
def withCheck (l : List Byte) : List Byte := l ++ [crc8 l]

/-! ## Statuses -/

/-- The status codes of R176. -/
inductive Status where
  | ok | okClamped | accepted | badFrame | role | range | notConfigured | layoutLocked | busy | tableFull | capped | held
  | segLocked | paused | noLink | skipped | empty | pending
  deriving DecidableEq, Repr

/-- The code of a status (R176). -/
def Status.code : Status → Nat
  | .ok => 0x00
  | .okClamped => 0x01
  | .accepted => 0x02
  | .badFrame => 0x10
  | .role => 0x11
  | .range => 0x12
  | .notConfigured => 0x13
  | .layoutLocked => 0x14
  | .busy => 0x15
  | .tableFull => 0x16
  | .capped => 0x17
  | .held => 0x18
  | .segLocked => 0x19
  | .paused => 0x1A
  | .noLink => 0x1B
  | .skipped => 0x1C
  | .empty => 0x20
  | .pending => 0x21

/-- Codes of 0x10 and above are refusals for the refused flag (R162, R176). -/
def Status.isRefusal (s : Status) : Bool := 0x10 ≤ s.code

/-- The reply of an accepted request: OK_CLAMPED where something was brought into range, OK otherwise. -/
def okStatus (clamped : Bool) : Status := if clamped then .okClamped else .ok

/-! ## Kinds (R177) -/

/-- The kind code (R177). -/
def kindCode : Kind → Nat
  | .nop => 0x01
  | .ident => 0x02
  | .causesRead => 0x03
  | .causesClear => 0x04
  | .enablesWrite => 0x05
  | .eventsRead => 0x06
  | .segRead => 0x07
  | .sensorRead => 0x08
  | .tableRead => 0x09
  | .couplingRead => 0x0A
  | .queryResult => 0x0B
  | .energyRead => 0x0C
  | .calResultRead => 0x0D
  | .segDefine => 0x20
  | .segRemove => 0x21
  | .segTune => 0x22
  | .bandSet => 0x23
  | .layoutLock => 0x24
  | .couplingWrite => 0x25
  | .overrideSet => 0x26
  | .overrideCancel => 0x27
  | .lockSet => 0x28
  | .lockRelease => 0x29
  | .calStart => 0x2A
  | .calAbort => 0x2B
  | .linkPause => 0x2C
  | .linkResume => 0x2D
  | .groupClearFail => 0x2E
  | .restart => 0x2F
  | .holdSet => 0x40
  | .holdSettled => 0x41
  | .glareSet => 0x42
  | .settleSet => 0x43
  | .capSet => 0x60
  | .capCancel => 0x61
  | .powerSet => 0x62
  | .energyClear => 0x63
  | .queryDriver => 0x70

/-- Every kind, in the order of the codes. -/
def allKinds : List Kind :=
  [.nop, .ident, .causesRead, .causesClear, .enablesWrite, .eventsRead, .segRead, .sensorRead, .tableRead, .couplingRead,
    .queryResult, .energyRead, .calResultRead, .segDefine, .segRemove, .segTune, .bandSet, .layoutLock, .couplingWrite,
    .overrideSet, .overrideCancel, .lockSet, .lockRelease, .calStart, .calAbort, .linkPause, .linkResume, .groupClearFail,
    .restart, .holdSet, .holdSettled, .glareSet, .settleSet, .capSet, .capCancel, .powerSet, .energyClear, .queryDriver]

/-- The kind of a code, none for an unknown code (R177). -/
def kindOfCode? (c : Nat) : Option Kind := allKinds.find? (kindCode · == c)

/-- The length of the kind's request frame (R177). -/
def requestLength : Kind → Nat
  | .nop | .ident | .causesRead | .eventsRead | .queryResult | .calResultRead | .layoutLock | .calAbort | .linkPause
  | .linkResume | .restart => 3
  | .segRead | .sensorRead | .tableRead | .couplingRead | .energyRead | .segRemove | .groupClearFail | .settleSet
  | .capCancel => 4
  | .causesClear | .overrideCancel | .lockRelease | .holdSettled | .energyClear | .queryDriver => 5
  | .powerSet => 6
  | .enablesWrite | .segDefine | .lockSet | .holdSet | .glareSet => 7
  | .overrideSet => 9
  | .capSet => 10
  | .bandSet => 13
  | .segTune | .calStart => 15
  | .couplingWrite => 24

/-- The length of the kind's reply frame (R177). -/
def replyLength : Kind → Nat
  | .ident => 16
  | .causesRead => 10
  | .eventsRead => 22
  | .segRead => 40
  | .sensorRead => 18
  | .tableRead => 38
  | .couplingRead => 25
  | .queryResult => 14
  | .energyRead => 37
  | .calResultRead => 37
  | .nop | .causesClear | .enablesWrite | .segDefine | .segRemove | .segTune | .bandSet | .layoutLock | .couplingWrite
  | .overrideSet | .overrideCancel | .lockSet | .lockRelease | .calStart | .calAbort | .linkPause | .linkResume
  | .groupClearFail | .restart | .holdSet | .holdSettled | .glareSet | .settleSet | .capSet | .capCancel | .powerSet
  | .energyClear | .queryDriver => 4

/-- The kind of a request body. -/
def kindOf : Body → Kind
  | .nop => .nop
  | .ident => .ident
  | .causesRead => .causesRead
  | .causesClear _ => .causesClear
  | .enablesWrite _ _ => .enablesWrite
  | .eventsRead => .eventsRead
  | .segRead _ => .segRead
  | .sensorRead _ => .sensorRead
  | .tableRead _ => .tableRead
  | .couplingRead _ => .couplingRead
  | .queryResult => .queryResult
  | .energyRead _ => .energyRead
  | .calResultRead => .calResultRead
  | .segDefine _ _ _ _ => .segDefine
  | .segRemove _ => .segRemove
  | .segTune _ _ _ _ _ _ _ _ _ => .segTune
  | .bandSet _ _ _ _ _ _ => .bandSet
  | .layoutLock => .layoutLock
  | .couplingWrite _ _ _ _ => .couplingWrite
  | .overrideSet _ _ _ => .overrideSet
  | .overrideCancel _ => .overrideCancel
  | .lockSet _ _ => .lockSet
  | .lockRelease _ => .lockRelease
  | .calStart _ _ _ _ _ _ _ => .calStart
  | .calAbort => .calAbort
  | .linkPause => .linkPause
  | .linkResume => .linkResume
  | .groupClearFail _ => .groupClearFail
  | .restart => .restart
  | .holdSet _ _ => .holdSet
  | .holdSettled _ => .holdSettled
  | .glareSet _ _ => .glareSet
  | .settleSet _ => .settleSet
  | .capSet _ _ _ _ => .capSet
  | .capCancel _ => .capCancel
  | .powerSet _ _ => .powerSet
  | .energyClear _ => .energyClear
  | .queryDriver _ _ => .queryDriver

/-- The roles that may issue a kind (R163). A port whose role is OFF issues nothing (R154). -/
def roleMayIssue (r : Role) : Kind → Bool
  | .nop | .ident | .causesRead | .causesClear | .enablesWrite | .eventsRead | .segRead | .sensorRead | .tableRead
  | .couplingRead | .queryResult | .energyRead | .calResultRead => r != .off
  | .segDefine | .segRemove | .segTune | .bandSet | .layoutLock | .restart | .couplingWrite | .overrideSet
  | .overrideCancel | .lockSet | .lockRelease | .calStart | .calAbort | .linkPause | .linkResume | .groupClearFail =>
    r == .floor
  | .holdSet | .holdSettled | .settleSet | .glareSet => r == .shade
  | .capSet | .capCancel | .powerSet | .energyClear => r == .energy
  | .queryDriver => r == .floor || r == .energy

/-! ## Request frames (R178) -/

/-- The byte of a payload at a place. -/
def byteAt (l : List Byte) (i : Nat) : Nat := (l.getD i 0).toNat

/-- The two bytes of a payload from a place on, most significant first. -/
def wordAt (l : List Byte) (i : Nat) : Nat := byteAt l i * 256 + byteAt l (i + 1)

/-- The two bytes of a payload from a place on, as a set of 16 positions. -/
def bitsAt (l : List Byte) (i : Nat) : BitVec 16 := BitVec.ofNat 16 (wordAt l i)

/-- The payload of a kind read into its fields (R178). -/
def parseBody (k : Kind) (l : List Byte) : Body :=
  match k with
  | .nop => .nop
  | .ident => .ident
  | .causesRead => .causesRead
  | .causesClear => .causesClear (bitsAt l 0)
  | .enablesWrite => .enablesWrite (bitsAt l 0) (bitsAt l 2)
  | .eventsRead => .eventsRead
  | .segRead => .segRead (byteAt l 0)
  | .sensorRead => .sensorRead (byteAt l 0)
  | .tableRead => .tableRead (byteAt l 0)
  | .couplingRead => .couplingRead (byteAt l 0)
  | .queryResult => .queryResult
  | .energyRead => .energyRead (byteAt l 0)
  | .calResultRead => .calResultRead
  | .segDefine => .segDefine (byteAt l 0) (byteAt l 1) (byteAt l 2) (byteAt l 3)
  | .segRemove => .segRemove (byteAt l 0)
  | .segTune =>
    .segTune (byteAt l 0) (wordAt l 1) (wordAt l 3) (byteAt l 5) (byteAt l 6) (byteAt l 7) (byteAt l 8) (byteAt l 9)
      (wordAt l 10)
  | .bandSet => .bandSet (byteAt l 0) (byteAt l 1) (wordAt l 2) (wordAt l 4) (wordAt l 6) (wordAt l 8)
  | .layoutLock => .layoutLock
  | .couplingWrite =>
    .couplingWrite (byteAt l 0) (byteAt l 1) (byteAt l 2)
      [(byteAt l 3, wordAt l 4), (byteAt l 6, wordAt l 7), (byteAt l 9, wordAt l 10), (byteAt l 12, wordAt l 13),
        (byteAt l 15, wordAt l 16), (byteAt l 18, wordAt l 19)]
  | .overrideSet => .overrideSet (bitsAt l 0) (wordAt l 2) (wordAt l 4)
  | .overrideCancel => .overrideCancel (bitsAt l 0)
  | .lockSet => .lockSet (bitsAt l 0) (wordAt l 2)
  | .lockRelease => .lockRelease (bitsAt l 0)
  | .calStart =>
    .calStart (bitsAt l 0) (wordAt l 2) (wordAt l 4) (wordAt l 6) (wordAt l 8) (byteAt l 10) (byteAt l 11)
  | .calAbort => .calAbort
  | .linkPause => .linkPause
  | .linkResume => .linkResume
  | .groupClearFail => .groupClearFail (byteAt l 0)
  | .restart => .restart
  | .holdSet => .holdSet (bitsAt l 0) (wordAt l 2)
  | .holdSettled => .holdSettled (bitsAt l 0)
  | .glareSet => .glareSet (bitsAt l 0) (wordAt l 2)
  | .settleSet => .settleSet (byteAt l 0)
  | .capSet => .capSet (byteAt l 0) (bitsAt l 1) (wordAt l 3) (wordAt l 5)
  | .capCancel => .capCancel (byteAt l 0)
  | .powerSet => .powerSet (byteAt l 0) (wordAt l 1)
  | .energyClear => .energyClear (bitsAt l 0)
  | .queryDriver => .queryDriver (byteAt l 0) (byteAt l 1)

/-- The payload bytes of a request body (R178): the layout from the master's side. -/
def payloadOf : Body → List Byte
  | .nop | .ident | .causesRead | .eventsRead | .queryResult | .calResultRead | .layoutLock | .calAbort | .linkPause
  | .linkResume | .restart => []
  | .causesClear c => beBytes 2 c.toNat
  | .enablesWrite e m => beBytes 2 e.toNat ++ beBytes 2 m.toNat
  | .segRead n | .sensorRead n | .tableRead n | .couplingRead n | .energyRead n | .segRemove n | .groupClearFail n
  | .settleSet n | .capCancel n => beBytes 1 n
  | .segDefine a b c d => beBytes 1 a ++ beBytes 1 b ++ beBytes 1 c ++ beBytes 1 d
  | .segTune a t pp db nu nd su sd f =>
    beBytes 1 a ++ beBytes 2 t ++ beBytes 2 pp ++ beBytes 1 db ++ beBytes 1 nu ++ beBytes 1 nd ++ beBytes 1 su
      ++ beBytes 1 sd ++ beBytes 2 f
  | .bandSet a b r k lo hi =>
    beBytes 1 a ++ beBytes 1 b ++ beBytes 2 r ++ beBytes 2 k ++ beBytes 2 lo ++ beBytes 2 hi
  | .couplingWrite a d c ps =>
    beBytes 1 a ++ beBytes 1 d ++ beBytes 1 c ++ ps.flatMap fun q => beBytes 1 q.1 ++ beBytes 2 q.2
  | .overrideSet m l t => beBytes 2 m.toNat ++ beBytes 2 l ++ beBytes 2 t
  | .overrideCancel m | .lockRelease m | .holdSettled m | .energyClear m => beBytes 2 m.toNat
  | .lockSet m l => beBytes 2 m.toNat ++ beBytes 2 l
  | .calStart m lb h l hp su o =>
    beBytes 2 m.toNat ++ beBytes 2 lb ++ beBytes 2 h ++ beBytes 2 l ++ beBytes 2 hp ++ beBytes 1 su ++ beBytes 1 o
  | .holdSet m n => beBytes 2 m.toNat ++ beBytes 2 n
  | .glareSet m t => beBytes 2 m.toNat ++ beBytes 2 t
  | .capSet i m l t => beBytes 1 i ++ beBytes 2 m.toNat ++ beBytes 2 l ++ beBytes 2 t
  | .powerSet g w => beBytes 1 g ++ beBytes 2 w
  | .queryDriver g i => beBytes 1 g ++ beBytes 1 i

/-- The frame of a request, as a master sends it (R156). -/
def requestFrame (r : Request) : List Byte :=
  withCheck (BitVec.ofNat 8 (kindCode (kindOf r.body) + if r.link then 128 else 0) :: r.tag :: payloadOf r.body)

/-- The request of received bytes that begin with a complete frame, none where they do not form one (R159). Bytes beyond
the length of the kind are ignored. -/
def parseFrame (l : List Byte) : Option Request :=
  match l with
  | [] => none
  | b0 :: _ =>
    match kindOfCode? (b0.toNat % 128) with
    | none => none
    | some k =>
      let n := requestLength k
      if l.length < n then none
      else if crc8 (l.take (n - 1)) = l.getD (n - 1) 0 then
        some ⟨b0.msb, l.getD 1 0, parseBody k ((l.take (n - 1)).drop 2)⟩
      else none

/-! ## Reply frames (R156, R179) -/

/-- The reply frame of a kind. With a refusal or SKIPPED every payload byte is 0x00, over the kind's full length. -/
def replyFrame (k : Kind) (tag : Byte) (st : Status) (payload : List Byte) : List Byte :=
  withCheck
    (BitVec.ofNat 8 (kindCode k) :: tag :: BitVec.ofNat 8 st.code
      :: if st.isRefusal then List.replicate (replyLength k - 4) 0 else payload)

/-- The NONE frame with a status (R157, R176). -/
def noneFrame (st : Status) : List Byte := withCheck [0, 0, BitVec.ofNat 8 st.code]

/-- The BAD_FRAME reply to received bytes (R160). -/
def badFrameReply (l : List Byte) : List Byte :=
  withCheck [l.getD 0 0 &&& 0x7F, l.getD 1 0, BitVec.ofNat 8 Status.badFrame.code]

/-- One bit as a number. -/
def bit (b : Bool) : Nat := if b then 1 else 0

/-- A two-byte field that is 0xFFFF when absent (R176). -/
def wordOrAbsent : Option Nat → List Byte
  | none => beBytes 2 0xFFFF
  | some n => beBytes 2 n

/-! ## Field-link frames (R180) -/

/-- The poll frame of a channel: the address byte and its check byte (R20, R180). -/
def pollFrame (c : SensorId) : List Byte := withCheck [BitVec.ofNat 8 c.val]

/-- The item code of a QUERY frame (R180). -/
def itemCode : Item → Nat
  | .ratedPower => 0
  | .status => 1

/-- The 24 bits of the forward frame of a transmission: group, command, data (R113, R180). An answer window carries none. -/
def forwardFrame : Tx → Option (BitVec 24)
  | .setLevel g level _ => some (BitVec.ofNat 24 (g.val * 2 ^ 18 + level))
  | .query g item _ => some (BitVec.ofNat 24 (g.val * 2 ^ 18 + 2 ^ 16 + itemCode item))
  | .window _ _ _ => none

/-- The status of a sensor's reply that stands for FAULT, OK and SATURATED (R180). -/
inductive SensorCode where
  | ok | saturated | fault
  deriving DecidableEq, Repr

/-- The status code of a sensor's reply, none for any other status (R21, R180). -/
def sensorCode? (b : Byte) : Option SensorCode :=
  if b = 0x00 then some .ok else if b = 0x01 then some .saturated else if b = 0x02 then some .fault else none

/-- The data of a STATUS answer (R180). -/
def driverStatus? (d : Nat) : Option DriverStatus :=
  if d = 0 then some .ok else if d = 1 then some .lampFail else if d = 2 then some .driverFault else none

end Sys2Proof.Machine
end

