-- ==== Sys2Proof/Machine/Flags.lean ====
section
/-! DEFINITION. Causes, segment events, the attention output, and the placing of replies (Sections 9.7 and 10). -/

namespace Sys2Proof.Machine

open Sys2Proof

/-- The record at a place changed, every other record as it was. -/
def updAt {α : Type} {n : Nat} (v : Vector α n) (i : Fin n) (f : α → α) : Vector α n := v.set i (f v[i])

/-- The causes of R167. -/
inductive Cause where
  | restarted | replyReady | overrun | frameError | segEvent | queryDone | calDone | holdExpired | overrideExpired
  | capExpired | linkChange
  deriving DecidableEq, Repr

/-- The bit of a cause in a cause set (R178). -/
def Cause.bit : Cause → Nat
  | .restarted => 0
  | .replyReady => 1
  | .overrun => 2
  | .frameError => 3
  | .segEvent => 4
  | .queryDone => 5
  | .calDone => 6
  | .holdExpired => 7
  | .overrideExpired => 8
  | .capExpired => 9
  | .linkChange => 10

/-- The cause set that holds the one cause. -/
def causeMask (c : Cause) : BitVec 16 := BitVec.ofNat 16 (2 ^ c.bit)

/-- The segment events of R170. -/
inductive SegEvent where
  | modeChange | sensorLost | glareOn | glareOff | groupFailed
  deriving DecidableEq, Repr

/-- The bit of a segment event in an event set (R179). -/
def SegEvent.bit : SegEvent → Nat
  | .modeChange => 0
  | .sensorLost => 1
  | .glareOn => 2
  | .glareOff => 3
  | .groupFailed => 4

/-- The event set that holds the one event. -/
def eventMask (e : SegEvent) : BitVec 8 := BitVec.ofNat 8 (2 ^ e.bit)

/-- The positions of an enable set that name an enable-able cause: bits 1 to 10 (R172). -/
def enableable : BitVec 16 := 0x07FE

/-! ## One port -/

/-- Some event set of the port is not empty (R170). -/
def eventsPending (p : Port) : Bool := (List.finRange 16).any fun i => p.events[i] != 0

/-- The port's cause set: the raised causes, and SEG_EVENT exactly while an event set is not empty (R170). -/
def causeSet (p : Port) : BitVec 16 := p.raised ||| (if eventsPending p then causeMask .segEvent else 0)

/-- The attention output is asserted: RESTARTED is present or an enabled cause is (R169). -/
def attention (p : Port) : Bool :=
  p.role != .off && ((causeSet p &&& causeMask .restarted) != 0 || (causeSet p &&& p.enables &&& enableable) != 0)

/-- The cause is raised on the port; a port whose role is OFF does not record it (R154, R167). -/
def raiseAt (c : Cause) (p : Port) : Port := if p.role = .off then p else { p with raised := p.raised ||| causeMask c }

/-- The causes are removed from the port's cause set. -/
def dropCauses (m : BitVec 16) (p : Port) : Port := { p with raised := p.raised &&& ~~~m }

/-- The event of a segment is offered to the port, which records it when it enables the segment (R170). -/
def offerAt (i : SegId) (e : SegEvent) (p : Port) : Port :=
  if p.role = .off || !maskHas p.segMask i then p
  else { p with events := updAt p.events i (· ||| eventMask e) }

/-- The port's event set of the segment is emptied. -/
def clearEventsAt (i : SegId) (p : Port) : Port := { p with events := p.events.set i 0 }

/-- The port is free: both slots empty (R155). -/
def portFree (p : Port) : Bool := p.request.isNone && p.reply.isNone

/-- A reply is placed: the reply slot takes the frame, the request slot empties, REPLY_READY is raised, and the refused
flag follows the status (R161, R162). SKIPPED has a refusal's code and leaves the flag set. -/
def placeReplyAt (k : Kind) (tag : Byte) (st : Status) (payload : List Byte) (p : Port) : Port :=
  raiseAt .replyReady
    { p with request := none, reply := some (replyFrame k tag st payload), progress := .none, refused := st.isRefusal }

/-- The level of data out in a bit period of the select period, counted from 0: the frame fixed at the assertion, each byte
most significant bit first, then 0xFF (R153, R157). A port outside a period releases data out to its high level (R153). -/
def dataOut (p : Port) (n : Nat) : Bool :=
  match p.period with
  | none => true
  | some d => (d.out.getD (n / 8) 0xFF).getMsbD (n % 8)

/-! ## All ports -/

/-- The ports. -/
abbrev Ports := Vector Port 3

/-- A cause raised on the port of one number. -/
def raiseOn (p : PortId) (c : Cause) (v : Ports) : Ports := updAt v p (raiseAt c)

/-- A cause given to every port, raised on each whose role is not OFF (R168). -/
def raiseAll (c : Cause) (v : Ports) : Ports := v.map (raiseAt c)

/-- A cause given to a role, raised on the port that holds it, on none where no port does (R168). -/
def raiseRole (r : Role) (c : Cause) (v : Ports) : Ports := v.map fun p => if p.role = r then raiseAt c p else p

/-- A segment event offered to every port (R59, R170). -/
def offerEvent (i : SegId) (e : SegEvent) (v : Ports) : Ports := v.map (offerAt i e)

end Sys2Proof.Machine
end

