-- ==== Sys2Proof/Machine/Luminaire.lean ====
section
/-! DEFINITION. Operations over the group table and the luminaire link: the arbiter, the placing of a changed level, the
fade step and the new demand (Sections 6.2, 7.2, 7.3). None of them can touch another block. -/

namespace Sys2Proof.Machine

open Sys2Proof

/-! ## Reading the group table -/

/-- The group exists: a record is held for it (R2, R96). -/
def groupExists (l : Lum) (g : GroupId) : Bool := l.groups[g].isSome

/-- The present level of a group; no level is held for a group that does not exist. -/
def presentOf (l : Lum) (g : GroupId) : Nat := (l.groups[g].map (·.present)).getD 0

/-- The level the estimator uses for a group: its present level, or 0 while it is FAILED (R42, R43). -/
def litLevel (l : Lum) (g : GroupId) : Nat := (l.groups[g].map fun r => if r.failed then 0 else r.present).getD 0

/-- The group is at rest: its step timer is stopped (R96). -/
def atRest (l : Lum) (g : GroupId) : Bool := (l.groups[g].map fun r => !r.timer).getD true

/-- The record of an existing group changed. -/
def updGroup (g : GroupId) (f : Group → Group) (l : Lum) : Lum :=
  { l with groups := updAt l.groups g (Option.map f) }

/-! ## The arbiter -/

/-- The query unit holds a query whose QUERY frame has not completed (R118). -/
def queryWaits (k : Link) : Bool :=
  match k.unit with
  | .waiting _ => true
  | _ => false

/-- The query unit is IDLE. -/
def unitIdle (k : Link) : Bool := k.unit == .idle

/-- In RUNNING and DRAINING the arbiter sends (R117). -/
def sends (k : Link) : Bool := k.state == .running || k.state == .draining

/-- One grant of a free link. When both wait, the query goes unless the last grant was QUERY (R117). -/
def grant (k : Link) : Link :=
  if queryWaits k && (k.queue.isEmpty || k.lastGrant == .level) then
    { k with tx := some (.query k.record.group k.record.item true), lastGrant := .query }
  else
    match k.queue with
    | [] => k
    | e :: rest => { k with tx := some (.setLevel e.1 e.2 true), queue := rest, lastGrant := .level }

/-- The arbiter looks at the link: it grants where the state sends and nothing is in transmission (R117). -/
def arbitrate (k : Link) : Link := if sends k && k.tx.isNone then grant k else k

/-- A drain has nothing left to wait for (R124). -/
def drainDone (k : Link) : Bool := k.state == .draining && k.queue.isEmpty && unitIdle k && k.tx.isNone

/-- The link has fallen free: a finished drain enters PAUSED, and otherwise the arbiter looks (R117, R124). The flag says
that a drain ended, on which LINK_CHANGE is raised. -/
def linkFree (k : Link) : Link × Bool :=
  if drainDone k then ({ k with state := .paused }, true) else (arbitrate k, false)

/-! ## Placing a level -/

/-- The group has an entry in the level queue. -/
def queued (k : Link) (g : GroupId) : Bool := k.queue.any (·.1 == g)

/-- The level of the group's entry replaced, the entry in its place (R115). -/
def coalesce (g : GroupId) (level : Nat) (q : List (GroupId × Nat)) : List (GroupId × Nat) :=
  q.map fun e => if e.1 = g then (g, level) else e

/-- An entry appended at the end of the queue, which the arbiter then looks at (R115, R117). -/
def appendLevel (g : GroupId) (level : Nat) (l : Lum) : Lum :=
  { l with link := arbitrate { l.link with queue := l.link.queue ++ [(g, level)] } }

/-- A change of present level is placed by the link state and by what is held for the group (R115). -/
def placeLevel (g : GroupId) (level : Nat) (l : Lum) : Lum :=
  if queued l.link g then { l with link := { l.link with queue := coalesce g level l.link.queue } }
  else
    match l.groups[g] with
    | none => l
    | some r =>
      if r.unsent then l
      else
        match l.link.state with
        | .running | .down => appendLevel g level l
        | .draining | .paused => updGroup g (fun r => { r with unsent := true }) l

/-- The group's present level becomes the level, which is handed to the link (R101). -/
def handOver (g : GroupId) (level : Nat) (l : Lum) : Lum :=
  placeLevel g level (updGroup g (fun r => { r with present := level }) l)

/-! ## Fading -/

/-- The step sizes of a group's segment, rising and falling (R100). -/
structure StepSizes where
  up : Nat
  down : Nat
  deriving DecidableEq, Repr

/-- The level one step from the present toward the demanded, by the smaller of the step size and the distance (R100). -/
def stepLevel (z : StepSizes) (present demanded : Nat) : Nat :=
  if present < demanded then present + min z.up (demanded - present) else present - min z.down (present - demanded)

/-- A new demand handed to the fade engine for one group (R98). -/
def demand (z : StepSizes) (g : GroupId) (level : Nat) (l : Lum) : Lum :=
  match l.groups[g] with
  | none => l
  | some r =>
    if r.demanded = level then l
    else
      let l' := updGroup g (fun r => { r with demanded := level }) l
      if r.timer || r.present == level then l'
      else handOver g (stepLevel z r.present level) (updGroup g (fun r => { r with timer := true }) l')

/-- A group's step timer expires (R99). The flag says that this is the fade-complete event. -/
def fadeExpiry (z : StepSizes) (g : GroupId) (l : Lum) : Lum × Bool :=
  match l.groups[g] with
  | none => (l, false)
  | some r =>
    if !r.timer then (l, false)
    else if r.present = r.demanded then (updGroup g (fun r => { r with timer := false }) l, true)
    else (handOver g (stepLevel z r.present r.demanded) l, false)

/-! ## Existence and refresh -/

/-- The record of a group that comes into existence at a level (R6, R96, R112). -/
def newGroup (level : Nat) : Group := ⟨level, level, false, false, 0, false, none⟩

/-- A group comes into existence at the level, which is handed to the link as a change of present level (R6, R97). -/
def createGroup (level : Nat) (l : Lum) (g : GroupId) : Lum :=
  placeLevel g level { l with groups := l.groups.set g (some (newGroup level)) }

/-- The transmission when the groups of the test cease to exist: a SET_LEVEL frame to one of them records nothing (R8). -/
def txWithout (gone : GroupId → Bool) : Tx → Tx
  | .setLevel g lv kept => .setLevel g lv (kept && !gone g)
  | t => t

/-- The query unit when the groups of the test cease to exist: an answer of one of them applies to nothing (R8, R121). -/
def unitWithout (gone : Bool) : QueryUnit → QueryUnit
  | .idle => .idle
  | .waiting kept => .waiting (kept && !gone)
  | .inFlight kept => .inFlight (kept && !gone)

/-- The groups of the test cease to exist: their records and queue entries go, and a frame or query in progress runs on (R8). -/
def dropGroups (gone : GroupId → Bool) (l : Lum) : Lum where
  groups := Vector.ofFn fun g => if gone g then none else l.groups[g]
  link :=
    { l.link with
      queue := l.link.queue.filter fun e => !gone e.1
      tx := l.link.tx.map (txWithout gone)
      unit := unitWithout (gone l.link.record.group) l.link.unit }

/-- The existing groups of a test in ascending order, each with its present level. -/
def levelsWhere (l : Lum) (f : GroupId → Group → Bool) : List (GroupId × Nat) :=
  (List.finRange 48).filterMap fun g =>
    match l.groups[g] with
    | none => none
    | some r => if f g r then some (g, r.present) else none

/-- Every unsent flag set to the value. -/
def setUnsent (b : Bool) (l : Lum) : Lum :=
  { l with groups := l.groups.map (Option.map fun r => { r with unsent := b }) }

end Sys2Proof.Machine
end

