-- ==== Sys2Proof/Machine/Ops.lean ====
section
/-! DEFINITION. Operations that cross blocks: writing one block of the state, the coverage answers of the request table,
composition, the modes of a segment, the end of a calibration run, the passing on of a table change, and the execution of
the request in a port's slot. -/

namespace Sys2Proof.Machine

open Sys2Proof

/-! ## Writing one block -/

/-- The ports replaced. -/
def State.setPorts (s : State) (x : Ports) : State := { s with ports := x }
/-- The layout store replaced. -/
def State.setLayout (s : State) (x : Layout) : State := { s with layout := x }
/-- The segment controllers replaced. -/
def State.setCtrls (s : State) (x : Vector Ctrl 16) : State := { s with ctrls := x }
/-- The sensor link controller replaced. -/
def State.setSensors (s : State) (x : SensorLink) : State := { s with sensors := x }
/-- The coupling store replaced. -/
def State.setCoupling (s : State) (x : CouplingStore) : State := { s with coupling := x }
/-- The request table replaced. -/
def State.setTable (s : State) (x : Table) : State := { s with table := x }
/-- The group table and link controller replaced. -/
def State.setLum (s : State) (x : Lum) : State := { s with lum := x }
/-- The energy accumulators replaced. -/
def State.setEnergy (s : State) (x : Vector Energy 16) : State := { s with energy := x }
/-- The calibration sequencer replaced. -/
def State.setCal (s : State) (x : Calibration) : State := { s with cal := x }

/-- The table's entries replaced. -/
def setEntries (t : List Entry) (s : State) : State := s.setTable { s.table with entries := t }

/-- One configuration record changed. -/
def updSeg (i : SegId) (f : SegConfig → SegConfig) (s : State) : State :=
  s.setLayout { s.layout with segs := updAt s.layout.segs i f }

/-- One controller record changed. -/
def updCtrl (i : SegId) (f : Ctrl → Ctrl) (s : State) : State := s.setCtrls (updAt s.ctrls i f)

/-! ## Reading the layout -/

/-- The segment's configuration record. -/
def segCfg (s : State) (i : SegId) : SegConfig := s.layout.segs[i]

/-- The segment is configured (R1). -/
def configured (s : State) (i : SegId) : Bool := (segCfg s i).configured

/-- The segment's mode (R52). -/
def modeOf (s : State) (i : SegId) : Mode := s.ctrls[i].mode

/-- The mask of the configured segments. -/
def configuredMask (s : State) : SegMask := maskWhere (configured s)

/-- The bands below a band count. -/
def bandsBelow (n : Nat) : List BandId := (List.finRange 3).filter (·.val < n)

/-- The bands of the segment (R2). -/
def bandsOf (s : State) (i : SegId) : List BandId := bandsBelow (segCfg s i).bandCount

/-- A value for each band below a band count, 0 at the others, which hold none. -/
def perBand (n : Nat) (f : BandId → Nat) : Vector Nat 3 := Vector.ofFn fun b => if b.val < n then f b else 0

/-- The segment has the sensor as primary or secondary (R3). -/
def segUses (c : SegConfig) (k : SensorId) : Bool := c.configured && (c.primary == some k || c.secondary == some k)

/-- The sensor is assigned: some configured segment uses it (R3). -/
def assigned (y : Layout) (k : SensorId) : Bool := (List.finRange 16).any fun i => segUses y.segs[i] k

/-! ## Coverage (R93) -/

/-- The level of the OVERRIDE entry that covers the segment. -/
def overrideOver (t : List Entry) (i : SegId) : Option Nat :=
  t.findSome? fun e =>
    match e.ask with
    | .override level _ => if maskHas e.mask i then some level else none
    | _ => none

/-- The level of the LOCK entry that covers the segment. -/
def lockOver (t : List Entry) (i : SegId) : Option Nat :=
  t.findSome? fun e =>
    match e.ask with
    | .lock level => if maskHas e.mask i then some level else none
    | _ => none

/-- A HOLD entry, settling or not, covers the segment. -/
def holdOver (t : List Entry) (i : SegId) : Bool :=
  t.any fun e =>
    match e.ask with
    | .hold _ _ => maskHas e.mask i
    | _ => false

/-- The levels of the CAP entries that cover the segment. -/
def capsOver (t : List Entry) (i : SegId) : List Nat :=
  t.filterMap fun e =>
    match e.ask with
    | .cap _ level _ => if maskHas e.mask i then some level else none
    | _ => none

/-- The lowest level among the CAP entries that cover the segment: its effective cap level (R69). -/
def lowestCap (t : List Entry) (i : SegId) : Option Nat := (capsOver t i).min?

/-! ## Composition -/

/-- The base of a band in the modes that compose one (R52, R68). -/
def baseLevel (cfg : SegConfig) (c : Ctrl) (b : BandId) : Nat :=
  match c.mode with
  | .active => c.outputs[b].value
  | .degraded => cfg.fallback
  | .start => c.startSnap[b]
  | .held => c.heldSnap[b]
  | .unconfigured | .locked | .calibrating => 0

/-- A base under the effective cap level (R68). -/
def capped (cap : Option Nat) (base : Nat) : Nat :=
  match cap with
  | none => base
  | some c => min c base

/-- The level that composition demands of a band's group (R68). -/
def demandLevel (s : State) (i : SegId) (b : BandId) : Nat :=
  match modeOf s i with
  | .calibrating => (s.cal.run.map fun r => r.assigned[groupOf i b]).getD 0
  | .locked => (lockOver s.table.entries i).getD 0
  | .unconfigured => 0
  | .start | .active | .degraded | .held =>
    capped (lowestCap s.table.entries i)
      ((overrideOver s.table.entries i).getD (baseLevel (segCfg s i) s.ctrls[i] b))

/-- The step sizes of a segment's groups (R100). -/
def stepSizes (s : State) (i : SegId) : StepSizes :=
  match modeOf s i with
  | .locked | .calibrating => ⟨100, 100⟩
  | .unconfigured | .start | .active | .degraded | .held => ⟨(segCfg s i).sUp, (segCfg s i).sDown⟩

/-- The segment is recomposed: each of its groups is handed its demanded level, in ascending order (R70, R98). -/
def recompose (i : SegId) (s : State) : State :=
  s.setLum ((bandsOf s i).foldl (fun l b => demand (stepSizes s i) (groupOf i b) (demandLevel s i b) l) s.lum)

/-! ## Modes -/

/-- A segment event raised for the segment (R59). -/
def raiseEvent (i : SegId) (e : SegEvent) (s : State) : State := s.setPorts (offerEvent i e s.ports)

/-- The present level of each band's group, 0 where the band has none. -/
def presentLevels (l : Lum) (i : SegId) : Vector Nat 3 := Vector.ofFn fun b => presentOf l (groupOf i b)

/-- The record's control outputs marked invalid, their values kept (R12, R54). -/
def invalidate (c : Ctrl) : Ctrl := { c with outputs := c.outputs.map fun o => { o with valid := false } }

/-- Entry to START with the groups' present levels (R54). -/
def enterStart (snap : Vector Nat 3) (c : Ctrl) : Ctrl :=
  { invalidate c with mode := .start, filter := none, bandDaylight := Vector.replicate 3 none, startSnap := snap }

/-- The held snapshot written at an entry to HELD, by the mode the segment leaves (R57). -/
def heldFrom (cfg : SegConfig) (snap : Vector Nat 3) (c : Ctrl) : Vector Nat 3 :=
  match c.mode with
  | .start => c.startSnap
  | .active => Vector.ofFn fun b => c.outputs[b].value
  | .degraded => perBand cfg.bandCount fun _ => cfg.fallback
  | .unconfigured | .held | .locked | .calibrating => snap

/-- The record after a change to another mode (R54, R57, R58). -/
def enterMode (m : Mode) (cfg : SegConfig) (snap : Vector Nat 3) (c : Ctrl) : Ctrl :=
  match m with
  | .start => enterStart snap c
  | .held => { c with mode := .held, heldSnap := heldFrom cfg snap c }
  | .unconfigured | .active | .degraded | .locked | .calibrating => { c with mode := m }

/-- The segment's mode becomes the given one; a change raises MODE_CHANGE (R59). -/
def changeMode (i : SegId) (m : Mode) (s : State) : State :=
  if modeOf s i = m then s
  else raiseEvent i .modeChange (updCtrl i (enterMode m (segCfg s i) (presentLevels s.lum i)) s)

/-- The mode by the coverage after a table change (R56). -/
def modeByCoverage (m : Mode) (lock hold : Bool) : Mode :=
  match m with
  | .unconfigured => .unconfigured
  | .calibrating => .calibrating
  | .start | .active | .degraded => if lock then .locked else if hold then .held else m
  | .held | .locked => if lock then .locked else if hold then .held else .start

/-- The mode in which a segment leaves CALIBRATING (R58). -/
def exitMode (lock hold : Bool) : Mode := if lock then .locked else if hold then .held else .start

/-- A LOCK entry covers the segment. -/
def isLocked (s : State) (i : SegId) : Bool := (lockOver s.table.entries i).isSome

/-- A HOLD entry covers the segment. -/
def isHeld (s : State) (i : SegId) : Bool := holdOver s.table.entries i

/-- A segment informed of a table change sets its mode from the coverage and recomposes once (R56, R91). -/
def informSegment (s : State) (i : SegId) : State :=
  if configured s i then recompose i (changeMode i (modeByCoverage (modeOf s i) (isLocked s i) (isHeld s i)) s) else s

/-- A segment leaves CALIBRATING at the end of a run and is recomposed once (R58). -/
def leaveCalibrating (s : State) (i : SegId) : State :=
  if modeOf s i = .calibrating then recompose i (changeMode i (exitMode (isLocked s i) (isHeld s i)) s) else s

/-! ## The end of a calibration run -/

/-- The sequencer enters IDLE with the result record given; the involved segments leave CALIBRATING and CAL_DONE is raised
on the FLOOR port (R146, R147). The order of the segments is the model's (DESIGN CHOICE, log 9). -/
def endRun (r : CalRun) (res : CalResult) (s : State) : State :=
  let s := (maskSegs r.segments).foldl leaveCalibrating (s.setCal ⟨none, res⟩)
  s.setPorts (raiseRole .floor .calDone s.ports)

/-- A run in progress is aborted with the reason (R147); in IDLE nothing happens. -/
def abortRun (why : AbortReason) (s : State) : State :=
  match s.cal.run with
  | none => s
  | some r => endRun r { s.cal.result with outcome := .aborted why } s

/-- The reason for which an inserted or changed entry aborts the run (R148). -/
def abortReason (r : CalRun) (e : Entry) : Option AbortReason :=
  if e.mask &&& r.segments = 0 then none
  else
    match e.ask with
    | .override _ _ => some .occupant
    | .hold _ _ => some .shade
    | .lock _ => some .lock
    | .cap _ level _ => if level < max r.params.highEff r.params.base then some .capped else none

/-- The sequencer is informed of an inserted or changed entry (R92, R148). -/
def informSequencer (e : Entry) (s : State) : State :=
  match s.cal.run with
  | none => s
  | some r =>
    match abortReason r e with
    | none => s
    | some why => abortRun why s

/-! ## Table changes -/

/-- The segments of the mask taken out of the entries of the test; entries that empty are deleted (R83, R85, R86, R9). -/
def takeOut (sel : Entry → Bool) (m : SegMask) (t : List Entry) : List Entry :=
  t.filterMap fun e =>
    if sel e then (if maskMinus e.mask m = 0 then none else some { e with mask := maskMinus e.mask m }) else some e

/-- The segments that the entries altered by `takeOut` covered before it. -/
def takenFrom (sel : Entry → Bool) (m : SegMask) (t : List Entry) : SegMask :=
  (t.filter fun e => sel e && e.mask &&& m != 0).foldl (fun a e => a ||| e.mask) 0

/-- One table change: the entries become the given ones, the sequencer learns of the entry inserted or changed in place,
and then each segment that an altered entry covered before or covers after is informed, in ascending order (R91; log 9). -/
def tableChange (entries : List Entry) (inserted : Option Entry) (informed : SegMask) (s : State) : State :=
  let s := setEntries entries s
  let s := match inserted with
    | none => s
    | some e => informSequencer e s
  (maskSegs informed).foldl informSegment s

/-! ## Executing the request in a port's slot -/

/-- What an owning block hands back: the state with its effects, the status and the reply's payload (R161). -/
structure Response where
  state : State
  status : Status
  payload : List Byte

/-- A refusal changes nothing beyond the port (R81, R162). -/
def refuse (st : Status) (s : State) : Response := ⟨s, st, []⟩

/-- An accepted request, with OK_CLAMPED where something was brought into range. -/
def accept (clamped : Bool) (s : State) : Response := ⟨s, okStatus clamped, []⟩

/-- A reading request: OK with a payload, and nothing changed. -/
def answer (payload : List Byte) (s : State) : Response := ⟨s, .ok, payload⟩

/-- The reply to a request is placed at its port (R161). -/
def placeReply (p : PortId) (r : Request) (st : Status) (payload : List Byte) (s : State) : State :=
  s.setPorts (updAt s.ports p (placeReplyAt (kindOf r.body) r.tag st payload))

/-- What becomes of the request in a port's slot. -/
inductive Admission where
  /-- No request of the kind waits there. -/
  | absent
  /-- LINK after a refusal: replied SKIPPED (R162). -/
  | skipped (r : Request)
  /-- A kind reserved to other roles: replied ROLE (R163). -/
  | roleRefused (r : Request)
  /-- Handed to its owning block. -/
  | admitted (r : Request)

/-- The port's own checks on the request of a kind in its slot: the LINK check, then the role check (R162, R163). -/
def admission (p : PortId) (k : Kind) (s : State) : Admission :=
  match s.ports[p].request with
  | none => .absent
  | some r =>
    if s.ports[p].role = .off || kindOf r.body != k then .absent
    else if r.link && s.ports[p].refused then .skipped r
    else if roleMayIssue s.ports[p].role k then .admitted r
    else .roleRefused r

/-- The request of a kind in a port's slot is executed by its owning block and replied, as one event (R161). Where no such
request waits, nothing happens (log 2). -/
def serve (p : PortId) (k : Kind) (owner : Body → State → Response) (s : State) : State :=
  match admission p k s with
  | .absent => s
  | .skipped r => placeReply p r .skipped [] s
  | .roleRefused r => placeReply p r .role [] s
  | .admitted r =>
    let x := owner r.body s
    placeReply p r x.status x.payload x.state

end Sys2Proof.Machine
end

