-- ==== Sys2Proof/Machine/CalCommands.lean ====
section
/-! DEFINITION. The calibration sequencer (Section 8): the start of a run, its phases and stages, the arithmetic of its
results, the commit, and the abort and reading requests. -/

namespace Sys2Proof.Machine

open Sys2Proof Host

/-! ## Levels, phases and stages -/

/-- The level of an involved group in a phase (R137). -/
def phaseLevel (f : Phase) (q : CalParams) (isProbe : Bool) : Nat :=
  match f with
  | .settleBase => if q.dark = .first then 0 else q.base
  | .dark => 0
  | .probeHigh => if isProbe then q.highEff else q.base
  | .probeLow => if isProbe then q.low else q.base

/-- The group at a probe position. -/
def probeGroup (groups : List GroupId) (probe : Nat) : Option GroupId := groups[probe]?

/-- The levels a phase assigns to the involved groups (R137). -/
def phaseLevels (f : Phase) (q : CalParams) (groups : List GroupId) (probe : Nat) : Vector Nat 48 :=
  Vector.ofFn fun g => if groups.contains g then phaseLevel f q (probeGroup groups probe == some g) else 0

/-- Every involved group is at rest with its present level equal to its assigned level (R138). -/
def fadeWaitMet (r : CalRun) (l : Lum) : Bool := r.groups.all fun g => atRest l g && presentOf l g == r.assigned[g]

/-- The run in progress replaced. -/
def setRun (r : CalRun) (s : State) : State := s.setCal { s.cal with run := some r }

/-- The sequencer tests the fade wait: where it is met, SETTLE begins and the stage timer starts for s (R138). -/
def testFadeWait (s : State) : State :=
  match s.cal.run with
  | none => s
  | some r =>
    if r.stage = .fadeWait && fadeWaitMet r s.lum then
      setRun { r with stage := .settle, timer := some r.params.settle } s
    else s

/-- The involved segments with a group whose assigned level differs between the two, in ascending order. -/
def changedSegs (r : CalRun) (new : Vector Nat 48) : List SegId :=
  (maskSegs r.segments).filter fun i => r.groups.any fun g => segOf g == i && r.assigned[g] != new[g]

/-- Entry to a phase: the levels change together, the segments concerned are recomposed once each, and the fade wait is
tested (R137, R138). The order of the segments is the model's (DESIGN CHOICE, log 9). -/
def enterPhase (f : Phase) (probe cycle : Nat) (r : CalRun) (s : State) : State :=
  let new := phaseLevels f r.params r.groups probe
  let s := setRun { r with phase := f, stage := .fadeWait, timer := none, probe := probe, cycle := cycle, assigned := new } s
  testFadeWait ((changedSegs r new).foldl (fun s i => recompose i s) s)

/-! ## Arithmetic -/

/-- A quotient rounded half up. -/
def roundHalfUp (n d : Nat) : Nat := (2 * n + d) / (2 * d)

/-- The pending dark offset of a sensor at the end of the DARK window (R140). -/
def darkOffset (a : CalSensor) : PendingDark :=
  if a.darkCount = 0 then .rejected
  else if 255 < roundHalfUp a.darkSum a.darkCount then .rejected
  else .measured (roundHalfUp a.darkSum a.darkCount)

/-- The coefficient of a pair, none where it is unmeasured (R143). -/
def coefficient (q : CalParams) (a : CalSensor) : Option Nat :=
  if a.highCount = 0 || a.lowCount = 0 then none
  else
    let n : Int := ((a.highSum * a.lowCount : Nat) - (a.lowSum * a.highCount : Nat) : Int) * 1000
    let d := a.highCount * a.lowCount * (q.highEff - q.low)
    some (if n < 0 then 0 else min 4095 (roundHalfUp n.toNat d))

/-- The pair of the probe group and a sensor is entered in the pending results, and the high and low sums are cleared (R141,
R143). -/
def settlePair (q : CalParams) (g : GroupId) (a : CalSensor) : CalSensor :=
  { a with
    highSum := 0, highCount := 0, lowSum := 0, lowCount := 0
    measured := match coefficient q a with
      | none => a.measured
      | some c => a.measured ++ [⟨g, c⟩] }

/-- A change of what the run gathers for each involved sensor. -/
def mapInvolved (r : CalRun) (f : CalSensor → CalSensor) : CalRun :=
  { r with gathered := Vector.ofFn fun k => if r.sensors.contains k then f r.gathered[k] else r.gathered[k] }

/-! ## Commit -/

/-- The pending coefficient of a group at a sensor, none while the pair is unmeasured. -/
def measuredOf (a : CalSensor) (g : GroupId) : Option Nat := (a.measured.find? (·.group == g)).map (·.coeff)

/-- The coefficient of a group in a coupling list. -/
def coeffIn (l : List Coupling) (g : GroupId) : Option Nat := (l.find? (·.group == g)).map (·.coeff)

/-- The candidate of a group for a sensor's new list: a measured coefficient of 2 or more, or the old entry where the group
is not involved or its pair is unmeasured (R145). An old entry of coefficient 1 stays a candidate, as step 1 of R145 has it;
the closing text of R145 gives every kept candidate 2 to 4095 (DESIGN CHOICE, log 34). -/
def candidate (r : CalRun) (a : CalSensor) (old : List Coupling) (g : GroupId) : Option Coupling :=
  match (if r.groups.contains g then measuredOf a g else none) with
  | some c => if 2 ≤ c then some ⟨g, c⟩ else none
  | none => (coeffIn old g).map fun c => ⟨g, c⟩

/-- One candidate goes before another: the larger coefficient, and of equal ones the lower group number (R145). -/
def before (a b : Coupling) : Bool := b.coeff < a.coeff || (a.coeff == b.coeff && a.group < b.group)

/-- The six that go first, in the order they stand in (R145). -/
def topSix (l : List Coupling) : List Coupling := l.filter fun c => (l.filter fun d => before d c).length < 6

/-- The new coupling list of an involved sensor, in ascending group order (R145). -/
def newList (r : CalRun) (a : CalSensor) (old : List Coupling) : List Coupling :=
  topSix ((List.finRange 48).filterMap (candidate r a old))

/-- The status of an involved sensor at the commit (R146). -/
def sensorStatus (r : CalRun) (a : CalSensor) : SensorStatus :=
  if r.groups.all (fun g => (measuredOf a g).isNone) && (r.params.dark == .none || a.darkCount == 0) then .noSamples
  else if r.params.dark != .none && a.dark == .rejected then .darkRejected
  else if r.groups.any fun g => (measuredOf a g).isNone then .partly
  else .updated

/-- The coupling store after a commit: the new lists of the involved sensors, and the dark offsets measured (R146). -/
def commitStore (r : CalRun) (x : CouplingStore) : CouplingStore where
  lists := Vector.ofFn fun k => if r.sensors.contains k then newList r r.gathered[k] x.lists[k] else x.lists[k]
  dark := Vector.ofFn fun k =>
    if r.sensors.contains k then
      match r.gathered[k].dark with
      | .measured d => d
      | .notTaken | .rejected => x.dark[k]
    else x.dark[k]

/-- The result record after a commit (R146). -/
def commitResult (r : CalRun) (x : CalResult) : CalResult :=
  { x with
    outcome := .done
    statuses := Vector.ofFn fun k => if r.sensors.contains k then sensorStatus r r.gathered[k] else x.statuses[k] }

/-- The commit of a run (R145, R146). -/
def commit (r : CalRun) (s : State) : State :=
  endRun r (commitResult r s.cal.result) (s.setCoupling (commitStore r s.coupling))

/-! ## The stage timer -/

/-- What follows the end of a phase (R139 to R141). -/
def nextPhase (r : CalRun) (s : State) : State :=
  match r.phase with
  | .settleBase =>
    if r.params.dark = .first then enterPhase .dark 0 1 r s else enterPhase .probeHigh 0 1 r s
  | .dark =>
    let r := mapInvolved r fun a => { a with dark := darkOffset a }
    if r.params.dark = .first then enterPhase .probeHigh 0 1 r s else commit r s
  | .probeHigh => enterPhase .probeLow r.probe r.cycle r s
  | .probeLow =>
    if r.cycle < r.params.loops then enterPhase .probeHigh r.probe (r.cycle + 1) r s
    else
      let r := match probeGroup r.groups r.probe with
        | none => r
        | some g => mapInvolved r (settlePair r.params g)
      if r.probe + 1 < r.groups.length then enterPhase .probeHigh (r.probe + 1) 1 r s
      else if r.params.dark = .last then enterPhase .dark r.probe r.cycle r s
      else commit r s

/-- The stage timer of a run expires (R138). -/
def stageExpiry (r : CalRun) (s : State) : State :=
  match r.stage with
  | .fadeWait => s
  | .settle =>
    let next := if r.phase = .settleBase then Stage.baseHold else Stage.sample
    setRun { r with stage := next, timer := some (r.params.half - r.params.settle) } s
  | .sample | .baseHold => nextPhase r s

/-- CAL_STAGE_TIMER_EXPIRY (R138). A timer that is not running does not expire (log 2). -/
def calStageTimerExpiry (s : State) : State :=
  match s.cal.run with
  | none => s
  | some r => if r.timer.isSome then stageExpiry r s else s

/-- CAL_STAGE_TIMER_EXPIRY (R138). -/
def execCalStageTimerExpiry (s : State) : Outcome State Fault Refusal := .next (calStageTimerExpiry s)

/-! ## The start of a run -/

/-- The dark option of its code (R178). -/
def darkOption? (n : Nat) : Option DarkOption :=
  if n = 0 then some .none else if n = 1 then some .first else if n = 2 then some .last else none

/-- The level of the lowest CAP entry over any segment of the mask, or 1000 (R135). -/
def capMin (t : List Entry) (m : SegMask) : Nat := (((maskSegs m).filterMap (lowestCap t)).min?).getD 1000

/-- The parameters brought into range, with H_eff under the cap (R133, R135). `settle` is in ms. -/
def takeParams (cap base high low half settle loops : Nat) (d : DarkOption) : CalParams :=
  let h := clampStep 500 10000 100 half
  { base := min base 1000, high := min high 1000, highEff := min (min high 1000) cap, low := min low 1000, half := h,
    settle := clampStep 100 (h - 100) 100 settle, loops := clampTo 1 15 loops, dark := d }

/-- A parameter was adjusted at the acceptance (R133). -/
def adjusted (q : CalParams) (base high low half settle loops : Nat) : Bool :=
  q.base != base || q.high != high || q.low != low || q.half != half || q.settle != settle || q.loops != loops

/-- The level checks of R135, the status of the first that fails. -/
def levelCheck (cap : Nat) (q : CalParams) : Option Status :=
  if cap < q.base then some .capped
  else if q.high < q.low + 100 then some .range
  else if q.highEff < q.low + 100 then some .capped
  else none

/-- What a run has gathered for a sensor at its acceptance (R136). -/
def CalSensor.initial : CalSensor := ⟨0, 0, 0, 0, 0, 0, [], .notTaken⟩

/-- The run accepted over a mask (R136), in SETTLE_BASE. -/
def newRun (m : SegMask) (q : CalParams) (s : State) : CalRun :=
  let groups := (List.finRange 48).filter fun g => maskHas m (segOf g) && groupExists s.lum g
  { phase := .settleBase, stage := .fadeWait, segments := m, groups := groups
    sensors := (List.finRange 32).filter fun k => (maskSegs m).any fun i => segUses (segCfg s i) k
    params := q, probe := 0, cycle := 1, assigned := phaseLevels .settleBase q groups 0, timer := none
    gathered := Vector.replicate 32 CalSensor.initial }

/-- A segment enters CALIBRATING and is recomposed once (R58, R136). -/
def enterCalibrating (s : State) (i : SegId) : State := recompose i (changeMode i .calibrating s)

/-- A run begins (R136). The order of the segments is the model's (DESIGN CHOICE, log 9). -/
def beginRun (m : SegMask) (q : CalParams) (clamped : Bool) (s : State) : State :=
  let res : CalResult := ⟨.running, m, q, clamped, Vector.replicate 32 .notInvolved⟩
  testFadeWait ((maskSegs m).foldl enterCalibrating (s.setCal ⟨some (newRun m q s), res⟩))

/-- The owner of CAL_START, its checks in the order of R134 and R135. -/
def calStart (mask : SegMask) (base high low half settleUnits option : Nat) (s : State) : Response :=
  let m := mask &&& configuredMask s
  let cap := capMin s.table.entries m
  if s.cal.run.isSome then refuse .busy s
  else if m = 0 then refuse .notConfigured s
  else if (maskSegs m).any fun i => modeOf s i == .locked then refuse .segLocked s
  else if (maskSegs m).any fun i => modeOf s i == .held then refuse .held s
  else
    match s.lum.link.state with
    | .draining | .paused => refuse .paused s
    | .down => refuse .noLink s
    | .running =>
      match darkOption? (option / 16) with
      | none => refuse .range s
      | some d =>
        let q := takeParams cap base high low half (settleUnits * 50) (option % 16) d
        match levelCheck cap q with
        | some st => refuse st s
        | none =>
          let clamped := m != mask || adjusted q base high low half (settleUnits * 50) (option % 16)
          ⟨beginRun m q clamped s, .accepted, []⟩

/-- CAL_START (R134). -/
def execCalStart (p : PortId) (s : State) : Outcome State Fault Refusal :=
  .next (serve p .calStart
    (fun b s => match b with
      | .calStart m lb h l hp su o => calStart m lb h l hp su o s
      | _ => refuse .badFrame s) s)

/-- CAL_ABORT (R149). -/
def execCalAbort (p : PortId) (s : State) : Outcome State Fault Refusal :=
  .next (serve p .calAbort (fun _ s => accept false (abortRun .request s)) s)

/-! ## Reading the record -/

/-- The code of an outcome with its reason, the outcome in bits 7 to 4 (R179). -/
def calOutcomeCode : CalOutcome → Nat
  | .none => 0x00
  | .running => 0x10
  | .done => 0x20
  | .aborted .request => 0x31
  | .aborted .occupant => 0x32
  | .aborted .shade => 0x33
  | .aborted .lock => 0x34
  | .aborted .capped => 0x35
  | .aborted .link => 0x36
  | .aborted .restart => 0x37

/-- The code of a dark option (R178). -/
def darkCode : DarkOption → Nat
  | .none => 0
  | .first => 1
  | .last => 2

/-- The code of a sensor status (R179). -/
def statusCode : SensorStatus → Nat
  | .notInvolved => 0
  | .updated => 1
  | .partly => 2
  | .noSamples => 3
  | .darkRejected => 4

/-- The code of a phase (R179). -/
def phaseCode : Phase → Nat
  | .settleBase => 1
  | .dark => 2
  | .probeHigh => 3
  | .probeLow => 4

/-- The code of a stage (R179). -/
def stageCode : Stage → Nat
  | .fadeWait => 1
  | .settle => 2
  | .sample => 3
  | .baseHold => 4

/-- A phase that walks the probe groups. -/
def isProbePhase : Phase → Bool
  | .probeHigh | .probeLow => true
  | .settleBase | .dark => false

/-- The progress bytes of CAL_RESULT_READ: state and stage, probe position, the group at that position, cycle, number of
involved groups. In SETTLE_BASE and DARK the position reads 0 (R151; log 14). -/
def progressBytes : Option CalRun → List Byte
  | none => List.replicate 5 0
  | some r =>
    let probe := if isProbePhase r.phase then r.probe else 0
    beBytes 1 (phaseCode r.phase * 16 + stageCode r.stage) ++ beBytes 1 probe
      ++ beBytes 1 (((probeGroup r.groups probe).map (·.val)).getD 0)
      ++ beBytes 1 (if isProbePhase r.phase then r.cycle else 0) ++ beBytes 1 r.groups.length

/-- The payload of CAL_RESULT_READ (R151, R179). Bit 6 of the parameter byte is unsaid and reads 0 (log 32). -/
def calPayload (s : State) : List Byte :=
  let x := s.cal.result
  beBytes 1 (calOutcomeCode x.outcome) ++ beBytes 2 x.segments.toNat ++ beBytes 2 x.params.base ++ beBytes 2 x.params.high
    ++ beBytes 2 x.params.highEff ++ beBytes 2 x.params.low ++ beBytes 2 x.params.half ++ beBytes 2 x.params.settle
    ++ beBytes 1 (bit x.clamped * 128 + darkCode x.params.dark * 16 + x.params.loops)
    ++ beBytes 12 (packFields 3 ((List.finRange 32).map fun k => statusCode x.statuses[k]))
    ++ progressBytes s.cal.run

/-- CAL_RESULT_READ (R151). -/
def execCalResultRead (p : PortId) (s : State) : Outcome State Fault Refusal :=
  .next (serve p .calResultRead (fun _ s => answer (calPayload s) s) s)

end Sys2Proof.Machine
end

