-- ==== Sys2Proof/Machine/FadeCommands.lean ====
section
/-! DEFINITION. The fade step timer, the energy tick and the energy requests (Sections 6.2 and 6.4). -/

namespace Sys2Proof.Machine

open Sys2Proof Host

/-- FADE_STEP: a group's step timer expires; the fade-complete event is handed to the sequencer (R99, R138). -/
def fadeStep (g : GroupId) (s : State) : State :=
  let x := fadeExpiry (stepSizes s (segOf g)) g s.lum
  let s := s.setLum x.1
  if x.2 && ((s.cal.run.map fun r => r.groups.contains g).getD false) then testFadeWait s else s

/-- FADE_STEP (R99). -/
def execFadeStep (g : GroupId) (s : State) : Outcome State Fault Refusal := .next (fadeStep g s)

/-! ## Energy -/

/-- What a group draws, in permille-watts: nothing while it is FAILED (R107). -/
def groupDraw (l : Lum) (g : GroupId) : Nat :=
  (l.groups[g].map fun r => if r.failed then 0 else r.present * r.power).getD 0

/-- The sum over the segment's existing groups (R107). -/
def segDraw (l : Lum) (i : SegId) : Nat := ((List.finRange 3).map fun b => groupDraw l (groupOf i b)).sum

/-- The units of the fraction that make one watt-hour (R106). -/
def unitsPerWh : Nat := 3600000

/-- The ceiling of an energy accumulator (R106). -/
def energyCeiling : Nat := 4294967295

/-- One tick of a configured segment (R107). -/
def tickEnergy (draw : Nat) (e : Energy) : Energy :=
  ⟨min energyCeiling (e.wh + (e.frac + draw) / unitsPerWh), (e.frac + draw) % unitsPerWh⟩

/-- ENERGY_TICK: each configured segment adds one second's energy (R107). -/
def energyTick (s : State) : State :=
  s.setEnergy (Vector.ofFn fun i => if configured s i then tickEnergy (segDraw s.lum i) s.energy[i] else s.energy[i])

/-- ENERGY_TICK (R107). -/
def execEnergyTick (s : State) : Outcome State Fault Refusal := .next (energyTick s)

/-- The present demand of a segment in whole watts, 0 while it is unconfigured (R108). -/
def presentDemand (s : State) (i : SegId) : Nat := if configured s i then segDraw s.lum i / 1000 else 0

/-- The record of one segment position in ENERGY_READ (R109, R179). -/
def energyRecord (s : State) (n : Nat) : List Byte :=
  match segId? n with
  | none => List.replicate 7 0
  | some i => beBytes 1 (bit (configured s i)) ++ beBytes 4 s.energy[i].wh ++ beBytes 2 (presentDemand s i)

/-- The payload of ENERGY_READ (R109, R179). -/
def energyPayload (n : Nat) (s : State) : List Byte :=
  beBytes 1 n ++ beBytes 4 s.table.uptime ++ (List.range 4).flatMap fun j => energyRecord s (n + j)

/-- The owner of ENERGY_READ (R109). -/
def energyRead (n : Nat) (s : State) : Response := if 16 ≤ n then refuse .range s else answer (energyPayload n s) s

/-- ENERGY_READ (R109). -/
def execEnergyRead (p : PortId) (s : State) : Outcome State Fault Refusal :=
  .next (serve p .energyRead
    (fun b s => match b with
      | .energyRead n => energyRead n s
      | _ => refuse .badFrame s) s)

/-- The owner of ENERGY_CLEAR (R110). -/
def energyClear (mask : SegMask) (s : State) : Response :=
  let m := mask &&& configuredMask s
  if m = 0 then refuse .notConfigured s
  else
    accept (m != mask) (s.setEnergy (Vector.ofFn fun i => if maskHas m i then ⟨0, 0⟩ else s.energy[i]))

/-- ENERGY_CLEAR (R110). -/
def execEnergyClear (p : PortId) (s : State) : Outcome State Fault Refusal :=
  .next (serve p .energyClear
    (fun b s => match b with
      | .energyClear m => energyClear m s
      | _ => refuse .badFrame s) s)

end Sys2Proof.Machine
end

