-- ==== Sys2Proof/Machine/Estimator.lean ====
section
/-! DEFINITION. Daylight estimation on behalf of a pass, and the requests on the coupling store (Section 3). -/

namespace Sys2Proof.Machine

open Sys2Proof Host

/-! ## Estimation -/

/-- A holder is usable while it is FRESH or SUSPECT (R17, R41). -/
def holderUsable (h : Holder) : Bool := h.state == .fresh || h.state == .suspect

/-- The sensor of a segment is usable; none where the segment has no such sensor (R41). -/
def sensorUsable (x : SensorLink) (k : Option SensorId) : Bool := (k.map fun k => holderUsable x.holders[k]).getD false

/-- The artificial contribution of the entries of a coupling list, rounded half up (R42). -/
def contribution (l : Lum) (c : List Coupling) : Nat := ((c.map fun e => e.coeff * litLevel l e.group).sum + 500) / 1000

/-- The daylight of a reading: E − D − A exactly, clamped to 0..20000 (R44). -/
def daylightFrom (e d a : Nat) : Nat := min 20000 ((e : Int) - d - a).toNat

/-- The daylight at a sensor (R44, R45). -/
def daylightAt (s : State) (k : SensorId) : Nat :=
  daylightFrom (s.sensors.holders[k].value.getD 0) s.coupling.dark[k] (contribution s.lum s.coupling.lists[k])

/-- The daylight at a segment's sensor, absent where it is not usable (R41). -/
def usableDaylight (s : State) (k : Option SensorId) : Option Nat :=
  match k with
  | none => none
  | some k => if holderUsable s.sensors.holders[k] then some (daylightAt s k) else none

/-- The raw daylight from those of the primary and the secondary sensor (R46). -/
def combineDaylight : Option Nat → Option Nat → Option Nat
  | some a, some b => some ((a + b) / 2)
  | some a, none => some a
  | none, some b => some b
  | none, none => none

/-- The raw daylight of a segment, absent where no sensor is usable (R41, R46). -/
def rawDaylight (s : State) (i : SegId) : Option Nat :=
  combineDaylight (usableDaylight s (segCfg s i).primary) (usableDaylight s (segCfg s i).secondary)

/-! ## The coupling store -/

/-- The group of a position exists (R36, check 3). -/
def positionExists (l : Lum) (q : Nat × Nat) : Bool :=
  match groupId? q.1 with
  | none => false
  | some g => groupExists l g

/-- Two positions name the same group (R36, check 4). -/
def repeatsGroup : List (Nat × Nat) → Bool
  | [] => false
  | q :: rest => rest.any (·.1 == q.1) || repeatsGroup rest

/-- The entry that the positions give for a group: none where it is absent or its coefficient is 0, and a coefficient
above 4095 becomes 4095 (R37). -/
def positionEntry (ps : List (Nat × Nat)) (g : GroupId) : Option Coupling :=
  match ps.find? (·.1 == g.val) with
  | none => none
  | some q => if q.2 = 0 then none else some ⟨g, min q.2 4095⟩

/-- The list built from the counted positions, in ascending group order (R37). -/
def buildList (ps : List (Nat × Nat)) : List Coupling := (List.finRange 48).filterMap (positionEntry ps)

/-- A sensor's list and dark offset replaced (R37). -/
def writeCoupling (k : SensorId) (l : List Coupling) (d : Nat) (x : CouplingStore) : CouplingStore :=
  ⟨x.lists.set k l, x.dark.set k d⟩

/-- The owner of COUPLING_WRITE, its checks in the order of R36. -/
def couplingWrite (sensor dark count : Nat) (positions : List (Nat × Nat)) (s : State) : Response :=
  let ps := positions.take count
  match sensorId? sensor with
  | none => refuse .range s
  | some k =>
    if 6 < count then refuse .range s
    else if ps.any fun q => !positionExists s.lum q then refuse .range s
    else if repeatsGroup ps then refuse .range s
    else if (s.cal.run.map fun r => r.sensors.contains k).getD false then refuse .busy s
    else accept (ps.any fun q => 4095 < q.2) (s.setCoupling (writeCoupling k (buildList ps) dark s.coupling))

/-- COUPLING_WRITE (R36, R37). -/
def execCouplingWrite (p : PortId) (s : State) : Outcome State Fault Refusal :=
  .next (serve p .couplingWrite
    (fun b s => match b with
      | .couplingWrite k d n ps => couplingWrite k d n ps s
      | _ => refuse .badFrame s) s)

/-- The payload of COUPLING_READ (R40, R179). -/
def couplingPayload (k : SensorId) (x : CouplingStore) : List Byte :=
  let recs := x.lists[k].flatMap fun e => beBytes 1 e.group.val ++ beBytes 2 e.coeff
  beBytes 1 k.val ++ beBytes 1 x.dark[k] ++ beBytes 1 x.lists[k].length ++ recs ++ List.replicate (18 - recs.length) 0

/-- The owner of COUPLING_READ (R40). -/
def couplingRead (sensor : Nat) (s : State) : Response :=
  match sensorId? sensor with
  | none => refuse .range s
  | some k => answer (couplingPayload k s.coupling) s

/-- COUPLING_READ (R40). -/
def execCouplingRead (p : PortId) (s : State) : Outcome State Fault Refusal :=
  .next (serve p .couplingRead
    (fun b s => match b with
      | .couplingRead n => couplingRead n s
      | _ => refuse .badFrame s) s)

/-- The coupling lists without the entries of the groups of the test (R9). -/
def purgeLists (gone : GroupId → Bool) (x : CouplingStore) : CouplingStore :=
  { x with lists := x.lists.map fun l => l.filter fun e => !gone e.group }

end Sys2Proof.Machine
end

