-- ==== Sys2Proof/Machine/SegmentCommands.lean ====
section
/-! DEFINITION. The segment controllers: the pass with its control arithmetic, glare, and SEG_READ (Section 4). -/

namespace Sys2Proof.Machine

open Sys2Proof Host

/-! ## Counts and transitions -/

/-- A count incremented, saturating at 3 (R53). -/
def countUp (n : Nat) : Nat := min 3 (n + 1)

/-- The counts after a pass with or without usable data (R53). -/
def countPass (data : Bool) (c : Ctrl) : Ctrl :=
  if data then { c with good := countUp c.good, miss := 0 } else { c with good := 0, miss := countUp c.miss }

/-- The mode after a pass, from the counts already updated (R55). -/
def modeByPass (data : Bool) (c : Ctrl) : Mode :=
  match c.mode with
  | .start => if data then .active else if c.miss = 3 then .degraded else .start
  | .active => if data then .active else .degraded
  | .degraded => if data && c.good == 3 then .active else .degraded
  | .unconfigured | .held | .locked | .calibrating => c.mode

/-- Steps 1 and 2 of a pass: counts and transition, with MODE_CHANGE, and SENSOR_LOST for ACTIVE to DEGRADED (R59, R61). -/
def passMode (i : SegId) (data : Bool) (s : State) : State :=
  let old := modeOf s i
  let s := updCtrl i (countPass data) s
  let new := modeByPass data s.ctrls[i]
  let s := changeMode i new s
  if old = .active ∧ new = .degraded then raiseEvent i .sensorLost s else s

/-! ## Glare -/

/-- The glare daylight of a raw daylight (R71). -/
def glareDaylight (cfg : SegConfig) (raw : Nat) : Nat := raw * cfg.bands[0].ratio / 256

/-- The glare flag after an evaluation (R71). -/
def glareAfter (cfg : SegConfig) (raw : Nat) (on : Bool) : Bool :=
  let g := cfg.glareThreshold
  let dg := glareDaylight cfg raw
  if g = 0 then on else if on then !decide (dg < g - g / 8) else decide (g ≤ dg)

/-- The event that a change of the glare flag raises (R71, R72). -/
def glareEvent (i : SegId) (was is : Bool) (s : State) : State :=
  if was = is then s else raiseEvent i (if is then .glareOn else .glareOff) s

/-- The glare flag written, with the event of its change. -/
def setGlare (i : SegId) (is : Bool) (s : State) : State :=
  glareEvent i s.ctrls[i].glare is (updCtrl i (fun c => { c with glare := is }) s)

/-- Step 3 of a pass outside CALIBRATING: the raw daylight is stored and glare evaluated from it; without data the raw
daylight becomes absent and the flag stays (R61, R71). -/
def passRaw (i : SegId) (raw : Option Nat) (s : State) : State :=
  let s := updCtrl i (fun c => { c with lastRaw := raw }) s
  match raw with
  | none => s
  | some d => setGlare i (glareAfter (segCfg s i) d s.ctrls[i].glare) s

/-! ## Control arithmetic -/

/-- A seeded filter value moved toward the raw daylight (R64). -/
def filterMove (nUp nDown raw f : Nat) : Nat :=
  let d : Int := (raw : Int) - f
  let n := if 0 < d then nUp else nDown
  if d = 0 then f
  else if d.natAbs < 2 ^ n then (if 0 < d then f + 1 else f - 1)
  else ((f : Int) + d.tdiv (2 ^ n : Nat)).toNat

/-- The filter value after an ACTIVE pass: seeded where it was unseeded or the pass moved the segment into ACTIVE (R64;
log 10). -/
def filterNext (cfg : SegConfig) (seed : Bool) (raw : Nat) : Option Nat → Nat
  | none => raw
  | some f => if seed then raw else filterMove cfg.nUp cfg.nDown raw f

/-- The band daylight of a filter value (R65). -/
def bandDaylight (q : BandConfig) (f : Nat) : Nat := f * q.ratio / 256

/-- The shortfall of a band daylight against the target (R65). -/
def shortfall (target db : Nat) : Nat := target - db

/-- The candidate output of a shortfall (R66). -/
def candidateOutput (q : BandConfig) (req : Nat) : Nat := clampTo q.lmin q.lmax ((req * 1000 + q.efficacy - 1) / q.efficacy)

/-- A control output at an ACTIVE pass with its candidate (R67). -/
def outputNext (db : Nat) (q : BandConfig) (cand : Nat) (o : Output) : Output :=
  if !o.valid then ⟨cand, true⟩
  else if db ≤ (cand - o.value) + (o.value - cand) then ⟨cand, true⟩
  else if cand ≠ o.value ∧ (cand = q.lmin ∨ cand = q.lmax) then ⟨cand, true⟩
  else ⟨o.value, true⟩

/-- Step 4 of an ACTIVE pass over the record (R64 to R67). -/
def controlStep (cfg : SegConfig) (seed : Bool) (raw : Nat) (c : Ctrl) : Ctrl :=
  let f := filterNext cfg seed raw c.filter
  { c with
    filter := some f
    bandDaylight := Vector.ofFn fun b =>
      if b.val < cfg.bandCount then some (bandDaylight cfg.bands[b] f) else c.bandDaylight[b]
    outputs := Vector.ofFn fun b =>
      if b.val < cfg.bandCount then
        outputNext cfg.deadBand cfg.bands[b]
          (candidateOutput cfg.bands[b] (shortfall cfg.target (bandDaylight cfg.bands[b] f))) c.outputs[b]
      else c.outputs[b] }

/-! ## The pass -/

/-- The work of a pass in the order of R61; the timer is rearmed with the period now in the record (R60). -/
def passSegment (i : SegId) (s : State) : State :=
  let cfg := segCfg s i
  let data := sensorUsable s.sensors cfg.primary || sensorUsable s.sensors cfg.secondary
  let raw := rawDaylight s i
  let old := modeOf s i
  let s := passMode i data s
  let s := if modeOf s i = .calibrating then s else passRaw i raw s
  let s :=
    match raw with
    | some d => if modeOf s i = .active then updCtrl i (controlStep cfg (old != .active) d) s else s
    | none => s
  recompose i (updCtrl i (fun c => { c with passTimer := some cfg.passPeriod }) s)

/-- PASS (R61). A pass timer that is not running does not expire (R60; log 2). -/
def execPass (i : SegId) (s : State) : Outcome State Fault Refusal :=
  .next (if configured s i && s.ctrls[i].passTimer.isSome then passSegment i s else s)

/-! ## GLARE_SET -/

/-- The threshold of one segment written; 0 turns its flag off at once (R72). -/
def writeThreshold (t : Nat) (s : State) (i : SegId) : State :=
  let s := updSeg i (fun c => { c with glareThreshold := t }) s
  if t = 0 then setGlare i false s else s

/-- The owner of GLARE_SET (R72). -/
def glareSet (mask : SegMask) (threshold : Nat) (s : State) : Response :=
  let m := mask &&& configuredMask s
  if m = 0 then refuse .notConfigured s
  else
    let t := min threshold 20000
    accept (m != mask || t != threshold) ((maskSegs m).foldl (writeThreshold t) s)

/-- GLARE_SET (R72). -/
def execGlareSet (p : PortId) (s : State) : Outcome State Fault Refusal :=
  .next (serve p .glareSet
    (fun b s => match b with
      | .glareSet m t => glareSet m t s
      | _ => refuse .badFrame s) s)

/-! ## SEG_READ -/

/-- The code of a mode (R179). -/
def modeCode : Mode → Nat
  | .unconfigured => 0
  | .start => 1
  | .active => 2
  | .degraded => 3
  | .held => 4
  | .locked => 5
  | .calibrating => 6

/-- A level of each band below the band count, 0 at the others (R73). -/
def bandLevels (n : Nat) (f : BandId → Nat) : List Nat := (List.finRange 3).map fun b => if b.val < n then f b else 0

/-- The demanded level of a group, 0 where no record is held. -/
def demandedOf (l : Lum) (g : GroupId) : Nat := (l.groups[g].map (·.demanded)).getD 0

/-- The flags byte of SEG_READ (R179). -/
def segFlags (n : Nat) (c : Ctrl) (t : List Entry) (i : SegId) : Nat :=
  let valid := fun (b : BandId) => bit (decide (b.val < n) && c.outputs[b].valid)
  bit c.glare * 128 + bit (overrideOver t i).isSome * 64 + bit (holdOver t i) * 32 + bit (lockOver t i).isSome * 16
    + bit (lowestCap t i).isSome * 8 + valid 2 * 4 + valid 1 * 2 + valid 0

/-- The sixteen levels of the level block (R179). -/
def segLevels (n : Nat) (c : Ctrl) (s : State) (i : SegId) : List Nat :=
  bandLevels n (fun b => demandedOf s.lum (groupOf i b)) ++ bandLevels n (fun b => presentOf s.lum (groupOf i b))
    ++ bandLevels n (fun b => c.outputs[b].value) ++ bandLevels n (fun b => c.startSnap[b])
    ++ bandLevels n (fun b => c.heldSnap[b]) ++ [(lowestCap s.table.entries i).getD 1023]

/-- The payload of SEG_READ for a record read as of a band count (R73, R179). -/
def segRecordPayload (i : SegId) (n : Nat) (c : Ctrl) (s : State) : List Byte :=
  beBytes 1 i.val ++ beBytes 1 (modeCode c.mode) ++ beBytes 1 n ++ beBytes 1 c.good ++ beBytes 1 c.miss
    ++ beBytes 1 (segFlags n c s.table.entries i) ++ wordOrAbsent c.filter ++ wordOrAbsent c.lastRaw
    ++ ((List.finRange 3).flatMap fun b => wordOrAbsent (if b.val < n then c.bandDaylight[b] else none))
    ++ beBytes 20 (packFields 10 (segLevels n c s i))

/-- The payload of SEG_READ; an unconfigured segment reads as a blank record of no bands (R73). -/
def segPayload (i : SegId) (s : State) : List Byte :=
  if configured s i then segRecordPayload i (segCfg s i).bandCount s.ctrls[i] s else segRecordPayload i 0 Ctrl.blank s

/-- The owner of SEG_READ (R73). -/
def segRead (n : Nat) (s : State) : Response :=
  match segId? n with
  | none => refuse .range s
  | some i => answer (segPayload i s) s

/-- SEG_READ (R73). -/
def execSegRead (p : PortId) (s : State) : Outcome State Fault Refusal :=
  .next (serve p .segRead
    (fun b s => match b with
      | .segRead n => segRead n s
      | _ => refuse .badFrame s) s)

end Sys2Proof.Machine
end

