-- ==== Sys2Proof/Machine/SensorCommands.lean ====
section
/-! DEFINITION. The sensor link: rounds, the poll exchange and the sample holders (Section 2). -/

namespace Sys2Proof.Machine

open Sys2Proof Host

/-! ## Rounds -/

/-- The first assigned sensor from a channel on (R19). -/
def nextAssigned (y : Layout) (k : Nat) : Option SensorId := (List.finRange 32).find? fun c => k ≤ c.val && assigned y c

/-- The turn of a channel whose sensor is assigned: its poll is sent (R19, R20). -/
def pollChannel (c : SensorId) (x : SensorLink) : SensorLink :=
  { x with round := some c, poll := some ⟨c, .awaiting, false, false⟩ }

/-- A round starts: the turns run from channel 0, and with no sensor assigned the round ends as it starts (R19). -/
def startRound (y : Layout) (x : SensorLink) : SensorLink :=
  match nextAssigned y 0 with
  | some c => pollChannel c x
  | none => { x with round := none }

/-- The turns from a channel on; after channel 31 the round ends, and a late start begins the next at once (R18, R19). -/
def takeTurns (y : Layout) (k : Nat) (x : SensorLink) : SensorLink :=
  match nextAssigned y k with
  | some c => pollChannel c x
  | none => if x.lateStart then startRound y { x with lateStart := false, round := none } else { x with round := none }

/-- ROUND_TIMER_EXPIRY (R18): the timer is rearmed; an idle link starts a round, and a round in progress is followed by
one late start. -/
def roundExpiry (y : Layout) (x : SensorLink) : SensorLink :=
  let x := { x with roundTimer := 250 }
  match x.round with
  | none => startRound y x
  | some _ => { x with lateStart := true }

/-- ROUND_TIMER_EXPIRY (R18). -/
def execRoundTimerExpiry (s : State) : Outcome State Fault Refusal :=
  .next (s.setSensors (roundExpiry s.layout s.sensors))

/-- The turnaround gap ends, and with it the exchange; the next turn follows (R19, R20), or the turns from channel 0 of the
round that a warm restart began. R19 puts channel 0's turn at the round's start and R30 lets the round's first poll wait for
the voided exchange; that all turns up to that poll read the assignment at the exchange's end is the model's choice (DESIGN
CHOICE, log 31). -/
def turnaround (y : Layout) (x : SensorLink) : SensorLink :=
  match x.poll with
  | none => x
  | some q =>
    match q.stage with
    | .awaiting => x
    | .turnaround => takeTurns y (if q.outlived then 0 else q.channel.val + 1) { x with poll := none }

/-- TURNAROUND_END (R19, R20). -/
def execTurnaroundEnd (s : State) : Outcome State Fault Refusal := .next (s.setSensors (turnaround s.layout s.sensors))

/-! ## Holders -/

/-- The clamped value of a raw reading (R22). -/
def clampedReading (raw : Nat) : Nat := min raw 20000

/-- A good reply (R22). -/
def holderGood (raw : Nat) (saturated : Bool) (uptime : Nat) (_h : Holder) : Holder where
  state := .fresh
  value := some (clampedReading raw)
  saturated := saturated || decide (20000 < raw)
  miss := 0
  lastGood := some uptime

/-- A miss (R23). -/
def holderMiss (h : Holder) : Holder :=
  match h.state with
  | .noData | .suspect => { h with state := if 3 ≤ h.miss + 1 then .stale else h.state, miss := min 3 (h.miss + 1) }
  | .fresh => { h with state := .suspect, miss := h.miss + 1 }
  | .stale => { h with miss := min 3 (h.miss + 1) }

/-- A FAULT reply (R24). -/
def holderFault (h : Holder) : Holder := { h with state := .stale }

/-- The outcomes of a reply (R21). -/
inductive ReplyOutcome where
  | good (raw : Nat) (saturated : Bool)
  | fault
  | miss
  deriving DecidableEq, Repr

/-- The judgment of a four-byte reply to a poll of the channel (R21). -/
def judgeSensorReply (c : SensorId) (hi lo st chk : Byte) : ReplyOutcome :=
  if crc8 [BitVec.ofNat 8 c.val, hi, lo, st] = chk then
    match sensorCode? st with
    | some .ok => .good (hi.toNat * 256 + lo.toNat) false
    | some .saturated => .good (hi.toNat * 256 + lo.toNat) true
    | some .fault => .fault
    | none => .miss
  else .miss

/-- The outcome applied to a holder. -/
def applyOutcome (o : ReplyOutcome) (uptime : Nat) (h : Holder) : Holder :=
  match o with
  | .good raw sat => holderGood raw sat uptime h
  | .fault => holderFault h
  | .miss => holderMiss h

/-- The sample of a good reply added to the sums the phase names (R142). -/
def addSample (f : Phase) (v : Nat) (a : CalSensor) : CalSensor :=
  match f with
  | .settleBase => a
  | .probeHigh => { a with highSum := a.highSum + v, highCount := a.highCount + 1 }
  | .probeLow => { a with lowSum := a.lowSum + v, lowCount := a.lowCount + 1 }
  | .dark => { a with darkSum := a.darkSum + v, darkCount := a.darkCount + 1 }

/-- A good reply delivered to the sequencer, which counts it for an involved sensor while a sampling window is open (R28,
R142). -/
def deliverSample (c : SensorId) (v : Nat) (r : CalRun) : CalRun :=
  if r.stage = .sample && r.sensors.contains c then { r with gathered := updAt r.gathered c (addSample r.phase v) } else r

/-- What a judged outcome delivers to the sequencer: a good reply alone (R28). -/
def deliver (c : SensorId) (o : ReplyOutcome) (x : Calibration) : Calibration :=
  match o with
  | .good raw _ => { x with run := x.run.map (deliverSample c (clampedReading raw)) }
  | .fault | .miss => x

/-- The reply awaited is judged and the turnaround gap begins. The outcome of a void poll is discarded (R20, R26, R30). -/
def judgePoll (outcome : SensorId → ReplyOutcome) (s : State) : State :=
  match s.sensors.poll with
  | none => s
  | some q =>
    match q.stage with
    | .turnaround => s
    | .awaiting =>
      let x := { s.sensors with poll := some { q with stage := .turnaround } }
      if q.void then s.setSensors x
      else
        let o := outcome q.channel
        (s.setSensors { x with holders := updAt x.holders q.channel (applyOutcome o s.table.uptime) }).setCal
          (deliver q.channel o s.cal)

/-- SENSOR_REPLY: the fourth byte of a reply has arrived (R21). -/
def execSensorReply (hi lo st chk : Byte) (s : State) : Outcome State Fault Refusal :=
  .next (judgePoll (fun c => judgeSensorReply c hi lo st chk) s)

/-- REPLY_WINDOW_TIMEOUT: no start bit within the window, a miss (R20, R21). -/
def execReplyWindowTimeout (s : State) : Outcome State Fault Refusal := .next (judgePoll (fun _ => .miss) s)

/-- INTER_BYTE_GAP: the reception failed, a miss (R20, R21). -/
def execInterByteGap (s : State) : Outcome State Fault Refusal := .next (judgePoll (fun _ => .miss) s)

/-! ## Assignment changes and reading -/

/-- The holders after a change of the layout: a sensor that becomes assigned or unassigned enters NO_DATA, and a poll in
flight of a sensor that becomes unassigned is void (R25, R26). -/
def reassign (before after : Layout) (x : SensorLink) : SensorLink :=
  { x with
    holders := Vector.ofFn fun k => if assigned before k = assigned after k then x.holders[k] else Holder.empty
    poll := x.poll.map fun q =>
      if assigned before q.channel && !assigned after q.channel then { q with void := true } else q }

/-- The code of a holder's state (R179). -/
def holderCode : HolderState → Nat
  | .noData => 0
  | .fresh => 1
  | .suspect => 2
  | .stale => 3

/-- The payload of SENSOR_READ (R29, R179). Bits 7 to 4 of the flags byte are unsaid and read 0 (log 32). -/
def sensorPayload (k : SensorId) (s : State) : List Byte :=
  let h := s.sensors.holders[k]
  beBytes 1 k.val ++ beBytes 1 (holderCode h.state) ++ beBytes 2 (h.value.getD 0)
    ++ beBytes 1 (bit h.saturated + bit (assigned s.layout k) * 2 + bit h.value.isSome * 4 + bit h.lastGood.isSome * 8)
    ++ beBytes 1 h.miss ++ beBytes 4 (h.lastGood.getD 0) ++ beBytes 4 s.table.uptime

/-- The owner of SENSOR_READ (R29). -/
def sensorRead (n : Nat) (s : State) : Response :=
  match sensorId? n with
  | none => refuse .range s
  | some k => answer (sensorPayload k s) s

/-- SENSOR_READ (R29). -/
def execSensorRead (p : PortId) (s : State) : Outcome State Fault Refusal :=
  .next (serve p .sensorRead
    (fun b s => match b with
      | .sensorRead n => sensorRead n s
      | _ => refuse .badFrame s) s)

end Sys2Proof.Machine
end

