-- ==== Sys2Proof/Machine/LayoutCommands.lean ====
section
/-! DEFINITION. The layout store's commands: SEG_DEFINE, SEG_REMOVE, SEG_TUNE, BAND_SET and LAYOUT_LOCK (Section 1). -/

namespace Sys2Proof.Machine

open Sys2Proof Host

/-! ## SEG_DEFINE -/

/-- The secondary sensor of its byte: 0xFF is none; none of the outcomes where the byte is neither none nor a sensor (R4,
check 4). -/
def secondary? (n : Nat) : Option (Option SensorId) := if n = 0xFF then some none else (sensorId? n).map some

/-- The record that SEG_DEFINE writes: the structural fields and every default (R1, R3, R4). -/
def definedConfig (n : Nat) (p : SensorId) (q : Option SensorId) : SegConfig :=
  { SegConfig.initial with configured := true, bandCount := n, primary := some p, secondary := q }

/-- The record the controller of a new segment starts with (R5, R51). -/
def definedCtrl (cfg : SegConfig) : Ctrl :=
  { Ctrl.blank with
    mode := .start
    startSnap := perBand cfg.bandCount fun _ => cfg.fallback
    heldSnap := perBand cfg.bandCount fun _ => cfg.fallback
    passTimer := some cfg.passPeriod }

/-- The effects of an accepted SEG_DEFINE (R5, R6, R25). -/
def defineSegment (i : SegId) (cfg : SegConfig) (s : State) : State :=
  let y := s.layout
  let s := updSeg i (fun _ => cfg) s
  let s := s.setSensors (reassign y s.layout s.sensors)
  let s := raiseEvent i .modeChange (updCtrl i (fun _ => definedCtrl cfg) s)
  s.setLum (((bandsBelow cfg.bandCount).map (groupOf i)).foldl (createGroup cfg.fallback) s.lum)

/-- The owner of SEG_DEFINE, its checks in the order of R4. -/
def segDefine (segment bandCount primary secondary : Nat) (s : State) : Response :=
  if s.layout.lock then refuse .layoutLocked s
  else
    match segId? segment, sensorId? primary, secondary? secondary with
    | some i, some p, some q =>
      if configured s i then refuse .busy s
      else
        let n := clampTo 1 3 bandCount
        let q' := if q = some p then none else q
        accept (n != bandCount || q' != q) (defineSegment i (definedConfig n p q') s)
    | _, _, _ => refuse .range s

/-- SEG_DEFINE (R4). -/
def execSegDefine (p : PortId) (s : State) : Outcome State Fault Refusal :=
  .next (serve p .segDefine
    (fun b s => match b with
      | .segDefine i n a c => segDefine i n a c s
      | _ => refuse .badFrame s) s)

/-! ## SEG_REMOVE -/

/-- The record of a removed segment: unconfigured, the tuning and band fields as they were (R1). -/
def removedConfig (c : SegConfig) : SegConfig :=
  { c with configured := false, bandCount := 0, primary := none, secondary := none }

/-- The segment owns the group number (R2). -/
def ownsGroup (i : SegId) (g : GroupId) : Bool := segOf g == i

/-- The effects of an accepted SEG_REMOVE (R8, R9). The event set of the segment is cleared after its MODE_CHANGE. -/
def removeSegment (i : SegId) (s : State) : State :=
  let y := s.layout
  let s := updSeg i removedConfig s
  let s := s.setLum (dropGroups (ownsGroup i) s.lum)
  let s := raiseEvent i .modeChange (updCtrl i (fun _ => Ctrl.blank) s)
  let s := s.setCoupling (purgeLists (ownsGroup i) s.coupling)
  let s := s.setSensors (reassign y s.layout s.sensors)
  let t := s.table.entries
  let s := tableChange (takeOut (fun _ => true) (maskOf i) t) none (takenFrom (fun _ => true) (maskOf i) t) s
  s.setPorts (s.ports.map (clearEventsAt i))

/-- The owner of SEG_REMOVE, its checks in the order of R7. -/
def segRemove (segment : Nat) (s : State) : Response :=
  if s.layout.lock then refuse .layoutLocked s
  else
    match segId? segment with
    | none => refuse .range s
    | some i =>
      if !configured s i then refuse .notConfigured s
      else if modeOf s i = .calibrating then refuse .busy s
      else accept false (removeSegment i s)

/-- SEG_REMOVE (R7). -/
def execSegRemove (p : PortId) (s : State) : Outcome State Fault Refusal :=
  .next (serve p .segRemove
    (fun b s => match b with
      | .segRemove i => segRemove i s
      | _ => refuse .badFrame s) s)

/-! ## SEG_TUNE and BAND_SET -/

/-- The eight tuning values of SEG_TUNE. -/
structure Tuning where
  target : Nat
  passPeriod : Nat
  deadBand : Nat
  nUp : Nat
  nDown : Nat
  sUp : Nat
  sDown : Nat
  fallback : Nat
  deriving DecidableEq, Repr

/-- The tuning values brought into range (R10). -/
def clampTuning (t : Tuning) : Tuning where
  target := min t.target 2000
  passPeriod := clampStep 100 2000 50 t.passPeriod
  deadBand := min t.deadBand 50
  nUp := min t.nUp 6
  nDown := min t.nDown 6
  sUp := clampTo 1 100 t.sUp
  sDown := clampTo 1 100 t.sDown
  fallback := min t.fallback 1000

/-- The tuning fields of a record written (R10). -/
def tuneConfig (t : Tuning) (c : SegConfig) : SegConfig :=
  { c with
    target := t.target, passPeriod := t.passPeriod, deadBand := t.deadBand, nUp := t.nUp, nDown := t.nDown
    sUp := t.sUp, sDown := t.sDown, fallback := t.fallback }

/-- A record written, the control outputs marked invalid, and the segment recomposed (R12). -/
def retune (i : SegId) (f : SegConfig → SegConfig) (s : State) : State :=
  recompose i (updCtrl i invalidate (updSeg i f s))

/-- The owner of SEG_TUNE (R10). -/
def segTune (segment : Nat) (t : Tuning) (s : State) : Response :=
  match segId? segment with
  | none => refuse .range s
  | some i =>
    if !configured s i then refuse .notConfigured s
    else if modeOf s i = .calibrating then refuse .busy s
    else accept (clampTuning t != t) (retune i (tuneConfig (clampTuning t)) s)

/-- SEG_TUNE (R10). -/
def execSegTune (p : PortId) (s : State) : Outcome State Fault Refusal :=
  .next (serve p .segTune
    (fun b s => match b with
      | .segTune i t pp db nu nd su sd f => segTune i ⟨t, pp, db, nu, nd, su, sd, f⟩ s
      | _ => refuse .badFrame s) s)

/-- The band values brought into range (R11). -/
def clampBand (q : BandConfig) : BandConfig :=
  ⟨min q.ratio 256, clampTo 1 4095 q.efficacy, min q.lmin 1000, min q.lmax 1000⟩

/-- The owner of BAND_SET, its checks in the order of R11. -/
def bandSet (segment band : Nat) (q : BandConfig) (s : State) : Response :=
  match segId? segment with
  | none => refuse .range s
  | some i =>
    if !configured s i then refuse .notConfigured s
    else if (segCfg s i).bandCount ≤ band then refuse .range s
    else if modeOf s i = .calibrating then refuse .busy s
    else if (clampBand q).lmax < (clampBand q).lmin then refuse .range s
    else
      match bandId? band with
      | none => refuse .range s
      | some b =>
        accept (clampBand q != q) (retune i (fun c => { c with bands := c.bands.set b (clampBand q) }) s)

/-- BAND_SET (R11). -/
def execBandSet (p : PortId) (s : State) : Outcome State Fault Refusal :=
  .next (serve p .bandSet
    (fun b s => match b with
      | .bandSet i n r k lo hi => bandSet i n ⟨r, k, lo, hi⟩ s
      | _ => refuse .badFrame s) s)

/-! ## LAYOUT_LOCK -/

/-- LAYOUT_LOCK (R13). -/
def execLayoutLock (p : PortId) (s : State) : Outcome State Fault Refusal :=
  .next (serve p .layoutLock (fun _ s => accept false (s.setLayout { s.layout with lock := true })) s)

end Sys2Proof.Machine
end

