-- ==== Sys2Proof/Machine/PortCommands.lean ====
section
/-! DEFINITION. The commands of the master ports: the start and end of a select period (Sections 9.5, 9.6) and the requests
that the port itself owns (Sections 9.10 and 10.3). -/

namespace Sys2Proof.Machine

open Sys2Proof Host

/-! ## Select periods -/

/-- The frame fixed at the assertion of select: the reply in the slot, or a NONE frame (R157). -/
def frameToShift (p : Port) : List Byte :=
  match p.reply with
  | some r => r
  | none => noneFrame (if p.request.isSome then .pending else .empty)

/-- The assertion of a port's select (R157). On an OFF port, or while select is asserted already, nothing happens. -/
def assertSelect (p : Port) : Port :=
  if p.role = .off || p.period.isSome then p
  else { p with period := some ⟨frameToShift p, p.reply.isSome, false⟩, progress := .none }

/-- How much of the reply was clocked when n bytes were (R155). -/
def clocked (reply : List Byte) (n : Nat) : Progress :=
  if n = 0 then .none else if n < reply.length then .partly else .whole

/-- The judgment of the reply shifted in a period of n clocked bytes (R158). -/
def judgeReply (carriesReply : Bool) (n : Nat) (p : Port) : Port :=
  match p.reply with
  | none => p
  | some r =>
    if !carriesReply then p
    else if clocked r n = .whole then dropCauses (causeMask .replyReady) { p with reply := none, progress := .none }
    else { p with progress := clocked r n }

/-- The judgment of the bytes received in a period, after that of the reply (R159, R160). -/
def judgeReceived (l : List Byte) (p : Port) : Port :=
  if l.all (· == 0xFF) then p
  else
    match parseFrame l with
    | some r => if portFree p then { p with request := some r } else raiseAt .overrun p
    | none =>
      let p := raiseAt .frameError p
      if portFree p then
        raiseAt .replyReady { p with reply := some (badFrameReply l), progress := .none, refused := true }
      else raiseAt .overrun p

/-- The release of a port's select: first the reply, then the received bytes (R158 to R160). A period that a warm restart
made void consumes nothing and judges nothing, but for the release that falls together with the restart: its bytes are
judged against the slots the restart emptied, as row 4 of R165 says against the rule's closing sentence (DESIGN CHOICE, log
33). On an OFF port, or outside a select period, nothing happens (R154). -/
def releaseSelect (x : Clocked) (p : Port) : Port :=
  match p.period with
  | none => p
  | some d =>
    if p.role = .off then p
    else
      let p := { p with period := none }
      let l := bytesOfBits x.bits
      if d.void && !x.atRestart then p else judgeReceived l (judgeReply d.carriesReply l.length p)

/-- SELECT_ASSERT (R157). -/
def execSelectAssert (p : PortId) (s : State) : Outcome State Fault Refusal :=
  .next (s.setPorts (updAt s.ports p assertSelect))

/-- SELECT_RELEASE with the bits clocked in (R153, R158 to R160). -/
def execSelectRelease (p : PortId) (x : Clocked) (s : State) : Outcome State Fault Refusal :=
  .next (s.setPorts (updAt s.ports p (releaseSelect x)))

/-! ## NOP and IDENT -/

/-- The code of a role (R179). -/
def roleCode : Role → Nat
  | .off => 0
  | .floor => 1
  | .shade => 2
  | .energy => 3

/-- The payload of IDENT: vendor, part and revision codes, role, strap readings, layout lock, uptime (R164, R179).
Bits 7 and 6 of the strap byte are unsaid and read 0 (log 32). -/
def identPayload (p : PortId) (s : State) : List Byte :=
  beBytes 2 0x0A3D ++ beBytes 2 0x3412 ++ beBytes 1 0x01 ++ beBytes 1 (roleCode s.ports[p].role)
    ++ beBytes 1
      (roleCode s.ports[0].strap + roleCode s.ports[1].strap * 4 + roleCode s.ports[2].strap * 16)
    ++ beBytes 1 (bit s.layout.lock) ++ beBytes 4 s.table.uptime

/-- NOP (R164). -/
def execNop (p : PortId) (s : State) : Outcome State Fault Refusal := .next (serve p .nop (fun _ s => answer [] s) s)

/-- IDENT (R164). -/
def execIdent (p : PortId) (s : State) : Outcome State Fault Refusal :=
  .next (serve p .ident (fun _ s => answer (identPayload p s) s) s)

/-! ## Causes, enables and events -/

/-- The payload of CAUSES_READ (R171, R179). The positions of the cause set that name no cause, bits 15 to 11, are unsaid and
read 0, since nothing raises a cause there (log 32). -/
def causesPayload (p : Port) : List Byte :=
  beBytes 2 (causeSet p).toNat ++ beBytes 2 p.enables.toNat ++ beBytes 2 p.segMask.toNat

/-- CAUSES_READ (R171). -/
def execCausesRead (p : PortId) (s : State) : Outcome State Fault Refusal :=
  .next (serve p .causesRead (fun _ s => answer (causesPayload s.ports[p]) s) s)

/-- The owner of CAUSES_CLEAR: the named causes that are present leave; SEG_EVENT is ignored, since it is not among the
raised causes (R171). -/
def causesClear (p : PortId) (named : BitVec 16) (s : State) : Response :=
  accept false (s.setPorts (updAt s.ports p (dropCauses named)))

/-- CAUSES_CLEAR (R171). -/
def execCausesClear (p : PortId) (s : State) : Outcome State Fault Refusal :=
  .next (serve p .causesClear
    (fun b s => match b with
      | .causesClear named => causesClear p named s
      | _ => refuse .badFrame s) s)

/-- The port with new enables and segment mask; the event sets of the segments taken out of the mask empty (R172). -/
def writeEnables (en : BitVec 16) (m : SegMask) (p : Port) : Port :=
  { p with
    enables := en &&& enableable
    segMask := m
    events := Vector.ofFn fun i => if maskHas (maskMinus p.segMask m) i then 0 else p.events[i] }

/-- The owner of ENABLES_WRITE (R172). -/
def enablesWrite (p : PortId) (en : BitVec 16) (m : SegMask) (s : State) : Response :=
  accept (en &&& enableable != en) (s.setPorts (updAt s.ports p (writeEnables en m)))

/-- ENABLES_WRITE (R172). -/
def execEnablesWrite (p : PortId) (s : State) : Outcome State Fault Refusal :=
  .next (serve p .enablesWrite
    (fun b s => match b with
      | .enablesWrite en m => enablesWrite p en m s
      | _ => refuse .badFrame s) s)

/-- The segments whose event set at the port is not empty, in ascending order. -/
def pendingSegs (p : Port) : List SegId := (List.finRange 16).filter fun i => p.events[i] != 0

/-- The payload of EVENTS_READ: the counts returned and remaining, and eight pairs (R173, R179). Bits 7 to 5 of an event set
are unsaid and read 0, since no event has its place there (log 32). -/
def eventsPayload (p : Port) : List Byte :=
  let taken := (pendingSegs p).take 8
  let pairs := taken.flatMap fun i => beBytes 1 i.val ++ [p.events[i]]
  beBytes 1 taken.length ++ beBytes 1 ((pendingSegs p).length - taken.length) ++ pairs
    ++ List.replicate (16 - pairs.length) 0

/-- The event sets that EVENTS_READ returns are emptied (R173). -/
def emptyReturned (p : Port) : Port :=
  { p with events := Vector.ofFn fun i => if ((pendingSegs p).take 8).contains i then 0 else p.events[i] }

/-- The owner of EVENTS_READ (R173). -/
def eventsRead (p : PortId) (s : State) : Response :=
  ⟨s.setPorts (updAt s.ports p emptyReturned), .ok, eventsPayload s.ports[p]⟩

/-- EVENTS_READ (R173). -/
def execEventsRead (p : PortId) (s : State) : Outcome State Fault Refusal :=
  .next (serve p .eventsRead (fun _ s => eventsRead p s) s)

end Sys2Proof.Machine
end

