-- ==== Sys2Proof/Machine/LinkCommands.lean ====
section
/-! DEFINITION. The luminaire link's commands: pause and resume, the query unit, frame completions, the bus-fault detector's
reports (Section 7), and the two requests that write a group's record (Section 6.3). -/

namespace Sys2Proof.Machine

open Sys2Proof Host

/-! ## Link changes -/

/-- LINK_CHANGE raised on every port (R168). -/
def raiseLinkChange (s : State) : State := s.setPorts (raiseAll .linkChange s.ports)

/-- The link controller replaced. -/
def setLink (k : Link) (s : State) : State := s.setLum { s.lum with link := k }

/-- The link falls free: the arbiter looks, or a drain ends with LINK_CHANGE (R117, R124). -/
def freeLink (s : State) : State :=
  let x := linkFree s.lum.link
  let s := setLink x.1 s
  if x.2 then raiseLinkChange s else s

/-- The owner of LINK_PAUSE (R123). A RUNNING link enters DRAINING, and a drain with nothing pending ends at once (R124). -/
def linkPause (s : State) : Response :=
  if s.cal.run.isSome then refuse .busy s
  else
    match s.lum.link.state with
    | .down => refuse .noLink s
    | .draining | .paused => accept false s
    | .running => accept false (freeLink (setLink { s.lum.link with state := .draining } s))

/-- LINK_PAUSE (R123). -/
def execLinkPause (p : PortId) (s : State) : Outcome State Fault Refusal :=
  .next (serve p .linkPause (fun _ s => linkPause s) s)

/-- Every unsent group appended with its present level, the flags cleared, the link RUNNING, and the arbiter looks (R125). -/
def resumeLink (l : Lum) : Lum :=
  let queue := l.link.queue ++ levelsWhere l fun _ r => r.unsent
  { setUnsent false l with link := arbitrate { l.link with queue := queue, state := .running } }

/-- The owner of LINK_RESUME (R125). -/
def linkResume (s : State) : Response :=
  match s.lum.link.state with
  | .down => refuse .noLink s
  | .running => accept false s
  | .draining => accept false (s.setLum (resumeLink s.lum))
  | .paused => accept false (raiseLinkChange (s.setLum (resumeLink s.lum)))

/-- LINK_RESUME (R125). -/
def execLinkResume (p : PortId) (s : State) : Outcome State Fault Refusal :=
  .next (serve p .linkResume (fun _ s => linkResume s) s)

/-! ## The query unit -/

/-- The item of a request's code (R178). -/
def item? (n : Nat) : Option Item := if n = 0 then some .ratedPower else if n = 1 then some .status else none

/-- The link with a query accepted into WAITING and offered to the arbiter (R118, R119). -/
def acceptQuery (p : PortId) (g : GroupId) (i : Item) (k : Link) : Link :=
  arbitrate { k with unit := .waiting true, record := ⟨false, p, g, i, none⟩ }

/-- The owner of QUERY_DRIVER, its checks in the order of R119. -/
def queryDriver (p : PortId) (group item : Nat) (s : State) : Response :=
  match groupId? group, item? item with
  | some g, some i =>
    if !groupExists s.lum g then refuse .range s
    else if !unitIdle s.lum.link then refuse .busy s
    else
      match s.lum.link.state with
      | .draining | .paused => refuse .paused s
      | .down => refuse .noLink s
      | .running => ⟨setLink (acceptQuery p g i s.lum.link) s, .accepted, []⟩
  | _, _ => refuse .range s

/-- QUERY_DRIVER (R119). -/
def execQueryDriver (p : PortId) (s : State) : Outcome State Fault Refusal :=
  .next (serve p .queryDriver
    (fun b s => match b with
      | .queryDriver g i => queryDriver p g i s
      | _ => refuse .badFrame s) s)

/-- The outcome of R114, by the item asked and what arrived in the window. -/
def judgeAnswer (i : Item) (a : Answer) : QueryOutcome :=
  match a with
  | .silent => .noAnswer
  | .violation | .cutOff => .badFrame
  | .frame bits =>
    let tag := bits.toNat / 4096
    let data := bits.toNat % 4096
    match i with
    | .ratedPower => if tag = 1 then .ok (.power data) else .badFrame
    | .status =>
      if tag = 2 then
        match driverStatus? data with
        | some d => .ok (.status d)
        | none => .badFrame
      else .badFrame

/-- The answer of an OK query applied to an existing group's record (R103, R105, R121). -/
def applyAnswer (v : AnswerValue) (r : Group) : Group :=
  match v with
  | .power w => { r with power := w }
  | .status .ok => { r with failed := false }
  | .status .lampFail | .status .driverFault => { r with failed := true }

/-- The answer reports a failure. -/
def reportsFailure : AnswerValue → Bool
  | .status .lampFail | .status .driverFault => true
  | .status .ok | .power _ => false

/-- An OK answer handed to the group table; a FAILED flag that goes from clear to set raises GROUP_FAILED (R103, R121). -/
def handAnswer (g : GroupId) (v : AnswerValue) (s : State) : State :=
  match s.lum.groups[g] with
  | none => s
  | some r =>
    let s := s.setLum (updGroup g (applyAnswer v) s.lum)
    if reportsFailure v && !r.failed then raiseEvent (segOf g) .groupFailed s else s

/-- The query in the unit ends with the outcome: the record, the unit, and QUERY_DONE on the requesting port (R120). -/
def endQuery (o : QueryOutcome) (s : State) : State :=
  let k := s.lum.link
  let s := setLink { k with unit := .idle, record := { k.record with valid := true, outcome := some o } } s
  s.setPorts (raiseOn k.record.port .queryDone s.ports)

/-- Where an OK answer of the query in the unit applies, it is handed to the group table (R121). -/
def applyOutcomeToGroup (o : QueryOutcome) (s : State) : State :=
  match o, s.lum.link.unit with
  | .ok v, .inFlight true => handAnswer s.lum.link.record.group v s
  | _, _ => s

/-! ## Frame completions -/

/-- The completion of a SET_LEVEL frame: the last-sent level is recorded where the group has existed without interruption,
and the link falls free (R113). -/
def setLevelDone (s : State) : State :=
  match s.lum.link.tx with
  | some (.setLevel g level kept) =>
    let l := if kept then updGroup g (fun r => { r with lastSent := some level }) s.lum else s.lum
    freeLink (s.setLum { l with link := { l.link with tx := none } })
  | _ => s

/-- SET_LEVEL_COMPLETION (R113). -/
def execSetLevelCompletion (s : State) : Outcome State Fault Refusal := .next (setLevelDone s)

/-- The query unit when its QUERY frame completes (R120). -/
def enterFlight : QueryUnit → QueryUnit
  | .waiting kept => .inFlight kept
  | u => u

/-- The completion of a QUERY frame opens the answer window; a query of the unit enters IN_FLIGHT (R113, R120, R130). -/
def queryFrameDone (k : Link) : Link :=
  match k.tx with
  | some (.query g i owned) =>
    { k with tx := some (.window g i owned), unit := if owned then enterFlight k.unit else k.unit }
  | _ => k

/-- QUERY_FRAME_COMPLETION (R113, R120). -/
def execQueryFrameCompletion (s : State) : Outcome State Fault Refusal := .next (setLink (queryFrameDone s.lum.link) s)

/-- The end of the answer window: the outcome, its effects, and the link falls free (R114, R120, R121). A window that a warm
restart left to no query changes nothing but the link (R130). -/
def windowEnd (a : Answer) (s : State) : State :=
  match s.lum.link.tx with
  | some (.window _ i owned) =>
    let s' := if owned then endQuery (judgeAnswer i a) (applyOutcomeToGroup (judgeAnswer i a) s) else s
    freeLink (setLink { s'.lum.link with tx := none } s')
  | _ => s

/-- ANSWER_WINDOW_END (R120). -/
def execAnswerWindowEnd (a : Answer) (s : State) : Outcome State Fault Refusal := .next (windowEnd a s)

/-! ## Fault and restoration -/

/-- The link when a fault is reported (R127). -/
def linkDown (k : Link) : Link :=
  { k with
    state := .down
    pauseInForce := k.pauseInForce || k.state == .draining || k.state == .paused
    tx := none
    faultReported := true }

/-- A fault report (R127): the link goes DOWN, a query ends NO_LINK, a run is aborted with reason LINK. -/
def busFault (s : State) : State :=
  if s.lum.link.faultReported then s
  else
    let s := raiseLinkChange (setLink (linkDown s.lum.link) s)
    let s := if unitIdle s.lum.link then s else endQuery .noLink s
    abortRun .link s

/-- BUS_FAULT (R127). The detector's reports alternate (R126), so a second fault report does not occur (log 2). -/
def execBusFault (s : State) : Outcome State Fault Refusal := .next (busFault s)

/-- The luminaire side when a restoration is reported (R128): PAUSED with every group unsent where a pause was in force, and
otherwise RUNNING with the full refresh. -/
def restoreLink (l : Lum) : Lum :=
  let k := { l.link with pauseInForce := false, faultReported := false }
  if l.link.pauseInForce then { setUnsent true l with link := { k with state := .paused, queue := [] } }
  else
    let queue := k.queue ++ levelsWhere l fun g _ => !queued k g
    { setUnsent false l with link := arbitrate { k with state := .running, queue := queue } }

/-- BUS_RESTORATION (R128). A restoration is reported only after a fault (R126; log 2). -/
def execBusRestoration (s : State) : Outcome State Fault Refusal :=
  .next (if s.lum.link.faultReported then raiseLinkChange (s.setLum (restoreLink s.lum)) else s)

/-! ## Reading the record -/

/-- The code of an outcome (R179). -/
def outcomeCode : Option QueryOutcome → Nat
  | none => 0
  | some (.ok _) => 1
  | some .noAnswer => 2
  | some .badFrame => 3
  | some .noLink => 4

/-- The code of a STATUS value (R180). -/
def driverStatusCode : DriverStatus → Nat
  | .ok => 0
  | .lampFail => 1
  | .driverFault => 2

/-- The value of an outcome as QUERY_RESULT carries it, 0 when absent (R179). -/
def outcomeValue : Option QueryOutcome → Nat
  | some (.ok (.power w)) => w
  | some (.ok (.status d)) => driverStatusCode d
  | _ => 0

/-- The code of the query unit's state (R179). -/
def unitCode : QueryUnit → Nat
  | .idle => 0
  | .waiting _ => 1
  | .inFlight _ => 2

/-- The code of the link state (R179). -/
def linkCode : LinkState → Nat
  | .running => 0
  | .draining => 1
  | .paused => 2
  | .down => 3

/-- The payload of QUERY_RESULT (R122, R179). Bits 6 to 2 of the record byte and the link byte are unsaid and read 0 (log 32). -/
def queryPayload (s : State) : List Byte :=
  let k := s.lum.link
  beBytes 1 (bit k.record.valid * 128 + unitCode k.unit) ++ beBytes 1 k.record.port.val ++ beBytes 1 k.record.group.val
    ++ beBytes 1 (itemCode k.record.item) ++ beBytes 1 (outcomeCode k.record.outcome)
    ++ beBytes 2 (outcomeValue k.record.outcome) ++ beBytes 1 (bit k.pauseInForce * 128 + linkCode k.state)
    ++ beBytes 1 k.queue.length ++ beBytes 1 (levelsWhere s.lum fun _ r => r.unsent).length

/-- QUERY_RESULT (R122). -/
def execQueryResult (p : PortId) (s : State) : Outcome State Fault Refusal :=
  .next (serve p .queryResult (fun _ s => answer (queryPayload s) s) s)

/-! ## Group records -/

/-- The owner of GROUP_CLEAR_FAIL (R104). -/
def groupClearFail (group : Nat) (s : State) : Response :=
  match groupId? group with
  | none => refuse .range s
  | some g =>
    if groupExists s.lum g then accept false (s.setLum (updGroup g (fun r => { r with failed := false }) s.lum))
    else refuse .range s

/-- GROUP_CLEAR_FAIL (R104). -/
def execGroupClearFail (p : PortId) (s : State) : Outcome State Fault Refusal :=
  .next (serve p .groupClearFail
    (fun b s => match b with
      | .groupClearFail g => groupClearFail g s
      | _ => refuse .badFrame s) s)

/-- The owner of POWER_SET (R105). -/
def powerSet (group watts : Nat) (s : State) : Response :=
  match groupId? group with
  | none => refuse .range s
  | some g =>
    if groupExists s.lum g then
      accept (4095 < watts) (s.setLum (updGroup g (fun r => { r with power := min watts 4095 }) s.lum))
    else refuse .range s

/-- POWER_SET (R105). -/
def execPowerSet (p : PortId) (s : State) : Outcome State Fault Refusal :=
  .next (serve p .powerSet
    (fun b s => match b with
      | .powerSet g w => powerSet g w s
      | _ => refuse .badFrame s) s)

end Sys2Proof.Machine
end

