-- ==== Sys2Proof/Machine/ResetCommands.lean ====
section
/-! DEFINITION. The two resets: POWER_ON_RESET (R166) and the warm restart of RESTART (R14, R15). -/

namespace Sys2Proof.Machine

open Sys2Proof Host

/-! ## Power-on reset -/

/-- The role a pair of strap pins reads as (R179). -/
def strapRole (x : StrapPins) : Role :=
  match x.first, x.second with
  | false, false => .off
  | false, true => .floor
  | true, false => .shade
  | true, true => .energy

/-- The roles of the strap readings: of ports strapped alike the lowest-numbered holds the role (R154). -/
def rolesOf (a b c : Role) : Vector Role 3 := #v[a, if b = a then .off else b, if c = a ∨ c = b then .off else c]

/-- Every block at its initial values with the straps as they are now read (R154, R166). The commands that wait are the
model's own and stay (log 22). -/
def powerOn (p0 p1 p2 : StrapPins) (s : State) : State :=
  { State.initial #v[strapRole p0, strapRole p1, strapRole p2] (rolesOf (strapRole p0) (strapRole p1) (strapRole p2)) with
    pending := s.pending }

/-- POWER_ON_RESET (R166). -/
def execPowerOnReset (p0 p1 p2 : StrapPins) (s : State) : Outcome State Fault Refusal := .next (powerOn p0 p1 p2 s)

/-! ## Warm restart, block by block -/

/-- The sequencer: a run in progress is aborted with reason RESTART, the record kept otherwise (R15, R152). -/
def restartCal (x : Calibration) : Calibration :=
  match x.run with
  | none => x
  | some _ => ⟨none, { x.result with outcome := .aborted .restart }⟩

/-- The groups: demanded levels equal to present levels, step timers stopped, unsent flags clear (R15, R102, R130). -/
def restartGroup (r : Group) : Group := { r with demanded := r.present, timer := false, unsent := false }

/-- A transmission in progress runs on; a QUERY frame and its window belong to no query any more (R130). -/
def restartTx : Tx → Tx
  | .setLevel g level kept => .setLevel g level kept
  | .query g i _ => .query g i false
  | .window g i _ => .window g i false

/-- The group table and the link: the full refresh queued, RUNNING or DOWN by the detector's last report (R15, R130). -/
def restartLum (l : Lum) : Lum :=
  let groups := l.groups.map (Option.map restartGroup)
  { groups := groups
    link := arbitrate
      { state := if l.link.faultReported then .down else .running
        pauseInForce := false
        queue := levelsWhere ⟨groups, l.link⟩ fun _ _ => true
        tx := l.link.tx.map restartTx
        lastGrant := .level
        unit := .idle
        record := QueryRecord.initial
        faultReported := l.link.faultReported } }

/-- The sensor link: holders empty, the round ended, the timer restarted, and a new round at once, whose first poll waits for
the end of an exchange in flight, which is void (R15, R30). While it waits, every turn of the new round waits with it
(DESIGN CHOICE, log 31). -/
def restartSensors (y : Layout) (x : SensorLink) : SensorLink :=
  let x := { x with roundTimer := 250, lateStart := false, holders := Vector.replicate 32 Holder.empty }
  match x.poll with
  | none => startRound y x
  | some q => { x with round := some 0, poll := some { q with void := true, outlived := true } }

/-- The controller of a configured segment (R15, R74). -/
def restartCtrl (cfg : SegConfig) (snap : Vector Nat 3) (c : Ctrl) : Ctrl :=
  { enterStart snap c with
    good := 0, miss := 0, lastRaw := none, heldSnap := snap, glare := false, passTimer := some cfg.passPeriod }

/-- A port: request slot, causes and event sets emptied, RESTARTED raised, the reply slot emptied but for the RESTART reply,
and a select period in progress void (R14, R165; a release that falls together with the restart is log 33). -/
def restartPort (keepsReply : Bool) (p : Port) : Port :=
  if p.role = .off then p
  else
    { p with
      request := none
      reply := if keepsReply then p.reply else none
      progress := .none
      refused := false
      raised := causeMask .restarted
      events := Vector.replicate 16 0
      period := p.period.map fun _ => ⟨[], false, true⟩ }

/-- The warm restart that a RESTART executed on the port brings about (R14, R15). The run is ended before the rest, and its
segments are set by the restart itself (log 11). -/
def warmRestart (p : PortId) (s : State) : State :=
  { s with
    ports := Vector.ofFn fun q => restartPort (q == p) s.ports[q]
    ctrls := Vector.ofFn fun i =>
      if configured s i then restartCtrl (segCfg s i) (presentLevels s.lum i) s.ctrls[i] else s.ctrls[i]
    sensors := restartSensors s.layout s.sensors
    table := { s.table with entries := [] }
    lum := restartLum s.lum
    cal := restartCal s.cal }

/-- RESTART: the OK reply is placed and then the warm restart takes effect; skipped or refused ROLE, nothing restarts (R14). -/
def restart (p : PortId) (s : State) : State :=
  match admission p .restart s with
  | .absent => s
  | .skipped r => placeReply p r .skipped [] s
  | .roleRefused r => placeReply p r .role [] s
  | .admitted r => warmRestart p (placeReply p r .ok [] s)

/-- RESTART (R14). -/
def execRestart (p : PortId) (s : State) : Outcome State Fault Refusal := .next (restart p s)

end Sys2Proof.Machine
end

