-- ==== Sys2Proof/Machine/TableCommands.lean ====
section
/-! DEFINITION. The request table: posting, cancelling, the uptime tick with its expiries, and reading (Section 5). -/

namespace Sys2Proof.Machine

open Sys2Proof Host

/-! ## Kinds of entries -/

/-- The entry is an OVERRIDE. -/
def isOverride (e : Entry) : Bool :=
  match e.ask with
  | .override _ _ => true
  | _ => false

/-- The entry is a HOLD, settling or not. -/
def isHold (e : Entry) : Bool :=
  match e.ask with
  | .hold _ _ => true
  | _ => false

/-- The entry is a LOCK. -/
def isLock (e : Entry) : Bool :=
  match e.ask with
  | .lock _ => true
  | _ => false

/-- The entry is the CAP of the cap id. -/
def isCap (id : Nat) (e : Entry) : Bool :=
  match e.ask with
  | .cap n _ _ => n == id
  | _ => false

/-- The expiry of an entry, absent for a LOCK and for a CAP without one (R75). -/
def expiryOf (e : Entry) : Option Nat :=
  match e.ask with
  | .override _ x => some x
  | .hold x _ => some x
  | .lock _ => none
  | .cap _ _ x => x

/-! ## Checks shared by the requests -/

/-- The request's mask without the segments that are not configured (R81). -/
def keptMask (m : SegMask) (s : State) : SegMask := m &&& configuredMask s

/-- The table a request would leave is too long (R81, check 3). -/
def tableFull (t : List Entry) : Bool := 32 < t.length

/-- Entries of a kind lose the segments of the mask and a new entry is appended, as one table change; refused where the
table would hold more than 32 entries (R81, R83, R85, R86, R87). -/
def replaceOver (sel : Entry → Bool) (m : SegMask) (new : Entry) (clamped : Bool) (s : State) : Response :=
  let t := takeOut sel m s.table.entries ++ [new]
  if tableFull t then refuse .tableFull s
  else accept clamped (tableChange t (some new) (takenFrom sel m s.table.entries ||| new.mask) s)

/-- Entries of a kind lose the segments of the mask, as one table change; where none is altered nobody is informed (R84,
R85, R91). -/
def releaseOver (sel : Entry → Bool) (m : SegMask) (clamped : Bool) (s : State) : Response :=
  accept clamped (tableChange (takeOut sel m s.table.entries) none (takenFrom sel m s.table.entries) s)

/-! ## Overrides and locks -/

/-- The owner of OVERRIDE_SET (R81, R83). -/
def overrideSet (mask : SegMask) (level minutes : Nat) (s : State) : Response :=
  let m := keptMask mask s
  if m = 0 then refuse .notConfigured s
  else
    let lv := clampTo 0 1000 level
    let d := clampTo 1 480 minutes
    replaceOver isOverride m ⟨m, .override lv (s.table.uptime + d * 60)⟩ (m != mask || lv != level || d != minutes) s

/-- OVERRIDE_SET (R83). -/
def execOverrideSet (p : PortId) (s : State) : Outcome State Fault Refusal :=
  .next (serve p .overrideSet
    (fun b s => match b with
      | .overrideSet m l d => overrideSet m l d s
      | _ => refuse .badFrame s) s)

/-- The owner of OVERRIDE_CANCEL (R84). -/
def overrideCancel (mask : SegMask) (s : State) : Response :=
  let m := keptMask mask s
  if m = 0 then refuse .notConfigured s else releaseOver isOverride m (m != mask) s

/-- OVERRIDE_CANCEL (R84). -/
def execOverrideCancel (p : PortId) (s : State) : Outcome State Fault Refusal :=
  .next (serve p .overrideCancel
    (fun b s => match b with
      | .overrideCancel m => overrideCancel m s
      | _ => refuse .badFrame s) s)

/-- The owner of LOCK_SET (R85). -/
def lockSet (mask : SegMask) (level : Nat) (s : State) : Response :=
  let m := keptMask mask s
  if m = 0 then refuse .notConfigured s
  else
    let lv := clampTo 0 1000 level
    replaceOver isLock m ⟨m, .lock lv⟩ (m != mask || lv != level) s

/-- LOCK_SET (R85). -/
def execLockSet (p : PortId) (s : State) : Outcome State Fault Refusal :=
  .next (serve p .lockSet
    (fun b s => match b with
      | .lockSet m l => lockSet m l s
      | _ => refuse .badFrame s) s)

/-- The owner of LOCK_RELEASE (R85). -/
def lockRelease (mask : SegMask) (s : State) : Response :=
  let m := keptMask mask s
  if m = 0 then refuse .notConfigured s else releaseOver isLock m (m != mask) s

/-- LOCK_RELEASE (R85). -/
def execLockRelease (p : PortId) (s : State) : Outcome State Fault Refusal :=
  .next (serve p .lockRelease
    (fun b s => match b with
      | .lockRelease m => lockRelease m s
      | _ => refuse .badFrame s) s)

/-! ## Holds -/

/-- The larger of an expiry and that of every HOLD entry that covers a segment of the mask (R86). -/
def maxExpiry (m : SegMask) (x : Nat) (t : List Entry) : Nat :=
  t.foldl (fun a e => if isHold e && e.mask &&& m != 0 then max a ((expiryOf e).getD 0) else a) x

/-- The owner of HOLD_SET (R86). -/
def holdSet (mask : SegMask) (seconds : Nat) (s : State) : Response :=
  let m := keptMask mask s
  if m = 0 then refuse .notConfigured s
  else
    let d := clampTo 1 600 seconds
    replaceOver isHold m ⟨m, .hold (maxExpiry m (s.table.uptime + d) s.table.entries) false⟩ (m != mask || d != seconds) s

/-- HOLD_SET (R86). -/
def execHoldSet (p : PortId) (s : State) : Outcome State Fault Refusal :=
  .next (serve p .holdSet
    (fun b s => match b with
      | .holdSet m d => holdSet m d s
      | _ => refuse .badFrame s) s)

/-- The segments of the mask that a HOLD entry covers (R87). -/
def heldMask (m : SegMask) (t : List Entry) : SegMask := maskWhere fun i => maskHas m i && holdOver t i

/-- The owner of HOLD_SETTLED (R87). -/
def holdSettled (mask : SegMask) (s : State) : Response :=
  let m := keptMask mask s
  if m = 0 then refuse .notConfigured s
  else
    let h := heldMask m s.table.entries
    if h = 0 then accept (m != mask) s
    else if s.table.settle = 0 then releaseOver isHold h (m != mask) s
    else replaceOver isHold h ⟨h, .hold (s.table.uptime + s.table.settle) true⟩ (m != mask) s

/-- HOLD_SETTLED (R87). -/
def execHoldSettled (p : PortId) (s : State) : Outcome State Fault Refusal :=
  .next (serve p .holdSettled
    (fun b s => match b with
      | .holdSettled m => holdSettled m s
      | _ => refuse .badFrame s) s)

/-- The owner of SETTLE_SET (R88). -/
def settleSet (seconds : Nat) (s : State) : Response :=
  accept (60 < seconds) (s.setTable { s.table with settle := min seconds 60 })

/-- SETTLE_SET (R88). -/
def execSettleSet (p : PortId) (s : State) : Outcome State Fault Refusal :=
  .next (serve p .settleSet
    (fun b s => match b with
      | .settleSet n => settleSet n s
      | _ => refuse .badFrame s) s)

/-! ## Caps -/

/-- The frame form of a duration of none (R178). -/
def noDuration : Nat := 0xFFFF

/-- A cap's duration in minutes brought into range, absent for none (R89). -/
def capMinutes (minutes : Nat) : Option Nat := if minutes = noDuration then none else some (clampTo 1 240 minutes)

/-- The owner of CAP_SET: the CAP entry of the cap id changed in place, or a new one appended (R81, R89). -/
def capSet (id : Nat) (mask : SegMask) (level minutes : Nat) (s : State) : Response :=
  let m := keptMask mask s
  if 8 ≤ id then refuse .range s
  else if m = 0 then refuse .notConfigured s
  else
    let lv := clampTo 0 1000 level
    let d := capMinutes minutes
    let new : Entry := ⟨m, .cap id lv (d.map fun n => s.table.uptime + n * 60)⟩
    let clamped := m != mask || lv != level || (d.getD noDuration) != minutes
    match s.table.entries.find? (isCap id) with
    | some old =>
      accept clamped
        (tableChange (s.table.entries.map fun e => if isCap id e then new else e) (some new) (old.mask ||| m) s)
    | none =>
      if tableFull (s.table.entries ++ [new]) then refuse .tableFull s
      else accept clamped (tableChange (s.table.entries ++ [new]) (some new) m s)

/-- CAP_SET (R89). -/
def execCapSet (p : PortId) (s : State) : Outcome State Fault Refusal :=
  .next (serve p .capSet
    (fun b s => match b with
      | .capSet id m l d => capSet id m l d s
      | _ => refuse .badFrame s) s)

/-- The owner of CAP_CANCEL (R90). -/
def capCancel (id : Nat) (s : State) : Response :=
  if 8 ≤ id then refuse .range s
  else
    match s.table.entries.find? (isCap id) with
    | none => accept false s
    | some old => accept false (tableChange (s.table.entries.filter fun e => !isCap id e) none old.mask s)

/-- CAP_CANCEL (R90). -/
def execCapCancel (p : PortId) (s : State) : Outcome State Fault Refusal :=
  .next (serve p .capCancel
    (fun b s => match b with
      | .capCancel id => capCancel id s
      | _ => refuse .badFrame s) s)

/-! ## Uptime and expiry -/

/-- The last second of the uptime counter (R77). -/
def uptimeEnd : Nat := 4294967295

/-- The uptime one second on (R77). What follows the last second is a free value (log 6). -/
def nextUptime (t : Nat) : Nat := if t < uptimeEnd then t + 1 else Config.uptimePastEnd.toNat

/-- The entry leaves at this uptime (R79). -/
def dueAt (t : Nat) (e : Entry) : Bool := expiryOf e == some t

/-- The cause that the expiry of an entry raises, with the role it goes to (R79). -/
def expiryCause (e : Entry) : Option (Role × Cause) :=
  match e.ask with
  | .override _ _ => some (.floor, .overrideExpired)
  | .hold _ false => some (.shade, .holdExpired)
  | .hold _ true => none
  | .lock _ => none
  | .cap _ _ _ => some (.energy, .capExpired)

/-- The expiry cause of one departed entry raised (R79). -/
def raiseExpiry (v : Ports) (e : Entry) : Ports :=
  match expiryCause e with
  | none => v
  | some (r, c) => raiseRole r c v

/-- Every entry whose expiry is the present uptime leaves the table, as one change: its cause is raised and its segments are
informed (R79, R91). -/
def departDue (s : State) : State :=
  let gone := s.table.entries.filter (dueAt s.table.uptime)
  let s := s.setPorts (gone.foldl raiseExpiry s.ports)
  tableChange (s.table.entries.filter fun e => !dueAt s.table.uptime e) none (gone.foldl (fun m e => m ||| e.mask) 0) s

/-- UPTIME_TICK: the uptime increases by one, and the departures of R79 are part of the same event (R77, R80; log 7). -/
def execUptimeTick (s : State) : Outcome State Fault Refusal :=
  .next (departDue (s.setTable { s.table with uptime := nextUptime s.table.uptime }))

/-- ENTRY_EXPIRY: the entries whose expiry is the present uptime leave (R79; log 7). -/
def execEntryExpiry (s : State) : Outcome State Fault Refusal := .next (departDue s)

/-! ## Reading -/

/-- The kind byte of an entry record: kind, settling, cap id (R179). Bits 4 and 3, which R179 leaves unsaid, read 0 (DESIGN
CHOICE, log 32). -/
def entryKindByte (e : Entry) : Nat :=
  match e.ask with
  | .override _ _ => 0
  | .hold _ settling => 1 * 64 + bit settling * 32
  | .lock _ => 2 * 64
  | .cap id _ _ => 3 * 64 + id

/-- The value of an entry record, 0 for HOLD (R94). -/
def entryValue (e : Entry) : Nat :=
  match e.ask with
  | .override level _ => level
  | .hold _ _ => 0
  | .lock level => level
  | .cap _ level _ => level

/-- An entry record of TABLE_READ (R94, R179). -/
def entryRecord (uptime : Nat) (e : Entry) : List Byte :=
  beBytes 1 (entryKindByte e) ++ beBytes 2 e.mask.toNat ++ beBytes 2 (entryValue e)
    ++ wordOrAbsent ((expiryOf e).map fun x => x - uptime)

/-- The payload of TABLE_READ (R94, R179). -/
def tablePayload (start : Nat) (t : Table) : List Byte :=
  let recs := ((t.entries.drop start).take 4).flatMap (entryRecord t.uptime)
  beBytes 1 start ++ beBytes 1 t.entries.length ++ beBytes 4 t.uptime ++ recs ++ List.replicate (28 - recs.length) 0

/-- The owner of TABLE_READ (R94). -/
def tableRead (start : Nat) (s : State) : Response :=
  if 32 ≤ start then refuse .range s else answer (tablePayload start s.table) s

/-- TABLE_READ (R94). -/
def execTableRead (p : PortId) (s : State) : Outcome State Fault Refusal :=
  .next (serve p .tableRead
    (fun b s => match b with
      | .tableRead n => tableRead n s
      | _ => refuse .badFrame s) s)

end Sys2Proof.Machine
end

