-- ==== Sys2Proof/Machine/Dispatch.lean ====
section
/-! DEFINITION. The meaning of every command, one arm a row of spec/opcode_table.json. -/

namespace Sys2Proof.Machine

open Sys2Proof

/-- The effect of a command on everything but the queue. -/
def exec (i : Instr) (s : State) : Host.Outcome State Fault Refusal :=
  match i with
  | .powerOnReset p0 p1 p2 => Sys2Proof.Machine.execPowerOnReset p0 p1 p2 s
  | .selectAssert p => Sys2Proof.Machine.execSelectAssert p s
  | .selectRelease p x => Sys2Proof.Machine.execSelectRelease p x s
  | .nop p => Sys2Proof.Machine.execNop p s
  | .ident p => Sys2Proof.Machine.execIdent p s
  | .causesRead p => Sys2Proof.Machine.execCausesRead p s
  | .causesClear p => Sys2Proof.Machine.execCausesClear p s
  | .enablesWrite p => Sys2Proof.Machine.execEnablesWrite p s
  | .eventsRead p => Sys2Proof.Machine.execEventsRead p s
  | .segRead p => Sys2Proof.Machine.execSegRead p s
  | .sensorRead p => Sys2Proof.Machine.execSensorRead p s
  | .tableRead p => Sys2Proof.Machine.execTableRead p s
  | .couplingRead p => Sys2Proof.Machine.execCouplingRead p s
  | .queryResult p => Sys2Proof.Machine.execQueryResult p s
  | .energyRead p => Sys2Proof.Machine.execEnergyRead p s
  | .calResultRead p => Sys2Proof.Machine.execCalResultRead p s
  | .segDefine p => Sys2Proof.Machine.execSegDefine p s
  | .segRemove p => Sys2Proof.Machine.execSegRemove p s
  | .segTune p => Sys2Proof.Machine.execSegTune p s
  | .bandSet p => Sys2Proof.Machine.execBandSet p s
  | .layoutLock p => Sys2Proof.Machine.execLayoutLock p s
  | .couplingWrite p => Sys2Proof.Machine.execCouplingWrite p s
  | .overrideSet p => Sys2Proof.Machine.execOverrideSet p s
  | .overrideCancel p => Sys2Proof.Machine.execOverrideCancel p s
  | .lockSet p => Sys2Proof.Machine.execLockSet p s
  | .lockRelease p => Sys2Proof.Machine.execLockRelease p s
  | .holdSet p => Sys2Proof.Machine.execHoldSet p s
  | .holdSettled p => Sys2Proof.Machine.execHoldSettled p s
  | .settleSet p => Sys2Proof.Machine.execSettleSet p s
  | .capSet p => Sys2Proof.Machine.execCapSet p s
  | .capCancel p => Sys2Proof.Machine.execCapCancel p s
  | .calStart p => Sys2Proof.Machine.execCalStart p s
  | .calAbort p => Sys2Proof.Machine.execCalAbort p s
  | .linkPause p => Sys2Proof.Machine.execLinkPause p s
  | .linkResume p => Sys2Proof.Machine.execLinkResume p s
  | .groupClearFail p => Sys2Proof.Machine.execGroupClearFail p s
  | .powerSet p => Sys2Proof.Machine.execPowerSet p s
  | .energyClear p => Sys2Proof.Machine.execEnergyClear p s
  | .glareSet p => Sys2Proof.Machine.execGlareSet p s
  | .queryDriver p => Sys2Proof.Machine.execQueryDriver p s
  | .restart p => Sys2Proof.Machine.execRestart p s
  | .roundTimerExpiry => Sys2Proof.Machine.execRoundTimerExpiry s
  | .sensorReply hi lo st chk => Sys2Proof.Machine.execSensorReply hi lo st chk s
  | .replyWindowTimeout => Sys2Proof.Machine.execReplyWindowTimeout s
  | .interByteGap => Sys2Proof.Machine.execInterByteGap s
  | .turnaroundEnd => Sys2Proof.Machine.execTurnaroundEnd s
  | .pass seg => Sys2Proof.Machine.execPass seg s
  | .fadeStep g => Sys2Proof.Machine.execFadeStep g s
  | .uptimeTick => Sys2Proof.Machine.execUptimeTick s
  | .entryExpiry => Sys2Proof.Machine.execEntryExpiry s
  | .energyTick => Sys2Proof.Machine.execEnergyTick s
  | .setLevelCompletion => Sys2Proof.Machine.execSetLevelCompletion s
  | .queryFrameCompletion => Sys2Proof.Machine.execQueryFrameCompletion s
  | .answerWindowEnd a => Sys2Proof.Machine.execAnswerWindowEnd a s
  | .busFault => Sys2Proof.Machine.execBusFault s
  | .busRestoration => Sys2Proof.Machine.execBusRestoration s
  | .calStageTimerExpiry => Sys2Proof.Machine.execCalStageTimerExpiry s

end Sys2Proof.Machine
end

