-- ==== Sys2Proof/Safety.lean ====
section
/-! DEFINITION. What a well-kept state is: the laws that the spec states over the part's stores, in the terms the statements
use. -/

namespace Sys2Proof.Safety

open Sys2Proof Sys2Proof.Machine

/-! ## Ports (R155, R154, R170, R172) -/

/-- A port's law: at most one of its slots holds a frame (R155), the stored causes leave SEG_EVENT to the event sets (R170),
only enable-able causes are enabled (R172), and an event set is pending only for a segment of the mask. -/
abbrev PortLaw (p : Port) : Prop :=
  (p.request = none ∨ p.reply = none) ∧ p.raised &&& causeMask .segEvent = 0 ∧ p.enables &&& enableable = p.enables ∧
    ∀ i : SegId, p.events[i] ≠ 0 → maskHas p.segMask i = true

/-- Every port keeps its law. -/
abbrev PortsLaw (s : State) : Prop := ∀ p : PortId, PortLaw s.ports[p]

/-! ## Coupling store (R32) -/

/-- At most 6 entries, in strictly ascending group order, each coefficient in 1..4095 (R32). -/
abbrev ListLaw (l : List Coupling) : Prop :=
  l.length ≤ 6 ∧ l.Pairwise (fun a b => a.group < b.group) ∧ ∀ e ∈ l, 1 ≤ e.coeff ∧ e.coeff ≤ 4095

/-- Every coupling list keeps the law, and the pending coefficients of a run lie within 0..4095 (R32, R143). -/
abbrev CouplingLaw (s : State) : Prop :=
  (∀ k : SensorId, ListLaw s.coupling.lists[k]) ∧
    ∀ r ∈ s.cal.run, ∀ k : SensorId, ∀ e ∈ r.gathered[k].measured, e.coeff ≤ 4095

/-! ## Request table (R75) -/

/-- The level an entry carries lies within 0..1000 and its cap id within 0..7 (R75). -/
def askInRange (a : Ask) : Bool :=
  match a with
  | .override level _ => level ≤ 1000
  | .hold _ _ => true
  | .lock level => level ≤ 1000
  | .cap id level _ => id < 8 && level ≤ 1000

/-- Two entries that the table may hold together: no segment under two of the same kind among OVERRIDE, HOLD and LOCK, and
no two caps of one id (R75). -/
def compatible (a b : Entry) : Bool :=
  match a.ask, b.ask with
  | .override _ _, .override _ _ => a.mask &&& b.mask == 0
  | .hold _ _, .hold _ _ => a.mask &&& b.mask == 0
  | .lock _, .lock _ => a.mask &&& b.mask == 0
  | .cap i _ _, .cap j _ _ => i != j
  | _, _ => true

/-- The law of the request table: at most 32 entries, no empty mask, every covered segment configured (R75). -/
abbrev TableLaw (s : State) : Prop :=
  s.table.entries.length ≤ 32 ∧ s.table.entries.Pairwise (fun a b => compatible a b = true) ∧
    ∀ e ∈ s.table.entries, e.mask ≠ 0 ∧ e.mask &&& configuredMask s = e.mask ∧ askInRange e.ask = true

/-! ## Layout (R1) and existence (R2) -/

/-- The ranges of a configuration record (R1). -/
abbrev ConfigLaw (c : SegConfig) : Prop :=
  (if c.configured then 1 ≤ c.bandCount ∧ c.bandCount ≤ 3 ∧ c.primary ≠ none ∧ c.secondary ≠ c.primary
    else c.bandCount = 0 ∧ c.primary = none ∧ c.secondary = none) ∧
  c.target ≤ 2000 ∧ 100 ≤ c.passPeriod ∧ c.passPeriod ≤ 2000 ∧ c.passPeriod % 50 = 0 ∧ c.deadBand ≤ 50 ∧ c.nUp ≤ 6 ∧
  c.nDown ≤ 6 ∧ 1 ≤ c.sUp ∧ c.sUp ≤ 100 ∧ 1 ≤ c.sDown ∧ c.sDown ≤ 100 ∧ c.fallback ≤ 1000 ∧ c.glareThreshold ≤ 20000 ∧
  ∀ b : BandId, c.bands[b].ratio ≤ 256 ∧ 1 ≤ c.bands[b].efficacy ∧ c.bands[b].efficacy ≤ 4095 ∧
    c.bands[b].lmin ≤ c.bands[b].lmax ∧ c.bands[b].lmax ≤ 1000

/-- Every configuration record lies within its ranges (R1). -/
abbrev LayoutLaw (s : State) : Prop := ∀ i : SegId, ConfigLaw (segCfg s i)

/-- A group exists exactly while its segment is configured with a band count greater than its band (R2). -/
abbrev ExistenceLaw (s : State) : Prop :=
  ∀ g : GroupId, groupExists s.lum g = (configured s (segOf g) && decide ((bandOf g).val < (segCfg s (segOf g)).bandCount))

/-! ## Levels (R96) -/

/-- Every level that composition can draw on lies within 0..1000: control outputs, snapshots, fallback and entry levels,
and the levels a run assigns (R51, R67, R75, R137). -/
abbrev SourcesLaw (s : State) : Prop :=
  (∀ i : SegId, ∀ b : BandId,
    s.ctrls[i].outputs[b].value ≤ 1000 ∧ s.ctrls[i].startSnap[b] ≤ 1000 ∧ s.ctrls[i].heldSnap[b] ≤ 1000) ∧
  (∀ i : SegId, (segCfg s i).fallback ≤ 1000 ∧ ∀ b : BandId, (segCfg s i).bands[b].lmin ≤ 1000 ∧ (segCfg s i).bands[b].lmax ≤ 1000) ∧
  (∀ e ∈ s.table.entries, askInRange e.ask = true) ∧
  ∀ r ∈ s.cal.run, r.params.base ≤ 1000 ∧ r.params.highEff ≤ 1000 ∧ r.params.low ≤ 1000 ∧
    ∀ g : GroupId, r.assigned[g] ≤ 1000

/-- Every existing group's present and demanded level lie within 0..1000, and a group at rest is at its demand (R96). -/
abbrev GroupsLaw (l : Lum) : Prop :=
  ∀ g : GroupId, ∀ r ∈ l.groups[g], r.present ≤ 1000 ∧ r.demanded ≤ 1000 ∧ (r.timer = false → r.present = r.demanded)

/-- The levels of the part lie within their range, with the sources of composition. -/
abbrev LevelsLaw (s : State) : Prop := SourcesLaw s ∧ GroupsLaw s.lum

/-! ## Luminaire link (R115, R116) -/

/-- The level queue holds no two entries for a group, and names existing groups only (R115, R8). -/
abbrev QueueLaw (l : Lum) : Prop :=
  (l.link.queue.map Prod.fst).Nodup ∧ ∀ e ∈ l.link.queue, ∃ r ∈ l.groups[e.1], r.unsent = false ∧ e.2 = r.present

/-- The flags: in RUNNING no unsent flag is set, and in PAUSED the queue is empty (R115). -/
abbrev StateLaw (l : Lum) : Prop :=
  (l.link.state = .running → ∀ g : GroupId, ∀ r ∈ l.groups[g], r.unsent = false) ∧
  (l.link.state = .paused → l.link.queue = [] ∧ l.link.tx = none) ∧
  (l.link.state = .down → l.link.tx = none) ∧
  (l.link.state = .running ∨ l.link.state = .draining → l.link.tx = none → l.link.queue = [])

/-- The group's level is on its way in the frame in transmission, or was the last one sent. -/
abbrev Delivered (l : Lum) (g : GroupId) (r : Group) : Prop :=
  l.link.tx = some (.setLevel g r.present true) ∨
    ((∀ v k, l.link.tx ≠ some (.setLevel g v k)) ∧ r.lastSent = some r.present)

/-- While the link is not DOWN, the present level of every existing group is queued, marked unsent, in transmission, or the
last one sent (R116). -/
abbrev SentLaw (l : Lum) : Prop :=
  l.link.state ≠ .down → ∀ g : GroupId, ∀ r ∈ l.groups[g], queued l.link g = true ∨ r.unsent = true ∨ Delivered l g r

/-- The link is DOWN exactly while the detector's last report is a fault (R126, R127, R128, R130). -/
abbrev DownLaw (l : Lum) : Prop := l.link.state = .down ↔ l.link.faultReported = true

/-- The law of the luminaire link. -/
abbrev LumLaw (l : Lum) : Prop := QueueLaw l ∧ StateLaw l ∧ SentLaw l ∧ DownLaw l

/-! ## Modes (R52) -/

/-- The segment belongs to the run in progress. -/
def inRun (s : State) (i : SegId) : Bool := (s.cal.run.map fun r => maskHas r.segments i).getD false

/-- The mode of every segment by the precedence of R52: CALIBRATING exactly in a run, otherwise LOCKED exactly under a LOCK
entry, otherwise HELD exactly under a HOLD entry, and UNCONFIGURED exactly while not configured. -/
abbrev ModeLaw (s : State) : Prop :=
  ∀ i : SegId,
    (configured s i = false → modeOf s i = .unconfigured ∧ inRun s i = false ∧ isLocked s i = false ∧ isHeld s i = false) ∧
    (configured s i = true →
      (modeOf s i ≠ .unconfigured) ∧
      (modeOf s i = .calibrating ↔ inRun s i = true) ∧
      (modeOf s i = .locked ↔ inRun s i = false ∧ isLocked s i = true) ∧
      (modeOf s i = .held ↔ inRun s i = false ∧ isLocked s i = false ∧ isHeld s i = true))

/-! ## Composition (R68, R69) and the run (R131, R135) -/

/-- The highest level that a run assigns (R148). -/
def runTop (r : CalRun) : Nat := max r.params.highEff r.params.base

/-- A run's involved groups are the existing groups of its segments (R131), it assigns levels to those alone and none above
its top (R135), and no cap over one of its segments lies below that top (R69, R148). -/
abbrev RunLaw (s : State) : Prop :=
  ∀ r ∈ s.cal.run,
    (∀ g : GroupId, r.groups.contains g = (maskHas r.segments (segOf g) && groupExists s.lum g)) ∧
    (∀ g : GroupId, r.groups.contains g = false → r.assigned[g] = 0) ∧
    (∀ g : GroupId, r.assigned[g] ≤ runTop r) ∧ r.params.low ≤ r.params.highEff ∧
    ∀ i : SegId, maskHas r.segments i = true → ∀ level ∈ capsOver s.table.entries i, runTop r ≤ level

/-- Every coupling list names existing groups only (R32). -/
abbrev NamingLaw (s : State) : Prop := ∀ k : SensorId, ∀ e ∈ s.coupling.lists[k], groupExists s.lum e.group = true

/-- Every group's demanded level is the level that composition demands in the state as it stands (R68, R70). -/
abbrev ComposedLaw (s : State) : Prop :=
  ∀ g : GroupId, ∀ r ∈ s.lum.groups[g], r.demanded = demandLevel s (segOf g) (bandOf g)

/-- The laws that hold the blocks together: existence, table, modes, run, coupling names and composition. -/
abbrev JointLaw (s : State) : Prop :=
  ExistenceLaw s ∧ TableLaw s ∧ ModeLaw s ∧ RunLaw s ∧ NamingLaw s ∧ ComposedLaw s

/-! ## Sensor link (R17, R25, R26) -/

/-- A holder within its ranges: the value and the last good second present or absent together, a reading in FRESH and
SUSPECT, none in NO_DATA, and the miss counts of the states (R17, R23). -/
abbrev HolderLaw (h : Holder) : Prop :=
  h.miss ≤ 3 ∧ (∀ v ∈ h.value, v ≤ 20000) ∧ (h.value = none ↔ h.lastGood = none) ∧
  (h.state = .noData → h.value = none ∧ h.saturated = false ∧ h.miss ≤ 2) ∧ (h.state = .fresh → h.value ≠ none ∧ h.miss = 0) ∧
  (h.state = .suspect → h.value ≠ none ∧ 1 ≤ h.miss ∧ h.miss ≤ 2)

/-- Every holder keeps its law, the holder of a sensor that is not assigned is empty (R25), and a poll in flight whose
outcome counts is one of an assigned sensor (R26). -/
abbrev SensorLaw (s : State) : Prop :=
  (∀ k : SensorId, HolderLaw s.sensors.holders[k] ∧
    (assigned s.layout k = false → s.sensors.holders[k] = Holder.empty)) ∧
  ∀ q ∈ s.sensors.poll, q.void = false → assigned s.layout q.channel = true

/-! ## Controller records (R51) -/

/-- The ranges of a controller record: counts, filter value, last raw daylight and band daylights (R51, R53, R64, R65). -/
abbrev CtrlLaw (c : Ctrl) : Prop :=
  c.good ≤ 3 ∧ c.miss ≤ 3 ∧ (∀ f ∈ c.filter, f ≤ 20000) ∧ (∀ d ∈ c.lastRaw, d ≤ 20000) ∧
  ∀ b : BandId, ∀ d ∈ c.bandDaylight[b], d ≤ 20000

/-- Every controller record lies within its ranges, with the layout record that its band daylights are computed by. -/
abbrev ControlLaw (s : State) : Prop := LayoutLaw s ∧ ∀ i : SegId, CtrlLaw s.ctrls[i]

/-! ## Expiries (R75) -/

/-- A present expiry lies later than the uptime (R75, R79). -/
abbrev ExpiryLaw (s : State) : Prop := ∀ e ∈ s.table.entries, ∀ x ∈ expiryOf e, s.table.uptime < x

/-! ## Energy (R106) -/

/-- Every accumulator and fraction lies within its range (R106). -/
abbrev EnergyLaw (s : State) : Prop := ∀ i : SegId, s.energy[i].wh ≤ energyCeiling ∧ s.energy[i].frac < unitsPerWh

/-! ## The vocabulary of the statements -/

/-- The command that executes a request of the kind on the port. -/
def requestCommand (k : Kind) (p : PortId) : Instr :=
  match k with
  | .nop => .nop p
  | .ident => .ident p
  | .causesRead => .causesRead p
  | .causesClear => .causesClear p
  | .enablesWrite => .enablesWrite p
  | .eventsRead => .eventsRead p
  | .segRead => .segRead p
  | .sensorRead => .sensorRead p
  | .tableRead => .tableRead p
  | .couplingRead => .couplingRead p
  | .queryResult => .queryResult p
  | .energyRead => .energyRead p
  | .calResultRead => .calResultRead p
  | .segDefine => .segDefine p
  | .segRemove => .segRemove p
  | .segTune => .segTune p
  | .bandSet => .bandSet p
  | .layoutLock => .layoutLock p
  | .couplingWrite => .couplingWrite p
  | .overrideSet => .overrideSet p
  | .overrideCancel => .overrideCancel p
  | .lockSet => .lockSet p
  | .lockRelease => .lockRelease p
  | .calStart => .calStart p
  | .calAbort => .calAbort p
  | .linkPause => .linkPause p
  | .linkResume => .linkResume p
  | .groupClearFail => .groupClearFail p
  | .restart => .restart p
  | .holdSet => .holdSet p
  | .holdSettled => .holdSettled p
  | .glareSet => .glareSet p
  | .settleSet => .settleSet p
  | .capSet => .capSet p
  | .capCancel => .capCancel p
  | .powerSet => .powerSet p
  | .energyClear => .energyClear p
  | .queryDriver => .queryDriver p

/-- The request waits in the port's slot, the LINK check lets it through (R162) and the port's role may issue its kind
(R163): it reaches its owning block. -/
abbrev Runs (p : PortId) (r : Request) (s : State) : Prop :=
  s.ports[p].request = some r ∧ (r.link = false ∨ s.ports[p].refused = false) ∧
    roleMayIssue s.ports[p].role (kindOf r.body) = true

/-- One port's record changed, everything else as it was. -/
def atPort (p : PortId) (f : Port → Port) (s : State) : State := { s with ports := s.ports.set p (f s.ports[p]) }

/-- The number of a request names a group that exists. -/
abbrev NamesGroup (l : Lum) (n : Nat) : Prop := ∃ h : n < 48, groupExists l ⟨n, h⟩ = true

/-- The port's record but for its event sets is the same. -/
abbrev OnlyEvents (s t : State) : Prop := ∀ q : PortId, { t.ports[q] with events := s.ports[q].events } = s.ports[q]

/-- The port's record but for its event sets and its causes is the same. -/
abbrev OnlyEventsAndCauses (s t : State) : Prop :=
  ∀ q : PortId, { t.ports[q] with events := s.ports[q].events, raised := s.ports[q].raised } = s.ports[q]

/-- The mode of a segment informed of a table change, by the entries after it: the table of R56. -/
def coveredMode (m : Mode) (t : List Entry) (i : SegId) : Mode :=
  match m with
  | .unconfigured => .unconfigured
  | .calibrating => .calibrating
  | .start | .active | .degraded => if (lockOver t i).isSome then .locked else if holdOver t i then .held else m
  | .held | .locked => if (lockOver t i).isSome then .locked else if holdOver t i then .held else .start

/-- The mode in which a segment leaves CALIBRATING, by the entries (R58). -/
def returnMode (t : List Entry) (i : SegId) : Mode :=
  if (lockOver t i).isSome then .locked else if holdOver t i then .held else .start

/-- The segment's controller record once its mode has become the given one: on entry to START the effects of R54, on entry
to HELD the held snapshot by the mode left (R57), on entry to another mode the mode alone (R58), and with no change of mode
the record as it stands. -/
def changedCtrl (s : State) (i : SegId) (m : Mode) : Ctrl :=
  let present : Vector Nat 3 := Vector.ofFn fun b => (s.lum.groups[groupOf i b].map (·.present)).getD 0
  if modeOf s i = m then s.ctrls[i]
  else
    match m with
    | .start =>
      { s.ctrls[i] with
        mode := .start, filter := none, bandDaylight := Vector.replicate 3 none, startSnap := present
        outputs := s.ctrls[i].outputs.map fun o => { o with valid := false } }
    | .held =>
      { s.ctrls[i] with
        mode := .held
        heldSnap :=
          match modeOf s i with
          | .start => s.ctrls[i].startSnap
          | .active => s.ctrls[i].outputs.map (·.value)
          | .degraded => Vector.ofFn fun b => if b.val < (segCfg s i).bandCount then (segCfg s i).fallback else 0
          | .unconfigured | .held | .locked | .calibrating => present }
    | .unconfigured | .active | .degraded | .locked | .calibrating => { s.ctrls[i] with mode := m }

/-- The fade wait of a run is met: every involved group exists, is at rest and stands at its assigned level (R138). -/
abbrev Faded (r : CalRun) (l : Lum) : Prop :=
  ∀ g ∈ r.groups, ∃ x ∈ l.groups[g], x.timer = false ∧ x.present = r.assigned[g]

/-- The link once a changed level of a group is handed to it: the group's entry takes the level in its place; otherwise, on
a RUNNING or DOWN link and without an unsent flag, an entry is appended and the arbiter looks; otherwise nothing (R115,
R117). -/
def placed (unsent : Bool) (g : GroupId) (level : Nat) (k : Link) : Link :=
  if queued k g then { k with queue := k.queue.map fun e => if e.1 = g then (g, level) else e }
  else if unsent = true ∨ k.state = .draining ∨ k.state = .paused then k
  else arbitrate { k with queue := k.queue ++ [(g, level)] }

/-- The level one step from the present toward the demanded (R100). -/
def oneStep (z : StepSizes) (present demanded : Nat) : Nat :=
  if present < demanded then min demanded (present + z.up) else max demanded (present - z.down)

/-- A new demand makes a group take a step at once: it differs from the old one, and the group is at rest elsewhere (R98). -/
def stepsAtOnce (level : Nat) (r : Group) : Bool := r.demanded != level && !r.timer && r.present != level

/-- A group's record once it is handed a demand: nothing with an equal one; at rest one step at once, with the timer started
and the level queued or marked unsent; in a fade the demand alone (R98, R115). -/
def demandedGroup (z : StepSizes) (g : GroupId) (level : Nat) (k : Link) (r : Group) : Group :=
  if stepsAtOnce level r then
    { r with
      demanded := level, timer := true, present := oneStep z r.present level
      unsent := r.unsent || (!queued k g && (k.state == .draining || k.state == .paused)) }
  else { r with demanded := level }

/-- The groups and the link once the chosen groups are handed their demands in ascending order; every other group's record
stays (R70, R98, R101). R98 orders the groups of one segment; that the groups of several segments go in ascending segment
order is the model's choice (DESIGN CHOICE, log 9). -/
def handedDown (chosen : GroupId → Bool) (want : GroupId → Nat) (z : SegId → StepSizes) (l : Lum) : Lum where
  groups := Vector.ofFn fun g =>
    if chosen g then l.groups[g].map (demandedGroup (z (segOf g)) g (want g) l.link) else l.groups[g]
  link := (List.finRange 48).foldl (fun k g =>
    match l.groups[g] with
    | none => k
    | some r =>
      if chosen g && stepsAtOnce (want g) r then
        placed r.unsent g (oneStep (z (segOf g)) r.present (want g)) k
      else k) l.link

/-- The step sizes of a segment's groups: 100 in LOCKED and CALIBRATING, otherwise s_up and s_down (R100). -/
def stepOf (s : State) (i : SegId) : StepSizes :=
  if modeOf s i = .locked ∨ modeOf s i = .calibrating then ⟨100, 100⟩ else ⟨(segCfg s i).sUp, (segCfg s i).sDown⟩

/-- The groups and the link once the chosen segments are recomposed: each of their groups is handed the demand of
composition, in the state `t` (R68, R70). The order of the segments, ascending, is the model's choice (log 9). -/
def recomposed (chosen : SegId → Bool) (t : State) (l : Lum) : Lum :=
  handedDown (fun g => chosen (segOf g) && decide ((bandOf g).val < (segCfg t (segOf g)).bandCount))
    (fun g => demandLevel t (segOf g) (bandOf g)) (stepOf t) l

/-- The configured segments of the mask are recomposed, and nothing else changes a group or the link (R70, R98). The order
of several segments, ascending, is the model's choice (log 9). -/
abbrev Recomposed (m : SegMask) (s t : State) : Prop :=
  t.lum = recomposed (fun i => maskHas m i && configured t i) t s.lum

/-- What ends with a run, from the groups and the link as they stand: each involved segment in CALIBRATING leaves it by its
coverage and is recomposed, and no other controller and no other group changes (R58). The order of several segments,
ascending, is the model's choice (log 9). -/
abbrev SegmentsReleased (r : CalRun) (s : State) (l : Lum) (t : State) : Prop :=
  (∀ i : SegId, t.ctrls[i] =
    if maskHas r.segments i = true ∧ modeOf s i = .calibrating then changedCtrl s i (returnMode s.table.entries i)
    else s.ctrls[i]) ∧
  t.lum = recomposed (fun i => maskHas r.segments i && modeOf s i == .calibrating) t l

end Sys2Proof.Safety
end

