-- ==== Sys2Proof/Certificates/Slice0/Obligations.lean ====
section
/-! DEFINITION. The statements for the provers, by family of commands. A request that reaches its owning block is one that
`Runs`; what placing its reply does is stated once (`ReplyFrames`) and `placeReply` stands for it elsewhere. -/

open Sys2Proof Sys2Proof.Machine Sys2Proof.Safety

/-! ## The machine -/

/-- A step takes the command at the front of the queue and executes it on the state with the queue's rest; every command
answers a next state from every state and leaves the waiting commands alone; an empty queue leaves the state as it is (the
model's choice, log 4). -/
def Obligations.StepRunsFrontCommand : Prop :=
  ((∀ (c : Instr) (rest : List Instr) (s : State), step { s with pending := c :: rest } = exec c { s with pending := rest }) ∧
     ∀ s : State, s.pending = [] → step s = .next s) ∧
  (∀ (c : Instr) (s : State), ∃ t, exec c s = .next t ∧ t.pending = s.pending)

/-- POWER_ON_RESET leaves every block at its power-on values, whatever stood before (R16, R31, R34, R74, R95, R111, R130,
R152, R154, R166, R175). The queue of waiting commands, the model's own, stays (the model's choice, log 22). -/
def Obligations.PowerOnValues : Prop :=
  ∀ (a b c : StrapPins) (s : State), ∃ t, exec (.powerOnReset a b c) s = .next t ∧ t.pending = s.pending ∧
    t.layout.lock = false ∧
    (∀ i : SegId, segCfg t i =
      ⟨false, 0, none, none, 500, 500, 10, 3, 1, 5, 10, 800, 0,
        #v[⟨256, 600, 100, 1000⟩, ⟨128, 600, 100, 1000⟩, ⟨64, 600, 100, 1000⟩]⟩) ∧
    (∀ i : SegId, t.ctrls[i].mode = .unconfigured ∧ t.ctrls[i].passTimer = none) ∧
    (t.sensors.roundTimer = 250 ∧ t.sensors.lateStart = false ∧ t.sensors.round = none ∧ t.sensors.poll = none ∧
      ∀ k : SensorId, t.sensors.holders[k] = ⟨.noData, none, false, 0, none⟩) ∧
    (∀ k : SensorId, t.coupling.lists[k] = [] ∧ t.coupling.dark[k] = 0) ∧
    t.table = ⟨[], 10, 0⟩ ∧
    (∀ g : GroupId, t.lum.groups[g] = none) ∧
    t.lum.link = ⟨.running, false, [], none, .level, .idle, ⟨false, 0, 0, .ratedPower, none⟩, false⟩ ∧
    (∀ i : SegId, t.energy[i] = ⟨0, 0⟩) ∧
    t.cal.run = none ∧ t.cal.result.outcome = .none ∧ t.cal.result.segments = 0 ∧
    t.cal.result.params = ⟨0, 0, 0, 0, 0, 0, 0, .none⟩ ∧ t.cal.result.clamped = false ∧
    (∀ k : SensorId, t.cal.result.statuses[k] = .notInvolved) ∧
    ∀ p : PortId,
      t.ports[p].strap = strapRole #v[a, b, c][p] ∧
      t.ports[p].role =
        (if ∃ q : PortId, q < p ∧ t.ports[q].strap = t.ports[p].strap then Role.off else t.ports[p].strap) ∧
      t.ports[p].request = none ∧ t.ports[p].reply = none ∧ t.ports[p].progress = .none ∧ t.ports[p].refused = false ∧
      t.ports[p].raised = (if t.ports[p].role = .off then 0 else causeMask .restarted) ∧ t.ports[p].enables = 0 ∧
      t.ports[p].segMask = 0 ∧ (∀ i : SegId, t.ports[p].events[i] = 0) ∧ t.ports[p].period = none

/-! ## Invariants that every step keeps -/

/-- The laws that the invariants state hold at the reset state. -/
def Obligations.LawsAtReset : Prop :=
  PortsLaw State.reset ∧ CouplingLaw State.reset ∧ LayoutLaw State.reset ∧ LevelsLaw State.reset ∧ LumLaw State.reset.lum ∧
    JointLaw State.reset ∧ SensorLaw State.reset ∧ ControlLaw State.reset ∧ ExpiryLaw State.reset ∧ EnergyLaw State.reset

/-- Every step keeps the ports' law: at most one of a port's two slots holds a frame, only enable-able causes are enabled,
and an event is pending for masked segments alone (R155, R170, R172). -/
def Obligations.PortsLawKept : Prop :=
  ∀ s t : State, PortsLaw s → step s = .next t → PortsLaw t

/-- Every step keeps the coupling lists within their law: at most 6 entries, strictly ascending groups, coefficients in
1..4095 (R32, R145). -/
def Obligations.CouplingLawKept : Prop :=
  ∀ s t : State, CouplingLaw s → step s = .next t → CouplingLaw t

/-- Every step keeps every level within 0..1000, and a group whose step timer is stopped at its demanded level (R96). -/
def Obligations.LevelsLawKept : Prop :=
  ∀ s t : State, LevelsLaw s → step s = .next t → LevelsLaw t

/-- Every step keeps the luminaire link's law: no group twice in the queue or both queued and unsent, no unsent flag in
RUNNING, and every group's present level queued, unsent, in transmission or last sent while not DOWN (R115, R116). -/
def Obligations.LumLawKept : Prop :=
  ∀ s t : State, LumLaw s.lum → step s = .next t → LumLaw t.lum

/-- Every step keeps the precedence of modes: CALIBRATING exactly in the run, otherwise LOCKED exactly under a lock,
otherwise HELD exactly under a hold, UNCONFIGURED exactly while not configured (R52). -/
def Obligations.ModeLawKept : Prop :=
  ∀ s t : State, ModeLaw s → step s = .next t → ModeLaw t

/-- Every step keeps the request table's law: at most 32 entries, no empty mask, configured segments only, no segment
under two entries of a kind among OVERRIDE, HOLD and LOCK, no two caps of one id (R75). -/
def Obligations.TableLawKept : Prop :=
  ∀ s t : State, TableLaw s → step s = .next t → TableLaw t

/-- Every step keeps the laws that tie the blocks: groups exist by the layout, the table names configured segments, modes
follow run and table, a run's groups and levels fit its segments and their caps, coupling lists name existing groups, and
every group's demanded level is what composition demands (R2, R32, R52, R68, R75, R131, R148). -/
def Obligations.JointLawKept : Prop :=
  ∀ s t : State, JointLaw s → step s = .next t → JointLaw t

/-- Every step keeps the sample holders within their ranges and those of unassigned sensors empty (R17, R25, R26). -/
def Obligations.SensorLawKept : Prop :=
  ∀ s t : State, SensorLaw s → step s = .next t → SensorLaw t

/-- Every step keeps the controller records within their ranges (R51, R53, R64, R65). -/
def Obligations.ControlLawKept : Prop :=
  ∀ s t : State, ControlLaw s → step s = .next t → ControlLaw t

/-- While the uptime is short of its end, every step keeps every present expiry later than the uptime (R75, R79), and no
command but POWER_ON_RESET takes the uptime back (R77). Every step keeps the accumulators and fractions within their
ranges, and an accumulator decreases only through ENERGY_CLEAR and power-on reset (R106). -/
def Obligations.UptimeExpiriesAndEnergy : Prop :=
  (∀ s t : State, s.table.uptime < 4294967295 → step s = .next t →
     (ExpiryLaw s → ExpiryLaw t) ∧
       ((∀ a b c, s.pending.head? ≠ some (.powerOnReset a b c)) → s.table.uptime ≤ t.table.uptime)) ∧
  (∀ s t : State, EnergyLaw s → step s = .next t → EnergyLaw t ∧
     ((∀ a b c, s.pending.head? ≠ some (.powerOnReset a b c)) → (∀ p, s.pending.head? ≠ some (.energyClear p)) →
       ∀ i : SegId, s.energy[i].wh ≤ t.energy[i].wh))

/-- The level that composition demands of a band's group: the assigned level in CALIBRATING, the level of the lock in
LOCKED, and otherwise the override's level or the base of the mode, under every cap (R68). In a state that keeps the joint
law, the demanded level of a group of a segment that is not LOCKED is no greater than the level of any cap that covers the
segment (R69). While the layout lock is set, every command but POWER_ON_RESET leaves it set and keeps which segments are
configured, their band counts and their sensors (R13). -/
def Obligations.LayoutLockAndCapsHold : Prop :=
  (∀ (i : SegId) (b : BandId) (s : State),
     (∀ r, modeOf s i = .calibrating → s.cal.run = some r → demandLevel s i b = r.assigned[groupOf i b]) ∧
     (∀ level, modeOf s i = .locked → lockOver s.table.entries i = some level → demandLevel s i b = level) ∧
     ∀ base,
       (modeOf s i = .start ∧ base = s.ctrls[i].startSnap[b] ∨
         modeOf s i = .active ∧ base = s.ctrls[i].outputs[b].value ∨
         modeOf s i = .degraded ∧ base = (segCfg s i).fallback ∨
         modeOf s i = .held ∧ base = s.ctrls[i].heldSnap[b]) →
       demandLevel s i b = (capsOver s.table.entries i).foldl min ((overrideOver s.table.entries i).getD base)) ∧
  (∀ s : State, JointLaw s → ∀ (g : GroupId) (r : Group), s.lum.groups[g] = some r → modeOf s (segOf g) ≠ .locked →
     ∀ level ∈ capsOver s.table.entries (segOf g), r.demanded ≤ level) ∧
  (∀ (c : Instr) (s t : State), s.layout.lock = true → (∀ x y z, c ≠ .powerOnReset x y z) → exec c s = .next t →
     t.layout.lock = true ∧ ∀ i : SegId,
       (segCfg t i).configured = (segCfg s i).configured ∧ (segCfg t i).bandCount = (segCfg s i).bandCount ∧
       (segCfg t i).primary = (segCfg s i).primary ∧ (segCfg t i).secondary = (segCfg s i).secondary)

/-! ## Ports and frames -/

/-- A request frame, whatever bytes follow it, is read back as the request it spells, for every kind and every value of
its fields, and it has the length of its kind (R156, R159, R177, R178). -/
def Obligations.FrameRoundTrip : Prop :=
  ∀ (r : Request) (tail : List Byte), r.wellFormed = true →
    parseFrame (requestFrame r ++ tail) = some r ∧ (requestFrame r).length = requestLength (kindOf r.body)

/-- The CRC over a whole frame with its check byte gives 0 (R156). The statuses have the codes of R176, and the kinds the
codes and the two frame lengths of R177; bytes whose kind code is not among them are no frame. A request frame is the kind
code with the LINK flag in bit 7, the tag, the payload fields of R178 in their order and widths, most significant byte
first, and the check byte, for every kind. The frame bytes that the spec writes out come out so: NOP, its reply and the
two NONE frames (R176, 11.5). -/
def Obligations.CheckByteAndSpecFrames : Prop :=
  (∀ l : List Byte, crc8 (withCheck l) = 0) ∧
  (∀ st : Status, (st, st.code) ∈ ([(.ok, 0x00), (.okClamped, 0x01), (.accepted, 0x02), (.badFrame, 0x10), (.role, 0x11),
     (.range, 0x12), (.notConfigured, 0x13), (.layoutLocked, 0x14), (.busy, 0x15), (.tableFull, 0x16), (.capped, 0x17),
     (.held, 0x18), (.segLocked, 0x19), (.paused, 0x1A), (.noLink, 0x1B), (.skipped, 0x1C), (.empty, 0x20),
     (.pending, 0x21)] : List (Status × Nat))) ∧
  (∀ k : Kind, (k, kindCode k, requestLength k, replyLength k) ∈ ([(.nop, 0x01, 3, 4), (.ident, 0x02, 3, 16),
     (.causesRead, 0x03, 3, 10), (.causesClear, 0x04, 5, 4), (.enablesWrite, 0x05, 7, 4), (.eventsRead, 0x06, 3, 22),
     (.segRead, 0x07, 4, 40), (.sensorRead, 0x08, 4, 18), (.tableRead, 0x09, 4, 38), (.couplingRead, 0x0A, 4, 25),
     (.queryResult, 0x0B, 3, 14), (.energyRead, 0x0C, 4, 37), (.calResultRead, 0x0D, 3, 37), (.segDefine, 0x20, 7, 4),
     (.segRemove, 0x21, 4, 4), (.segTune, 0x22, 15, 4), (.bandSet, 0x23, 13, 4), (.layoutLock, 0x24, 3, 4),
     (.couplingWrite, 0x25, 24, 4), (.overrideSet, 0x26, 9, 4), (.overrideCancel, 0x27, 5, 4), (.lockSet, 0x28, 7, 4),
     (.lockRelease, 0x29, 5, 4), (.calStart, 0x2A, 15, 4), (.calAbort, 0x2B, 3, 4), (.linkPause, 0x2C, 3, 4),
     (.linkResume, 0x2D, 3, 4), (.groupClearFail, 0x2E, 4, 4), (.restart, 0x2F, 3, 4), (.holdSet, 0x40, 7, 4),
     (.holdSettled, 0x41, 5, 4), (.glareSet, 0x42, 7, 4), (.settleSet, 0x43, 4, 4), (.capSet, 0x60, 10, 4),
     (.capCancel, 0x61, 4, 4), (.powerSet, 0x62, 6, 4), (.energyClear, 0x63, 5, 4), (.queryDriver, 0x70, 5, 4)] :
       List (Kind × Nat × Nat × Nat))) ∧
  (∀ (first : Byte) (rest : List Byte), (∀ k : Kind, kindCode k ≠ first.toNat % 128) → parseFrame (first :: rest) = none) ∧
  (∀ (link : Bool) (tag : Byte),
     let one := fun n : Nat => [BitVec.ofNat 8 n]
     let two := fun n : Nat => [BitVec.ofNat 8 (n / 256), BitVec.ofNat 8 n]
     let set := fun m : BitVec 16 => two m.toNat
     let spells := fun (b : Body) (code : Nat) (payload : List Byte) =>
       requestFrame ⟨link, tag, b⟩ = withCheck (BitVec.ofNat 8 (code + if link then 128 else 0) :: tag :: payload)
     spells .nop 0x01 [] ∧ spells .ident 0x02 [] ∧ spells .causesRead 0x03 [] ∧ spells .eventsRead 0x06 [] ∧
     spells .queryResult 0x0B [] ∧ spells .calResultRead 0x0D [] ∧ spells .layoutLock 0x24 [] ∧ spells .calAbort 0x2B [] ∧
     spells .linkPause 0x2C [] ∧ spells .linkResume 0x2D [] ∧ spells .restart 0x2F [] ∧
     (∀ n : Nat, spells (.segRead n) 0x07 (one n) ∧ spells (.sensorRead n) 0x08 (one n) ∧ spells (.tableRead n) 0x09 (one n) ∧
       spells (.couplingRead n) 0x0A (one n) ∧ spells (.energyRead n) 0x0C (one n) ∧ spells (.segRemove n) 0x21 (one n) ∧
       spells (.groupClearFail n) 0x2E (one n) ∧ spells (.settleSet n) 0x43 (one n) ∧ spells (.capCancel n) 0x61 (one n)) ∧
     (∀ m : BitVec 16, spells (.causesClear m) 0x04 (set m) ∧ spells (.overrideCancel m) 0x27 (set m) ∧
       spells (.lockRelease m) 0x29 (set m) ∧ spells (.holdSettled m) 0x41 (set m) ∧ spells (.energyClear m) 0x63 (set m)) ∧
     (∀ en m : BitVec 16, spells (.enablesWrite en m) 0x05 (set en ++ set m)) ∧
     (∀ i n a c : Nat, spells (.segDefine i n a c) 0x20 (one i ++ one n ++ one a ++ one c)) ∧
     (∀ i v pp db nu nd su sd f : Nat, spells (.segTune i v pp db nu nd su sd f) 0x22
       (one i ++ two v ++ two pp ++ one db ++ one nu ++ one nd ++ one su ++ one sd ++ two f)) ∧
     (∀ i b r k lo hi : Nat, spells (.bandSet i b r k lo hi) 0x23 (one i ++ one b ++ two r ++ two k ++ two lo ++ two hi)) ∧
     (∀ (k d n : Nat) (p₀ p₁ p₂ p₃ p₄ p₅ : Nat × Nat), spells (.couplingWrite k d n [p₀, p₁, p₂, p₃, p₄, p₅]) 0x25
       (one k ++ one d ++ one n ++ one p₀.1 ++ two p₀.2 ++ one p₁.1 ++ two p₁.2 ++ one p₂.1 ++ two p₂.2 ++ one p₃.1 ++
         two p₃.2 ++ one p₄.1 ++ two p₄.2 ++ one p₅.1 ++ two p₅.2)) ∧
     (∀ (m : SegMask) (a b : Nat), spells (.overrideSet m a b) 0x26 (set m ++ two a ++ two b) ∧
       spells (.lockSet m a) 0x28 (set m ++ two a) ∧ spells (.holdSet m a) 0x40 (set m ++ two a) ∧
       spells (.glareSet m a) 0x42 (set m ++ two a)) ∧
     (∀ (m : SegMask) (lb h l hp su o : Nat), spells (.calStart m lb h l hp su o) 0x2A
       (set m ++ two lb ++ two h ++ two l ++ two hp ++ one su ++ one o)) ∧
     (∀ (id : Nat) (m : SegMask) (level minutes : Nat), spells (.capSet id m level minutes) 0x60
       (one id ++ set m ++ two level ++ two minutes)) ∧
     ∀ g x : Nat, spells (.powerSet g x) 0x62 (one g ++ two x) ∧ spells (.queryDriver g x) 0x70 (one g ++ one x)) ∧
  (parseFrame [0x01, 0x00, 0x15] = some ⟨false, 0x00, .nop⟩ ∧ requestFrame ⟨false, 0x00, .nop⟩ = [0x01, 0x00, 0x15] ∧
     replyFrame .nop 0x00 .ok [] = [0x01, 0x00, 0x00, 0x6B] ∧ noneFrame .empty = [0x00, 0x00, 0x20, 0xE0] ∧
     noneFrame .pending = [0x00, 0x00, 0x21, 0xE7])

/-- A request in a slot is replied by the command that executes it: the request slot empties and the reply slot holds one
frame of the length of the kind, with the kind code, the request's tag and a good check (R156, R161, R177). Placing a
reply empties the request slot, fills the reply slot, raises REPLY_READY and makes the refused flag say whether the status
is 0x10 or above; a refusal's payload is all 0x00; nothing else changes (R156, R161, R162). -/
def Obligations.ReplyFrames : Prop :=
  (∀ (p : PortId) (r : Request) (s : State), s.ports[p].request = some r → s.ports[p].role ≠ .off →
    (∀ k : SensorId, s.coupling.lists[k].length ≤ 6) →
    ∃ (t : State) (rest : List Byte), exec (requestCommand (kindOf r.body) p) s = .next t ∧ t.ports[p].request = none ∧
      t.ports[p].reply = some (BitVec.ofNat 8 (kindCode (kindOf r.body)) :: r.tag :: rest) ∧
      rest.length + 2 = replyLength (kindOf r.body) ∧
      crc8 (BitVec.ofNat 8 (kindCode (kindOf r.body)) :: r.tag :: rest) = 0) ∧
  ∀ (p : PortId) (r : Request) (st : Status) (payload : List Byte) (s : State), s.ports[p].role ≠ .off →
    placeReply p r st payload s = atPort p (fun q =>
      { q with
        request := none
        reply := some (withCheck (BitVec.ofNat 8 (kindCode (kindOf r.body)) :: r.tag :: BitVec.ofNat 8 st.code ::
          if 16 ≤ st.code then List.replicate (replyLength (kindOf r.body) - 4) 0 else payload))
        progress := .none
        refused := decide (16 ≤ st.code)
        raised := q.raised ||| 0x0002 }) s

/-- A request with the LINK flag after a refusal is replied SKIPPED; otherwise one whose kind is reserved to other roles
is replied ROLE; neither changes anything but the port (R162, R163). The roles that may issue each kind are those of the
table of R163. A request command finds nothing to execute on an OFF port (R154) or where no request of its kind waits, and
changes nothing (the model's choice, log 2). -/
def Obligations.PortChecks : Prop :=
  (∀ (p : PortId) (r : Request) (s : State), s.ports[p].request = some r → s.ports[p].role ≠ .off →
     (r.link = true → s.ports[p].refused = true →
       exec (requestCommand (kindOf r.body) p) s = .next (placeReply p r .skipped [] s)) ∧
     (r.link = false ∨ s.ports[p].refused = false → roleMayIssue s.ports[p].role (kindOf r.body) = false →
       exec (requestCommand (kindOf r.body) p) s = .next (placeReply p r .role [] s))) ∧
  (∀ (role : Role) (k : Kind), roleMayIssue role k = true ↔
     role ≠ .off ∧ k ∈ ([.nop, .ident, .causesRead, .causesClear, .enablesWrite, .eventsRead, .segRead, .sensorRead,
       .tableRead, .couplingRead, .queryResult, .energyRead, .calResultRead] : List Kind) ∨
     role = .floor ∧ k ∈ ([.segDefine, .segRemove, .segTune, .bandSet, .layoutLock, .restart, .couplingWrite, .overrideSet,
       .overrideCancel, .lockSet, .lockRelease, .calStart, .calAbort, .linkPause, .linkResume, .groupClearFail] : List Kind) ∨
     role = .shade ∧ k ∈ ([.holdSet, .holdSettled, .settleSet, .glareSet] : List Kind) ∨
     role = .energy ∧ k ∈ ([.capSet, .capCancel, .powerSet, .energyClear] : List Kind) ∨
     (role = .floor ∨ role = .energy) ∧ k = .queryDriver) ∧
  (∀ (k : Kind) (p : PortId) (s : State),
     s.ports[p].role = .off ∨ (∀ r, s.ports[p].request = some r → kindOf r.body ≠ k) →
     exec (requestCommand k p) s = .next s)

/-- SELECT_ASSERT fixes what the period shifts out, each byte most significant bit first: the reply in the slot, or a NONE
frame with PENDING or EMPTY, and 0xFF behind it; a reply placed later does not change it (R153, R157). Outside a period
data out stands at its high level (R153). An OFF port takes no part (R154). The reply progress is set to none at the
assertion (the model's choice, log 15). -/
def Obligations.SelectAssertFixesFrame : Prop :=
  ∀ (p : PortId) (s : State),
    (s.ports[p].role = .off → exec (.selectAssert p) s = .next s) ∧
    (s.ports[p].period = none → ∀ n : Nat, dataOut s.ports[p] n = true) ∧
    (s.ports[p].role ≠ .off → s.ports[p].period = none →
      ∃ (t : State) (f : List Byte),
        f = (match s.ports[p].reply, s.ports[p].request with
          | some reply, _ => reply
          | none, some _ => [0x00, 0x00, 0x21, 0xE7]
          | none, none => [0x00, 0x00, 0x20, 0xE0]) ∧
        t = atPort p (fun q => { q with progress := .none, period := some ⟨f, q.reply.isSome, false⟩ }) s ∧
        exec (.selectAssert p) s = .next t ∧
        (∀ (n : Nat) (j : Fin 8), dataOut t.ports[p] (8 * n + j.val) = (f.getD n 0xFF).getLsbD (7 - j.val)) ∧
        ∀ (r : Request) (st : Status) (payload : List Byte) (n : Nat),
          dataOut (placeReply p r st payload t).ports[p] n = dataOut t.ports[p] n)

/-- SELECT_RELEASE judges the whole bytes of the period, each shifted most significant bit first; the bits of a byte cut
short are discarded (R153). After a period in which the master shifted 0xFF alone, a reply of which every byte was clocked
is consumed and REPLY_READY cleared, one not clocked whole is retained, and no request enters. With a whole request frame:
it enters the request slot of a port that is free, or that the same period frees by clocking its reply whole; bytes behind
the frame are ignored (R158, R159). The bits of the whole period come with the release (the model's choice, log 16), and
the reply progress is recorded then (the model's choice, log 15). A release that falls together with a warm restart taken
first finds the port free and its request enters (R165, row 4; against the rule's closing sentence, the model's choice,
log 33). -/
def Obligations.SelectReleaseAccepts : Prop :=
  (∀ (p : PortId) (n : Nat) (cut : List Bool) (late : Bool) (d : Period) (s : State), cut.length < 8 →
     s.ports[p].role ≠ .off → s.ports[p].period = some d → d.void = false →
     exec (.selectRelease p ⟨bitsOfBytes (List.replicate n 0xFF) ++ cut, late⟩) s = .next (atPort p (fun q =>
       match q.reply with
       | none => { q with period := none }
       | some f =>
         if d.carriesReply = false then { q with period := none }
         else if 0 < n ∧ f.length ≤ n then
           { q with period := none, reply := none, progress := .none, raised := q.raised &&& ~~~(0x0002 : BitVec 16) }
         else { q with period := none, progress := if n = 0 then .none else .partly }) s)) ∧
  (∀ (p : PortId) (r : Request) (tail : List Byte) (cut : List Bool) (late : Bool) (d : Period) (s : State),
     cut.length < 8 → r.wellFormed = true → s.ports[p].role ≠ .off → s.ports[p].period = some d → s.ports[p].request = none →
     (d.void = false ∨ late = true → s.ports[p].reply = none →
       exec (.selectRelease p ⟨bitsOfBytes (requestFrame r ++ tail) ++ cut, late⟩) s =
         .next (atPort p (fun q => { q with period := none, request := some r }) s)) ∧
     (∀ f, d.void = false → s.ports[p].reply = some f → d.carriesReply = true → f.length ≤ (requestFrame r ++ tail).length →
       exec (.selectRelease p ⟨bitsOfBytes (requestFrame r ++ tail) ++ cut, late⟩) s =
         .next (atPort p (fun q =>
           { q with
             period := none, reply := none, progress := .none, request := some r
             raised := q.raised &&& ~~~(0x0002 : BitVec 16) }) s)))

/-- SELECT_RELEASE with bytes that are not all 0xFF. With the reply slot empty: on a free port a frame error is answered
with the four bytes of a BAD_FRAME reply; on a busy port it is an overrun as well; a complete frame on a busy port is an
overrun alone. On a port that holds a reply after the judgment of R158, one clocked in part or placed during the period, a
complete frame is an overrun and a frame error raises both causes, the reply staying. A frame error in the period that
consumed the reply is answered BAD_FRAME (R158, R159, R160). A period that a warm restart made void, an OFF port, and a
release outside a period judge nothing (R154, R165; a release that falls together with the restart is the model's choice,
log 33; a release outside a period is log 2). -/
def Obligations.SelectReleaseRejects : Prop :=
  (∀ (p : PortId) (l : List Byte) (cut : List Bool) (late : Bool) (d : Period) (s : State), cut.length < 8 →
     s.ports[p].role ≠ .off → s.ports[p].period = some d → d.void = false → (∃ b ∈ l, b ≠ 0xFF) →
     (s.ports[p].reply = none →
       (s.ports[p].request = none → parseFrame l = none →
         exec (.selectRelease p ⟨bitsOfBytes l ++ cut, late⟩) s = .next (atPort p (fun q =>
           { q with
             period := none
             reply := some (withCheck [l.getD 0 0 &&& 0x7F, l.getD 1 0, 0x10])
             progress := .none
             refused := true
             raised := q.raised ||| 0x0008 ||| 0x0002 }) s)) ∧
       (s.ports[p].request ≠ none → parseFrame l = none →
         exec (.selectRelease p ⟨bitsOfBytes l ++ cut, late⟩) s =
           .next (atPort p (fun q => { q with period := none, raised := q.raised ||| 0x0008 ||| 0x0004 }) s)) ∧
       (s.ports[p].request ≠ none → parseFrame l ≠ none →
         exec (.selectRelease p ⟨bitsOfBytes l ++ cut, late⟩) s =
           .next (atPort p (fun q => { q with period := none, raised := q.raised ||| 0x0004 }) s))) ∧
     ∀ f, s.ports[p].reply = some f →
       (d.carriesReply = false ∨ l.length < f.length →
         exec (.selectRelease p ⟨bitsOfBytes l ++ cut, late⟩) s = .next (atPort p (fun q =>
           { q with
             period := none
             progress := if d.carriesReply then .partly else q.progress
             raised := if (parseFrame l).isSome then q.raised ||| 0x0004 else q.raised ||| 0x0008 ||| 0x0004 }) s)) ∧
       (d.carriesReply = true → f.length ≤ l.length → s.ports[p].request = none → parseFrame l = none →
         exec (.selectRelease p ⟨bitsOfBytes l ++ cut, late⟩) s = .next (atPort p (fun q =>
           { q with
             period := none
             reply := some (withCheck [l.getD 0 0 &&& 0x7F, l.getD 1 0, 0x10])
             progress := .none
             refused := true
             raised := q.raised &&& ~~~(0x0002 : BitVec 16) ||| 0x0008 ||| 0x0002 }) s))) ∧
  (∀ (p : PortId) (x : Clocked) (s : State),
     (s.ports[p].role = .off ∨ s.ports[p].period = none → exec (.selectRelease p x) s = .next s) ∧
     ∀ d : Period, s.ports[p].role ≠ .off → s.ports[p].period = some d → d.void = true → x.atRestart = false →
       exec (.selectRelease p x) s = .next (atPort p (fun q => { q with period := none }) s))

/-- The attention output is asserted exactly when RESTARTED is present or an enabled cause is, SEG_EVENT being present
exactly while an event set is not empty; never on an OFF port (R169, R170, R154). -/
def Obligations.AttentionRule : Prop :=
  ∀ p : Port, p.raised &&& causeMask .segEvent = 0 → p.enables &&& 0x07FE = p.enables →
    (attention p = true ↔ p.role ≠ .off ∧
      (p.raised.getLsbD 0 = true ∨ (∃ n : Nat, n ≠ 4 ∧ p.enables.getLsbD n = true ∧ p.raised.getLsbD n = true) ∨
        (p.enables.getLsbD 4 = true ∧ ∃ i : SegId, p.events[i] ≠ 0)))

/-- NOP replies OK; IDENT replies the part's codes, the role, the strap readings, the layout lock and the uptime (R164,
R179); CAUSES_READ replies the cause set, the enables and the mask; these change nothing else. CAUSES_CLEAR removes the
named causes, SEG_EVENT being left to the event sets (R171). Bits 7 and 6 of the strap byte, which R179 leaves unsaid,
read 0, and the cause set is sent as it is stored, with nothing at the positions that name no cause (the model's choice,
log 32). -/
def Obligations.IdentAndCauses : Prop :=
  (∀ (p : PortId) (link : Bool) (tag : Byte) (s : State),
     (Runs p ⟨link, tag, .nop⟩ s → exec (.nop p) s = .next (placeReply p ⟨link, tag, .nop⟩ .ok [] s)) ∧
     (Runs p ⟨link, tag, .ident⟩ s →
       exec (.ident p) s = .next (placeReply p ⟨link, tag, .ident⟩ .ok
         ([0x0A, 0x3D, 0x34, 0x12, 0x01, BitVec.ofNat 8 (roleCode s.ports[p].role),
           BitVec.ofNat 8 (roleCode s.ports[0].strap + 4 * roleCode s.ports[1].strap + 16 * roleCode s.ports[2].strap),
           if s.layout.lock then 1 else 0] ++ beBytes 4 s.table.uptime) s)) ∧
     roleCode .off = 0 ∧ roleCode .floor = 1 ∧ roleCode .shade = 2 ∧ roleCode .energy = 3) ∧
  (∀ (p : PortId) (link : Bool) (tag : Byte) (s : State),
     (Runs p ⟨link, tag, .causesRead⟩ s →
       exec (.causesRead p) s = .next (placeReply p ⟨link, tag, .causesRead⟩ .ok
         (beBytes 2 (causeSet s.ports[p]).toNat ++ beBytes 2 s.ports[p].enables.toNat ++ beBytes 2 s.ports[p].segMask.toNat)
         s)) ∧
     ∀ named : BitVec 16, Runs p ⟨link, tag, .causesClear named⟩ s → s.ports[p].raised &&& causeMask .segEvent = 0 →
       ∃ t, exec (.causesClear p) s = .next (placeReply p ⟨link, tag, .causesClear named⟩ .ok [] t) ∧
         t = atPort p (fun q => { q with raised := q.raised &&& ~~~named }) s ∧
         (∀ n : Nat, n ≠ 4 → (causeSet t.ports[p]).getLsbD n =
           ((causeSet s.ports[p]).getLsbD n && !named.getLsbD n)) ∧
         (causeSet t.ports[p]).getLsbD 4 = (causeSet s.ports[p]).getLsbD 4)

/-- ENABLES_WRITE replaces the enables, but for the positions that name no enable-able cause, and the mask, and empties
the event sets of the segments taken out of the mask (R172). EVENTS_READ returns up to eight of the non-empty event sets,
the lowest segments first, and empties exactly those; the reply counts the sets returned and the sets that remain, and
SEG_EVENT stays exactly while some remain (R173). An event set is sent as it is stored, with nothing in the bits that R179
leaves unsaid (the model's choice, log 32). -/
def Obligations.EnablesAndEvents : Prop :=
  (∀ (p : PortId) (link : Bool) (tag : Byte) (en : BitVec 16) (m : SegMask) (s : State),
     Runs p ⟨link, tag, .enablesWrite en m⟩ s →
     exec (.enablesWrite p) s =
       .next (placeReply p ⟨link, tag, .enablesWrite en m⟩ (if en &&& 0xF801 = 0 then .ok else .okClamped) []
         (atPort p (fun q =>
           { q with
             enables := en &&& 0x07FE
             segMask := m
             events := Vector.ofFn fun i =>
               if q.segMask.getLsbD i.val && !m.getLsbD i.val then 0 else q.events[i] }) s))) ∧
  (∀ (p : PortId) (link : Bool) (tag : Byte) (s : State), Runs p ⟨link, tag, .eventsRead⟩ s →
     ∃ (segs : List SegId) (t : State) (pad : List Byte),
       segs = ((List.finRange 16).filter fun i => s.ports[p].events[i] ≠ 0).take 8 ∧
       exec (.eventsRead p) s = .next (placeReply p ⟨link, tag, .eventsRead⟩ .ok
         ([BitVec.ofNat 8 segs.length,
           BitVec.ofNat 8 (((List.finRange 16).filter fun i => s.ports[p].events[i] ≠ 0).length - segs.length)]
           ++ (segs.flatMap fun i => [BitVec.ofNat 8 i.val, s.ports[p].events[i]]) ++ pad) t) ∧
       pad = List.replicate (16 - 2 * segs.length) 0 ∧
       t = atPort p (fun q => { q with events := Vector.ofFn fun i => if i ∈ segs then 0 else q.events[i] }) s ∧
       (s.ports[p].raised &&& causeMask .segEvent = 0 → ((causeSet t.ports[p]).getLsbD 4 = true ↔
         8 < ((List.finRange 16).filter fun i => s.ports[p].events[i] ≠ 0).length)))

/-! ## Layout -/

/-- The checks of the layout requests in their order: SEG_DEFINE LAYOUT_LOCKED, RANGE, BUSY (R4); SEG_REMOVE
LAYOUT_LOCKED, RANGE, NOT_CONFIGURED, BUSY (R7); SEG_TUNE and BAND_SET RANGE, NOT_CONFIGURED, BUSY with the two further
RANGE checks of BAND_SET (R10, R11). A refusal changes nothing but the port. -/
def Obligations.LayoutRequestsRefused : Prop :=
  (∀ (p : PortId) (link : Bool) (tag : Byte) (i n a c : Nat) (s : State),
     (Runs p ⟨link, tag, .segDefine i n a c⟩ s → ∀ st : Status,
       (st = .layoutLocked ∧ s.layout.lock = true ∨
         st = .range ∧ s.layout.lock = false ∧ (16 ≤ i ∨ 32 ≤ a ∨ 32 ≤ c ∧ c ≠ 255) ∨
         st = .busy ∧ s.layout.lock = false ∧ a < 32 ∧ (c < 32 ∨ c = 255) ∧ ∃ h : i < 16, configured s ⟨i, h⟩ = true) →
       exec (.segDefine p) s = .next (placeReply p ⟨link, tag, .segDefine i n a c⟩ st [] s)) ∧
     (Runs p ⟨link, tag, .segRemove i⟩ s → ∀ st : Status,
       (st = .layoutLocked ∧ s.layout.lock = true ∨
         st = .range ∧ s.layout.lock = false ∧ 16 ≤ i ∨
         st = .notConfigured ∧ s.layout.lock = false ∧ (∃ h : i < 16, configured s ⟨i, h⟩ = false) ∨
         st = .busy ∧ s.layout.lock = false ∧
           ∃ h : i < 16, configured s ⟨i, h⟩ = true ∧ modeOf s ⟨i, h⟩ = .calibrating) →
       exec (.segRemove p) s = .next (placeReply p ⟨link, tag, .segRemove i⟩ st [] s))) ∧
  (∀ (p : PortId) (link : Bool) (tag : Byte) (i : Nat) (s : State),
     (∀ v pp db nu nd su sd f : Nat, Runs p ⟨link, tag, .segTune i v pp db nu nd su sd f⟩ s → ∀ st : Status,
       (st = .range ∧ 16 ≤ i ∨ st = .notConfigured ∧ (∃ h : i < 16, configured s ⟨i, h⟩ = false) ∨
         st = .busy ∧ ∃ h : i < 16, configured s ⟨i, h⟩ = true ∧ modeOf s ⟨i, h⟩ = .calibrating) →
       exec (.segTune p) s = .next (placeReply p ⟨link, tag, .segTune i v pp db nu nd su sd f⟩ st [] s)) ∧
     (∀ b r k lo hi : Nat, Runs p ⟨link, tag, .bandSet i b r k lo hi⟩ s → ∀ st : Status,
       (st = .range ∧ 16 ≤ i ∨ st = .notConfigured ∧ (∃ h : i < 16, configured s ⟨i, h⟩ = false) ∨
         st = .range ∧ (∃ h : i < 16, configured s ⟨i, h⟩ = true ∧ (segCfg s ⟨i, h⟩).bandCount ≤ b) ∨
         st = .busy ∧ (∃ h : i < 16, configured s ⟨i, h⟩ = true ∧ b < (segCfg s ⟨i, h⟩).bandCount ∧
           modeOf s ⟨i, h⟩ = .calibrating) ∨
         st = .range ∧ (∃ h : i < 16, configured s ⟨i, h⟩ = true ∧ b < (segCfg s ⟨i, h⟩).bandCount ∧
           modeOf s ⟨i, h⟩ ≠ .calibrating) ∧ min hi 1000 < min lo 1000) →
       exec (.bandSet p) s = .next (placeReply p ⟨link, tag, .bandSet i b r k lo hi⟩ st [] s)))

/-- SEG_DEFINE accepted: the record, the controller in START on the fallback level, the groups of its bands at 800 and no
others, their levels appended to the queue in ascending group order or marked unsent by the link state, and the rest of
the link as it was, the holders of newly assigned sensors empty, MODE_CHANGE offered, and every other block as it was (R4,
R5, R6, R25, R97, R115; the first frame of an idle link starts at once, log 12). -/
def Obligations.SegDefineAccepted : Prop :=
  ∀ (p : PortId) (link : Bool) (tag : Byte) (i : SegId) (n : Nat) (a : SensorId) (c : Nat) (s : State),
    Runs p ⟨link, tag, .segDefine i.val n a.val c⟩ s → s.layout.lock = false → c < 32 ∨ c = 255 → configured s i = false →
    ExistenceLaw s → QueueLaw s.lum →
    ∃ (t : State) (bands : Nat) (second : Option SensorId),
      exec (.segDefine p) s = .next (placeReply p ⟨link, tag, .segDefine i.val n a.val c⟩
        (if 1 ≤ n ∧ n ≤ 3 ∧ c ≠ a.val then .ok else .okClamped) [] t) ∧
      bands = max 1 (min 3 n) ∧ (∀ k : SensorId, second = some k ↔ c = k.val ∧ c ≠ a.val) ∧
      t.layout = { s.layout with
        segs := s.layout.segs.set i
          ⟨true, bands, some a, second, 500, 500, 10, 3, 1, 5, 10, 800, 0,
            #v[⟨256, 600, 100, 1000⟩, ⟨128, 600, 100, 1000⟩, ⟨64, 600, 100, 1000⟩]⟩ } ∧
      t.ctrls = s.ctrls.set i
        { mode := .start, good := 0, miss := 0, filter := none, lastRaw := none, bandDaylight := Vector.replicate 3 none
          outputs := Vector.replicate 3 ⟨0, false⟩
          startSnap := Vector.ofFn fun b => if b.val < bands then 800 else 0
          heldSnap := Vector.ofFn fun b => if b.val < bands then 800 else 0
          glare := false, passTimer := some 500 } ∧
      (∀ b : BandId, t.lum.groups[groupOf i b] =
        if b.val < bands then
          some ⟨800, 800, false, false, 0, decide (s.lum.link.state = .draining ∨ s.lum.link.state = .paused), none⟩
        else none) ∧
      (∀ g : GroupId, segOf g ≠ i → t.lum.groups[g] = s.lum.groups[g]) ∧
      t.lum.link = { s.lum.link with tx := t.lum.link.tx, queue := t.lum.link.queue, lastGrant := t.lum.link.lastGrant } ∧
      (s.lum.link.state = .draining ∨ s.lum.link.state = .paused → t.lum.link = s.lum.link) ∧
      (s.lum.link.state = .running ∨ s.lum.link.state = .down →
        t.lum.link = (((List.finRange 3).filter fun b => b.val < bands).map (groupOf i)).foldl
          (fun k g => arbitrate { k with queue := k.queue ++ [(g, 800)] }) s.lum.link) ∧
      (s.lum.link.state = .running ∧ s.lum.link.tx ≠ none ∨ s.lum.link.state = .down →
        t.lum.link.tx = s.lum.link.tx ∧ t.lum.link.lastGrant = s.lum.link.lastGrant ∧
        t.lum.link.queue = s.lum.link.queue ++
          ((List.finRange 3).filter fun b => b.val < bands).map fun b => (groupOf i b, 800)) ∧
      t.sensors = { s.sensors with
        holders := Vector.ofFn fun k =>
          if assigned s.layout k = false ∧ assigned t.layout k = true then ⟨.noData, none, false, 0, none⟩
          else s.sensors.holders[k] } ∧
      t.ports = offerEvent i .modeChange s.ports ∧ t.coupling = s.coupling ∧ t.table = s.table ∧ t.energy = s.energy ∧
      t.cal = s.cal ∧ t.pending = s.pending

/-- SEG_REMOVE accepted: the record unconfigured, the groups and their queue entries gone, the controller released, the
segment out of every coupling list, table entry and event set, sensors no longer assigned emptied and a poll of one void,
the dark offsets and the energy kept (R1, R8, R9, R26). A frame or query in progress runs on, a frame to a removed group
recording nothing and a query of one applying to nothing (R8, R121); the link keeps its state, its pause and the
detector's report. In a state that keeps the joint law nothing of another segment changes, not its controller, its groups,
their queue entries or its event sets, and the arbiter grants nothing. -/
def Obligations.SegRemoveAccepted : Prop :=
  ∀ (p : PortId) (link : Bool) (tag : Byte) (i : SegId) (s : State),
    Runs p ⟨link, tag, .segRemove i.val⟩ s → s.layout.lock = false → configured s i = true → modeOf s i ≠ .calibrating →
    ∃ t, exec (.segRemove p) s = .next (placeReply p ⟨link, tag, .segRemove i.val⟩ .ok [] t) ∧
      t.layout = { s.layout with
        segs := s.layout.segs.set i
          { s.layout.segs[i] with configured := false, bandCount := 0, primary := none, secondary := none } } ∧
      modeOf t i = .unconfigured ∧ t.ctrls[i].passTimer = none ∧
      (∀ g : GroupId, segOf g = i → t.lum.groups[g] = none ∧ queued t.lum.link g = false ∧
        ∀ level, t.lum.link.tx ≠ some (.setLevel g level true)) ∧
      (∀ g : GroupId, segOf g ≠ i → groupExists t.lum g = groupExists s.lum g) ∧
      (∀ k : SensorId, t.coupling.lists[k] = s.coupling.lists[k].filter fun e => segOf e.group ≠ i) ∧
      t.coupling.dark = s.coupling.dark ∧
      t.table = { s.table with
        entries := s.table.entries.filterMap fun e =>
          if e.mask &&& ~~~maskOf i = 0 then none else some { e with mask := e.mask &&& ~~~maskOf i } } ∧
      t.sensors = { s.sensors with
        holders := Vector.ofFn fun k =>
          if assigned s.layout k = true ∧ assigned t.layout k = false then ⟨.noData, none, false, 0, none⟩
          else s.sensors.holders[k]
        poll := s.sensors.poll.map fun q =>
          if assigned s.layout q.channel = true ∧ assigned t.layout q.channel = false then { q with void := true } else q } ∧
      (∀ q : PortId, t.ports[q].events[i] = 0) ∧ OnlyEvents s t ∧ t.energy = s.energy ∧ t.cal = s.cal ∧
      t.pending = s.pending ∧
      (∀ x, s.lum.link.tx = some x → t.lum.link.tx = some
        (match x with
        | .setLevel g level kept => .setLevel g level (kept && decide (segOf g ≠ i))
        | .query g item owned => .query g item owned
        | .window g item owned => .window g item owned)) ∧
      t.lum.link.record = s.lum.link.record ∧
      t.lum.link.unit =
        (match s.lum.link.unit with
        | .idle => .idle
        | .waiting kept => .waiting (kept && decide (segOf s.lum.link.record.group ≠ i))
        | .inFlight kept => .inFlight (kept && decide (segOf s.lum.link.record.group ≠ i))) ∧
      t.lum.link.state = s.lum.link.state ∧ t.lum.link.pauseInForce = s.lum.link.pauseInForce ∧
      t.lum.link.faultReported = s.lum.link.faultReported ∧
      (JointLaw s →
        t.lum.link.lastGrant = s.lum.link.lastGrant ∧ (s.lum.link.tx = none → t.lum.link.tx = none) ∧
        (∀ j : SegId, j ≠ i → t.ctrls[j] = s.ctrls[j] ∧ ∀ q : PortId, t.ports[q].events[j] = s.ports[q].events[j]) ∧
        (∀ g : GroupId, segOf g ≠ i → t.lum.groups[g] = s.lum.groups[g]) ∧
        t.lum.link.queue = s.lum.link.queue.filter fun e => segOf e.1 ≠ i)

/-- SEG_TUNE accepted writes the eight tuning fields brought into range, and BAND_SET the four values of the named band;
the control outputs become invalid with their values kept, the segment is recomposed, and everything else stays as it was
(R10, R11, R12). -/
def Obligations.TuneAndBandAccepted : Prop :=
  (∀ (p : PortId) (link : Bool) (tag : Byte) (i : SegId) (v pp db nu nd su sd f : Nat) (s : State),
     Runs p ⟨link, tag, .segTune i.val v pp db nu nd su sd f⟩ s → configured s i = true → modeOf s i ≠ .calibrating →
     ∃ t, exec (.segTune p) s = .next (placeReply p ⟨link, tag, .segTune i.val v pp db nu nd su sd f⟩
         (if v ≤ 2000 ∧ 100 ≤ pp ∧ pp ≤ 2000 ∧ pp % 50 = 0 ∧ db ≤ 50 ∧ nu ≤ 6 ∧ nd ≤ 6 ∧ 1 ≤ su ∧ su ≤ 100 ∧ 1 ≤ sd ∧ sd ≤ 100 ∧
           f ≤ 1000 then .ok else .okClamped) [] t) ∧
       t.layout = { s.layout with
         segs := s.layout.segs.set i
           { s.layout.segs[i] with
             target := min v 2000
             passPeriod := if pp < 100 then 100 else if 2000 < pp then 2000 else pp - pp % 50
             deadBand := min db 50, nUp := min nu 6, nDown := min nd 6
             sUp := max 1 (min su 100), sDown := max 1 (min sd 100), fallback := min f 1000 } } ∧
       t.ctrls = s.ctrls.set i
         { s.ctrls[i] with outputs := s.ctrls[i].outputs.map fun o => { o with valid := false } } ∧
       Recomposed (maskOf i) s t ∧ t.ports = s.ports ∧ t.sensors = s.sensors ∧ t.coupling = s.coupling ∧ t.table = s.table ∧
       t.energy = s.energy ∧ t.cal = s.cal ∧ t.pending = s.pending) ∧
  (∀ (p : PortId) (link : Bool) (tag : Byte) (i : SegId) (b : BandId) (r k lo hi : Nat) (s : State),
     Runs p ⟨link, tag, .bandSet i.val b.val r k lo hi⟩ s → configured s i = true → b.val < (segCfg s i).bandCount →
     modeOf s i ≠ .calibrating → min lo 1000 ≤ min hi 1000 →
     ∃ t, exec (.bandSet p) s = .next (placeReply p ⟨link, tag, .bandSet i.val b.val r k lo hi⟩
         (if r ≤ 256 ∧ 1 ≤ k ∧ k ≤ 4095 ∧ lo ≤ 1000 ∧ hi ≤ 1000 then .ok else .okClamped) [] t) ∧
       t.layout = { s.layout with
         segs := s.layout.segs.set i
           { s.layout.segs[i] with
             bands := s.layout.segs[i].bands.set b ⟨min r 256, max 1 (min k 4095), min lo 1000, min hi 1000⟩ } } ∧
       t.ctrls = s.ctrls.set i
         { s.ctrls[i] with outputs := s.ctrls[i].outputs.map fun o => { o with valid := false } } ∧
       Recomposed (maskOf i) s t ∧ t.ports = s.ports ∧ t.sensors = s.sensors ∧ t.coupling = s.coupling ∧ t.table = s.table ∧
       t.energy = s.energy ∧ t.cal = s.cal ∧ t.pending = s.pending)

/-- LAYOUT_LOCK sets the lock, set or not before (R13). SETTLE_SET writes the settle time, above 60 as 60 (R88). GLARE_SET
writes the threshold, above 20000 as 20000, to every configured segment of the mask; a threshold of 0 turns their glare
flags off, with GLARE_OFF where one was on (R72). Nothing else changes. -/
def Obligations.PartSettings : Prop :=
  (∀ (p : PortId) (link : Bool) (tag : Byte) (s : State),
     (Runs p ⟨link, tag, .layoutLock⟩ s →
       exec (.layoutLock p) s =
         .next (placeReply p ⟨link, tag, .layoutLock⟩ .ok [] { s with layout := { s.layout with lock := true } })) ∧
     ∀ n : Nat, Runs p ⟨link, tag, .settleSet n⟩ s →
       exec (.settleSet p) s = .next (placeReply p ⟨link, tag, .settleSet n⟩ (if n ≤ 60 then .ok else .okClamped) []
         { s with table := { s.table with settle := min n 60 } })) ∧
  (∀ (p : PortId) (link : Bool) (tag : Byte) (m : SegMask) (g : Nat) (s : State), Runs p ⟨link, tag, .glareSet m g⟩ s →
     m &&& configuredMask s ≠ 0 →
     ∃ t, exec (.glareSet p) s = .next (placeReply p ⟨link, tag, .glareSet m g⟩
         (if m &&& configuredMask s = m ∧ g ≤ 20000 then .ok else .okClamped) [] t) ∧
       t.layout = { s.layout with
         segs := Vector.ofFn fun i =>
           if maskHas m i = true ∧ configured s i = true then { s.layout.segs[i] with glareThreshold := min g 20000 }
           else s.layout.segs[i] } ∧
       (∀ i : SegId, t.ctrls[i] =
         if g = 0 ∧ maskHas m i = true ∧ configured s i = true then { s.ctrls[i] with glare := false } else s.ctrls[i]) ∧
       OnlyEvents s t ∧
       (∀ (q : PortId) (i : SegId), t.ports[q].events[i] = s.ports[q].events[i] |||
         if g = 0 ∧ maskHas m i = true ∧ configured s i = true ∧ s.ctrls[i].glare = true ∧ s.ports[q].role ≠ .off ∧
           maskHas s.ports[q].segMask i = true then 0x08 else 0) ∧
       t.sensors = s.sensors ∧ t.coupling = s.coupling ∧ t.table = s.table ∧ t.lum = s.lum ∧ t.energy = s.energy ∧
       t.cal = s.cal ∧ t.pending = s.pending)

/-- RESTART executed: the ports, table, run, query, queue, sensor rounds and controllers set as the warm restart table
states, with the layout, coupling store, energy, uptime and settle time kept (R14, R15, R30, R74, R95, R102, R130, R165;
that the restart's abort of a run leaves the present levels is read from the rules, log 11). With a poll in flight, that
the new round waits for it with its turns from channel 0 on, also where no sensor is assigned, is the model's choice, log
31. -/
def Obligations.WarmRestart : Prop :=
  ∀ (p : PortId) (link : Bool) (tag : Byte) (s : State), Runs p ⟨link, tag, .restart⟩ s →
    ∃ t, exec (.restart p) s = .next t ∧ t.layout = s.layout ∧ t.coupling = s.coupling ∧ t.energy = s.energy ∧
      t.table = { s.table with entries := [] } ∧ t.pending = s.pending ∧
      t.cal = (match s.cal.run with
        | none => s.cal
        | some _ => ⟨none, { s.cal.result with outcome := .aborted .restart }⟩) ∧
      (∀ g : GroupId, t.lum.groups[g] =
        s.lum.groups[g].map fun r => { r with demanded := r.present, timer := false, unsent := false }) ∧
      t.lum.link.state = (if s.lum.link.faultReported then .down else .running) ∧ t.lum.link.pauseInForce = false ∧
      t.lum.link.unit = .idle ∧ t.lum.link.record = ⟨false, 0, 0, .ratedPower, none⟩ ∧ t.lum.link.lastGrant = .level ∧
      t.lum.link.faultReported = s.lum.link.faultReported ∧
      (∃ refresh : List (GroupId × Nat),
        refresh = (List.finRange 48).filterMap (fun g => s.lum.groups[g].map fun r => (g, r.present)) ∧
        (s.lum.link.faultReported = true ∨ s.lum.link.tx ≠ none → t.lum.link.queue = refresh) ∧
        (s.lum.link.faultReported = false → s.lum.link.tx = none →
          t.lum.link.queue = refresh.drop 1 ∧
          t.lum.link.tx = refresh.head?.map fun e => Tx.setLevel e.1 e.2 true)) ∧
      (∀ g level kept, s.lum.link.tx = some (.setLevel g level kept) → t.lum.link.tx = some (.setLevel g level kept)) ∧
      (∀ g item owned, s.lum.link.tx = some (.query g item owned) → t.lum.link.tx = some (.query g item false)) ∧
      (∀ g item owned, s.lum.link.tx = some (.window g item owned) → t.lum.link.tx = some (.window g item false)) ∧
      (∀ k : SensorId, t.sensors.holders[k] = ⟨.noData, none, false, 0, none⟩) ∧ t.sensors.roundTimer = 250 ∧
      t.sensors.lateStart = false ∧
      (match s.sensors.poll with
        | some q => t.sensors.round = some 0 ∧ t.sensors.poll = some { q with void := true, outlived := true }
        | none => t.sensors.round = nextAssigned s.layout 0 ∧
          t.sensors.poll = (nextAssigned s.layout 0).map fun k => ⟨k, .awaiting, false, false⟩) ∧
      (∀ i : SegId, t.ctrls[i] =
        if configured s i then
          { mode := .start, good := 0, miss := 0, filter := none, lastRaw := none, bandDaylight := Vector.replicate 3 none
            outputs := s.ctrls[i].outputs.map fun o => { o with valid := false }
            startSnap := Vector.ofFn fun b => presentOf s.lum (groupOf i b)
            heldSnap := Vector.ofFn fun b => presentOf s.lum (groupOf i b)
            glare := false, passTimer := some (segCfg s i).passPeriod }
        else s.ctrls[i]) ∧
      ∀ q : PortId, t.ports[q] =
        if s.ports[q].role = .off then s.ports[q]
        else
          { s.ports[q] with
            request := none
            reply := if q = p then some (withCheck [0x2F, tag, 0x00]) else none
            progress := .none, refused := false, raised := 0x0001, events := Vector.replicate 16 0
            period := s.ports[q].period.map fun _ => ⟨[], false, true⟩ }

/-! ## Reading requests -/

/-- SENSOR_READ and COUPLING_READ reply the holder and the list as they stand (R29, R40). TABLE_READ replies the entries
at the start position and the three behind it, with their remaining lives, and zeros beyond the entries (R94). They change
nothing (R179). Bits of a reply byte that R179 leaves unsaid read 0 (the model's choice, log 32). -/
def Obligations.SensorCouplingTableRead : Prop :=
  (∀ (p : PortId) (link : Bool) (tag : Byte) (k : SensorId) (s : State),
     (Runs p ⟨link, tag, .sensorRead k.val⟩ s →
       exec (.sensorRead p) s = .next (placeReply p ⟨link, tag, .sensorRead k.val⟩ .ok
         ([BitVec.ofNat 8 k.val,
           match s.sensors.holders[k].state with
           | .noData => 0
           | .fresh => 1
           | .suspect => 2
           | .stale => 3]
         ++ beBytes 2 (s.sensors.holders[k].value.getD 0)
         ++ [BitVec.ofNat 8 ((if s.sensors.holders[k].saturated then 1 else 0) + (if assigned s.layout k then 2 else 0)
             + (if s.sensors.holders[k].value.isSome then 4 else 0) + (if s.sensors.holders[k].lastGood.isSome then 8 else 0)),
           BitVec.ofNat 8 s.sensors.holders[k].miss]
         ++ beBytes 4 (s.sensors.holders[k].lastGood.getD 0) ++ beBytes 4 s.table.uptime) s)) ∧
     (Runs p ⟨link, tag, .couplingRead k.val⟩ s → s.coupling.lists[k].length ≤ 6 →
       exec (.couplingRead p) s = .next (placeReply p ⟨link, tag, .couplingRead k.val⟩ .ok
         ([BitVec.ofNat 8 k.val, BitVec.ofNat 8 s.coupling.dark[k], BitVec.ofNat 8 s.coupling.lists[k].length]
         ++ ((s.coupling.lists[k].flatMap fun e => BitVec.ofNat 8 e.group.val :: beBytes 2 e.coeff)
         ++ List.replicate (18 - 3 * s.coupling.lists[k].length) 0)) s))) ∧
  (∀ (p : PortId) (link : Bool) (tag : Byte) (n : Nat) (s : State), n < 32 → Runs p ⟨link, tag, .tableRead n⟩ s →
     ∃ block : List Byte,
       exec (.tableRead p) s = .next (placeReply p ⟨link, tag, .tableRead n⟩ .ok
         ([BitVec.ofNat 8 n, BitVec.ofNat 8 s.table.entries.length] ++ beBytes 4 s.table.uptime ++ block) s) ∧
       block.length = 28 ∧
       ∀ j : Fin 4, (block.drop (7 * j.val)).take 7 =
         match s.table.entries[n + j.val]? with
         | none => List.replicate 7 0
         | some e =>
           match e.ask with
           | .override level x => 0x00 :: beBytes 2 e.mask.toNat ++ beBytes 2 level ++ beBytes 2 (x - s.table.uptime)
           | .hold x settling =>
             (if settling then 0x60 else 0x40) :: beBytes 2 e.mask.toNat ++ [0, 0] ++ beBytes 2 (x - s.table.uptime)
           | .lock level => 0x80 :: beBytes 2 e.mask.toNat ++ beBytes 2 level ++ [0xFF, 0xFF]
           | .cap id level x =>
             BitVec.ofNat 8 (192 + id) :: beBytes 2 e.mask.toNat ++ beBytes 2 level
               ++ (match x with
                 | none => [0xFF, 0xFF]
                 | some x => beBytes 2 (x - s.table.uptime)))

/-- SEG_READ replies the record of a configured segment, the scalar fields in their places and the sixteen levels of ten
bits each in the level block; of an unconfigured segment mode UNCONFIGURED, everything 0 or clear, the daylights and F
absent and no cap level, whatever is left in its record. It changes nothing (R73, R179). -/
def Obligations.SegReadRule : Prop :=
  (∀ (p : PortId) (link : Bool) (tag : Byte) (i : SegId) (s : State), Runs p ⟨link, tag, .segRead i.val⟩ s →
     configured s i = true → LevelsLaw s →
     ∃ block : List Byte,
       exec (.segRead p) s = .next (placeReply p ⟨link, tag, .segRead i.val⟩ .ok
         ([BitVec.ofNat 8 i.val,
           match modeOf s i with
           | .unconfigured => 0
           | .start => 1
           | .active => 2
           | .degraded => 3
           | .held => 4
           | .locked => 5
           | .calibrating => 6,
           BitVec.ofNat 8 (segCfg s i).bandCount, BitVec.ofNat 8 s.ctrls[i].good, BitVec.ofNat 8 s.ctrls[i].miss,
           BitVec.ofNat 8 ((if s.ctrls[i].glare then 128 else 0) + (if (overrideOver s.table.entries i).isSome then 64 else 0)
             + (if holdOver s.table.entries i then 32 else 0) + (if (lockOver s.table.entries i).isSome then 16 else 0)
             + (if (lowestCap s.table.entries i).isSome then 8 else 0)
             + (if 2 < (segCfg s i).bandCount ∧ s.ctrls[i].outputs[2].valid = true then 4 else 0)
             + (if 1 < (segCfg s i).bandCount ∧ s.ctrls[i].outputs[1].valid = true then 2 else 0)
             + (if 0 < (segCfg s i).bandCount ∧ s.ctrls[i].outputs[0].valid = true then 1 else 0))]
         ++ beBytes 2 (s.ctrls[i].filter.getD 65535) ++ beBytes 2 (s.ctrls[i].lastRaw.getD 65535)
         ++ ((List.finRange 3).flatMap fun b =>
           beBytes 2 (if b.val < (segCfg s i).bandCount then s.ctrls[i].bandDaylight[b].getD 65535 else 65535))
         ++ block) s) ∧
       block.length = 20 ∧
       ∀ j : Fin 16, beNat block / 2 ^ (10 * (15 - j.val)) % 1024 =
         if j.val = 15 then (lowestCap s.table.entries i).getD 1023
         else
           let b : BandId := ⟨j.val % 3, by omega⟩
           if b.val < (segCfg s i).bandCount then
             (if j.val < 3 then (s.lum.groups[groupOf i b].map (·.demanded)).getD 0
             else if j.val < 6 then (s.lum.groups[groupOf i b].map (·.present)).getD 0
             else if j.val < 9 then s.ctrls[i].outputs[b].value
             else if j.val < 12 then s.ctrls[i].startSnap[b] else s.ctrls[i].heldSnap[b])
           else 0) ∧
  (∀ (p : PortId) (link : Bool) (tag : Byte) (i : SegId) (s : State), Runs p ⟨link, tag, .segRead i.val⟩ s →
     configured s i = false → TableLaw s →
     exec (.segRead p) s = .next (placeReply p ⟨link, tag, .segRead i.val⟩ .ok
       (BitVec.ofNat 8 i.val :: List.replicate 5 0 ++ List.replicate 10 0xFF ++ List.replicate 18 0 ++ [0x03, 0xFF]) s))

/-- QUERY_RESULT replies the record, the query unit, the link state and the counts (R122); ENERGY_READ four segments'
energy and present demand (R108, R109); CAL_RESULT_READ the result record, with each sensor's status in three bits, and
the progress of a run, all zeros in IDLE (R151; in SETTLE_BASE and DARK the group is that of position 0, log 14). They
change nothing (R179). Bits of a reply byte that R179 leaves unsaid read 0 (the model's choice, log 32). -/
def Obligations.QueryEnergyCalRead : Prop :=
  (∀ (p : PortId) (link : Bool) (tag : Byte) (s : State),
     (Runs p ⟨link, tag, .queryResult⟩ s →
       exec (.queryResult p) s = .next (placeReply p ⟨link, tag, .queryResult⟩ .ok
         ([BitVec.ofNat 8 ((if s.lum.link.record.valid then 128 else 0) +
             match s.lum.link.unit with
             | .idle => 0
             | .waiting _ => 1
             | .inFlight _ => 2),
           BitVec.ofNat 8 s.lum.link.record.port.val, BitVec.ofNat 8 s.lum.link.record.group.val,
           (match s.lum.link.record.item with
             | .ratedPower => 0
             | .status => 1),
           match s.lum.link.record.outcome with
           | none => 0
           | some (.ok _) => 1
           | some .noAnswer => 2
           | some .badFrame => 3
           | some .noLink => 4]
         ++ beBytes 2 (match s.lum.link.record.outcome with
           | some (.ok (.power w)) => w
           | some (.ok (.status .lampFail)) => 1
           | some (.ok (.status .driverFault)) => 2
           | _ => 0)
         ++ [BitVec.ofNat 8 ((if s.lum.link.pauseInForce then 128 else 0) +
             match s.lum.link.state with
             | .running => 0
             | .draining => 1
             | .paused => 2
             | .down => 3),
           BitVec.ofNat 8 s.lum.link.queue.length,
           BitVec.ofNat 8 ((List.finRange 48).filter fun g => (s.lum.groups[g].map (·.unsent)).getD false).length]) s)) ∧
     ∀ n : Nat, n < 16 → Runs p ⟨link, tag, .energyRead n⟩ s →
       ∃ block : List Byte,
         exec (.energyRead p) s = .next (placeReply p ⟨link, tag, .energyRead n⟩ .ok
           (BitVec.ofNat 8 n :: beBytes 4 s.table.uptime ++ block) s) ∧
         block.length = 28 ∧
         ∀ j : Fin 4, (block.drop (7 * j.val)).take 7 =
           if h : n + j.val < 16 then
             (if configured s ⟨n + j.val, h⟩ then 1 else 0) :: beBytes 4 s.energy[n + j.val].wh
               ++ beBytes 2 (if configured s ⟨n + j.val, h⟩ then segDraw s.lum ⟨n + j.val, h⟩ / 1000 else 0)
           else List.replicate 7 0) ∧
  (∀ (p : PortId) (link : Bool) (tag : Byte) (s : State), Runs p ⟨link, tag, .calResultRead⟩ s →
     ∃ statuses progress : List Byte,
       exec (.calResultRead p) s = .next (placeReply p ⟨link, tag, .calResultRead⟩ .ok
         ((match s.cal.result.outcome with
           | .none => 0x00
           | .running => 0x10
           | .done => 0x20
           | .aborted .request => 0x31
           | .aborted .occupant => 0x32
           | .aborted .shade => 0x33
           | .aborted .lock => 0x34
           | .aborted .capped => 0x35
           | .aborted .link => 0x36
           | .aborted .restart => 0x37) ::
         (beBytes 2 s.cal.result.segments.toNat ++ beBytes 2 s.cal.result.params.base ++ beBytes 2 s.cal.result.params.high
           ++ beBytes 2 s.cal.result.params.highEff ++ beBytes 2 s.cal.result.params.low
           ++ beBytes 2 s.cal.result.params.half ++ beBytes 2 s.cal.result.params.settle
           ++ [BitVec.ofNat 8 ((if s.cal.result.clamped then 128 else 0) +
             (match s.cal.result.params.dark with
               | .none => 0
               | .first => 16
               | .last => 32) + s.cal.result.params.loops)]
           ++ statuses ++ progress)) s) ∧
       statuses.length = 12 ∧
       (∀ k : SensorId, beNat statuses / 8 ^ (31 - k.val) % 8 =
         match s.cal.result.statuses[k] with
         | .notInvolved => 0
         | .updated => 1
         | .partly => 2
         | .noSamples => 3
         | .darkRejected => 4) ∧
       progress =
         match s.cal.run with
         | none => [0, 0, 0, 0, 0]
         | some r =>
           let stage : Nat := match r.stage with
             | .fadeWait => 1
             | .settle => 2
             | .sample => 3
             | .baseHold => 4
           match r.phase with
           | .settleBase =>
             [BitVec.ofNat 8 (16 + stage), 0, BitVec.ofNat 8 ((r.groups[0]?.map (·.val)).getD 0), 0,
               BitVec.ofNat 8 r.groups.length]
           | .dark =>
             [BitVec.ofNat 8 (32 + stage), 0, BitVec.ofNat 8 ((r.groups[0]?.map (·.val)).getD 0), 0,
               BitVec.ofNat 8 r.groups.length]
           | .probeHigh =>
             [BitVec.ofNat 8 (48 + stage), BitVec.ofNat 8 r.probe, BitVec.ofNat 8 ((r.groups[r.probe]?.map (·.val)).getD 0),
               BitVec.ofNat 8 r.cycle, BitVec.ofNat 8 r.groups.length]
           | .probeLow =>
             [BitVec.ofNat 8 (64 + stage), BitVec.ofNat 8 r.probe, BitVec.ofNat 8 ((r.groups[r.probe]?.map (·.val)).getD 0),
               BitVec.ofNat 8 r.cycle, BitVec.ofNat 8 r.groups.length])

/-! ## Coupling store -/

/-- COUPLING_WRITE refused: RANGE for the sensor, the count, a group that does not exist or a repeated group, then BUSY
for an involved sensor, with nothing but the port changed (R36). Accepted: the sensor's list becomes the counted positions
without the zero coefficients, coefficients above 4095 brought to 4095, in strictly ascending group order, and its dark
offset the request's; nothing else changes (R37). -/
def Obligations.CouplingWriteRule : Prop :=
  (∀ (p : PortId) (link : Bool) (tag : Byte) (k d n : Nat) (ps : List (Nat × Nat)) (s : State),
     Runs p ⟨link, tag, .couplingWrite k d n ps⟩ s → ∀ st : Status,
     (st = .range ∧ (32 ≤ k ∨ 6 < n ∨ (∃ q ∈ ps.take n, ¬ NamesGroup s.lum q.1) ∨ ¬ ((ps.take n).map Prod.fst).Nodup) ∨
       st = .busy ∧ n ≤ 6 ∧ (∀ q ∈ ps.take n, NamesGroup s.lum q.1) ∧ ((ps.take n).map Prod.fst).Nodup ∧
         ∃ h : k < 32, ∃ r ∈ s.cal.run, r.sensors.contains ⟨k, h⟩ = true) →
     exec (.couplingWrite p) s = .next (placeReply p ⟨link, tag, .couplingWrite k d n ps⟩ st [] s)) ∧
  (∀ (p : PortId) (link : Bool) (tag : Byte) (k : SensorId) (d n : Nat) (ps : List (Nat × Nat)) (s : State),
     Runs p ⟨link, tag, .couplingWrite k.val d n ps⟩ s → n ≤ 6 → (∀ q ∈ ps.take n, NamesGroup s.lum q.1) →
     ((ps.take n).map Prod.fst).Nodup → (∀ r ∈ s.cal.run, r.sensors.contains k = false) →
     ∃ list : List Coupling,
       exec (.couplingWrite p) s = .next (placeReply p ⟨link, tag, .couplingWrite k.val d n ps⟩
         (if ∀ q ∈ ps.take n, q.2 ≤ 4095 then .ok else .okClamped) []
         { s with coupling := ⟨s.coupling.lists.set k list, s.coupling.dark.set k d⟩ }) ∧
       list.Pairwise (fun a b => a.group < b.group) ∧
       ∀ e : Coupling, e ∈ list ↔ ∃ q ∈ ps.take n, q.1 = e.group.val ∧ q.2 ≠ 0 ∧ e.coeff = min q.2 4095)

/-! ## Request table -/

/-- A reading request whose number is out of range is refused RANGE (R29, R40, R73, R94, R109). The checks of the table
requests: RANGE for a cap id of 8 or more, NOT_CONFIGURED for a mask that names no configured segment (GLARE_SET and
ENERGY_CLEAR too), TABLE_FULL for an appending cap on 32 entries (R72, R81, R89, R90, R110). A refusal changes nothing but
the port. -/
def Obligations.RangeAndTableRefused : Prop :=
  (∀ (p : PortId) (link : Bool) (tag : Byte) (n : Nat) (s : State),
     (16 ≤ n → Runs p ⟨link, tag, .segRead n⟩ s →
       exec (.segRead p) s = .next (placeReply p ⟨link, tag, .segRead n⟩ .range [] s)) ∧
     (32 ≤ n → Runs p ⟨link, tag, .sensorRead n⟩ s →
       exec (.sensorRead p) s = .next (placeReply p ⟨link, tag, .sensorRead n⟩ .range [] s)) ∧
     (32 ≤ n → Runs p ⟨link, tag, .tableRead n⟩ s →
       exec (.tableRead p) s = .next (placeReply p ⟨link, tag, .tableRead n⟩ .range [] s)) ∧
     (32 ≤ n → Runs p ⟨link, tag, .couplingRead n⟩ s →
       exec (.couplingRead p) s = .next (placeReply p ⟨link, tag, .couplingRead n⟩ .range [] s)) ∧
     (16 ≤ n → Runs p ⟨link, tag, .energyRead n⟩ s →
       exec (.energyRead p) s = .next (placeReply p ⟨link, tag, .energyRead n⟩ .range [] s))) ∧
  (∀ (p : PortId) (link : Bool) (tag : Byte) (m : SegMask) (a b id : Nat) (s : State),
     (8 ≤ id → Runs p ⟨link, tag, .capSet id m a b⟩ s →
       exec (.capSet p) s = .next (placeReply p ⟨link, tag, .capSet id m a b⟩ .range [] s)) ∧
     (8 ≤ id → Runs p ⟨link, tag, .capCancel id⟩ s →
       exec (.capCancel p) s = .next (placeReply p ⟨link, tag, .capCancel id⟩ .range [] s)) ∧
     (m &&& configuredMask s = 0 →
       (Runs p ⟨link, tag, .overrideSet m a b⟩ s →
         exec (.overrideSet p) s = .next (placeReply p ⟨link, tag, .overrideSet m a b⟩ .notConfigured [] s)) ∧
       (Runs p ⟨link, tag, .overrideCancel m⟩ s →
         exec (.overrideCancel p) s = .next (placeReply p ⟨link, tag, .overrideCancel m⟩ .notConfigured [] s)) ∧
       (Runs p ⟨link, tag, .lockSet m a⟩ s →
         exec (.lockSet p) s = .next (placeReply p ⟨link, tag, .lockSet m a⟩ .notConfigured [] s)) ∧
       (Runs p ⟨link, tag, .lockRelease m⟩ s →
         exec (.lockRelease p) s = .next (placeReply p ⟨link, tag, .lockRelease m⟩ .notConfigured [] s)) ∧
       (Runs p ⟨link, tag, .holdSet m a⟩ s →
         exec (.holdSet p) s = .next (placeReply p ⟨link, tag, .holdSet m a⟩ .notConfigured [] s)) ∧
       (Runs p ⟨link, tag, .holdSettled m⟩ s →
         exec (.holdSettled p) s = .next (placeReply p ⟨link, tag, .holdSettled m⟩ .notConfigured [] s)) ∧
       (Runs p ⟨link, tag, .glareSet m a⟩ s →
         exec (.glareSet p) s = .next (placeReply p ⟨link, tag, .glareSet m a⟩ .notConfigured [] s)) ∧
       (Runs p ⟨link, tag, .energyClear m⟩ s →
         exec (.energyClear p) s = .next (placeReply p ⟨link, tag, .energyClear m⟩ .notConfigured [] s)) ∧
       (id < 8 → Runs p ⟨link, tag, .capSet id m a b⟩ s →
         exec (.capSet p) s = .next (placeReply p ⟨link, tag, .capSet id m a b⟩ .notConfigured [] s))) ∧
     (m &&& configuredMask s ≠ 0 → id < 8 → (∀ e ∈ s.table.entries, isCap id e = false) → 32 ≤ s.table.entries.length →
       Runs p ⟨link, tag, .capSet id m a b⟩ s →
       exec (.capSet p) s = .next (placeReply p ⟨link, tag, .capSet id m a b⟩ .tableFull [] s)))

/-- OVERRIDE_SET, LOCK_SET and HOLD_SET take the mask's segments out of the older entries of their kind and append the new
entry, as one table change that informs the segments covered before or after; a hold's expiry is the largest of the
requested one and those of the holds it overlaps; TABLE_FULL, with nothing changed, where more than 32 entries would stand
(R81, R83, R85, R86, R91; which segments are informed is read from R91, log 13). -/
def Obligations.SetRequests : Prop :=
  (∀ (p : PortId) (link : Bool) (tag : Byte) (m : SegMask) (level minutes : Nat) (s : State),
     m &&& configuredMask s ≠ 0 →
     (Runs p ⟨link, tag, .overrideSet m level minutes⟩ s →
       ∃ (rest : List Entry) (new : Entry) (informed : SegMask),
         rest = s.table.entries.filterMap (fun e =>
           if isOverride e = false then some e
           else if e.mask &&& ~~~(m &&& configuredMask s) = 0 then none
           else some { e with mask := e.mask &&& ~~~(m &&& configuredMask s) }) ∧
         new = ⟨m &&& configuredMask s, .override (min level 1000) (s.table.uptime + 60 * max 1 (min minutes 480))⟩ ∧
         (∀ i : SegId, maskHas informed i = (maskHas (m &&& configuredMask s) i ||
           s.table.entries.any fun e => isOverride e && e.mask &&& (m &&& configuredMask s) != 0 && maskHas e.mask i)) ∧
         (32 ≤ rest.length → exec (.overrideSet p) s =
           .next (placeReply p ⟨link, tag, .overrideSet m level minutes⟩ .tableFull [] s)) ∧
         (rest.length < 32 → exec (.overrideSet p) s =
           .next (placeReply p ⟨link, tag, .overrideSet m level minutes⟩
             (if m &&& configuredMask s = m ∧ level ≤ 1000 ∧ 1 ≤ minutes ∧ minutes ≤ 480 then .ok else .okClamped) []
             (tableChange (rest ++ [new]) (some new) informed s)))) ∧
     (Runs p ⟨link, tag, .lockSet m level⟩ s →
       ∃ (rest : List Entry) (new : Entry) (informed : SegMask),
         rest = s.table.entries.filterMap (fun e =>
           if isLock e = false then some e
           else if e.mask &&& ~~~(m &&& configuredMask s) = 0 then none
           else some { e with mask := e.mask &&& ~~~(m &&& configuredMask s) }) ∧
         new = ⟨m &&& configuredMask s, .lock (min level 1000)⟩ ∧
         (∀ i : SegId, maskHas informed i = (maskHas (m &&& configuredMask s) i ||
           s.table.entries.any fun e => isLock e && e.mask &&& (m &&& configuredMask s) != 0 && maskHas e.mask i)) ∧
         (32 ≤ rest.length → exec (.lockSet p) s =
           .next (placeReply p ⟨link, tag, .lockSet m level⟩ .tableFull [] s)) ∧
         (rest.length < 32 → exec (.lockSet p) s =
           .next (placeReply p ⟨link, tag, .lockSet m level⟩
             (if m &&& configuredMask s = m ∧ level ≤ 1000 then .ok else .okClamped) []
             (tableChange (rest ++ [new]) (some new) informed s))))) ∧
  (∀ (p : PortId) (link : Bool) (tag : Byte) (m : SegMask) (seconds : Nat) (s : State), m &&& configuredMask s ≠ 0 →
     Runs p ⟨link, tag, .holdSet m seconds⟩ s →
     ∃ (rest : List Entry) (x : Nat) (informed : SegMask),
       rest = s.table.entries.filterMap (fun e =>
         if isHold e = false then some e
         else if e.mask &&& ~~~(m &&& configuredMask s) = 0 then none
         else some { e with mask := e.mask &&& ~~~(m &&& configuredMask s) }) ∧
       s.table.uptime + max 1 (min seconds 600) ≤ x ∧
       (∀ e ∈ s.table.entries, ∀ y settling, e.ask = .hold y settling → e.mask &&& (m &&& configuredMask s) ≠ 0 → y ≤ x) ∧
       (x = s.table.uptime + max 1 (min seconds 600) ∨
         ∃ e ∈ s.table.entries, (∃ settling, e.ask = .hold x settling) ∧ e.mask &&& (m &&& configuredMask s) ≠ 0) ∧
       (∀ i : SegId, maskHas informed i = (maskHas (m &&& configuredMask s) i ||
         s.table.entries.any fun e => isHold e && e.mask &&& (m &&& configuredMask s) != 0 && maskHas e.mask i)) ∧
       (32 ≤ rest.length → exec (.holdSet p) s = .next (placeReply p ⟨link, tag, .holdSet m seconds⟩ .tableFull [] s)) ∧
       (rest.length < 32 → exec (.holdSet p) s =
         .next (placeReply p ⟨link, tag, .holdSet m seconds⟩
           (if m &&& configuredMask s = m ∧ 1 ≤ seconds ∧ seconds ≤ 600 then .ok else .okClamped) []
           (tableChange (rest ++ [⟨m &&& configuredMask s, .hold x false⟩])
             (some ⟨m &&& configuredMask s, .hold x false⟩) informed s))))

/-- OVERRIDE_CANCEL and LOCK_RELEASE take the mask's segments out of the entries of their kind, as one table change with
nothing inserted (R84, R85). HOLD_SETTLED moves the held segments of its mask to a settling hold that lasts the settle
time, or, with a settle time of 0, lets them go; where none of its segments is held nothing changes but the port (R87;
which segments are informed is read from R91, log 13). -/
def Obligations.ReleaseRequests : Prop :=
  (∀ (p : PortId) (link : Bool) (tag : Byte) (m : SegMask) (s : State), m &&& configuredMask s ≠ 0 →
     (Runs p ⟨link, tag, .overrideCancel m⟩ s →
       ∃ (rest : List Entry) (informed : SegMask),
         rest = s.table.entries.filterMap (fun e =>
           if isOverride e = false then some e
           else if e.mask &&& ~~~(m &&& configuredMask s) = 0 then none
           else some { e with mask := e.mask &&& ~~~(m &&& configuredMask s) }) ∧
         (∀ i : SegId, maskHas informed i =
           s.table.entries.any fun e => isOverride e && e.mask &&& (m &&& configuredMask s) != 0 && maskHas e.mask i) ∧
         exec (.overrideCancel p) s =
           .next (placeReply p ⟨link, tag, .overrideCancel m⟩ (if m &&& configuredMask s = m then .ok else .okClamped) []
             (tableChange rest none informed s))) ∧
     (Runs p ⟨link, tag, .lockRelease m⟩ s →
       ∃ (rest : List Entry) (informed : SegMask),
         rest = s.table.entries.filterMap (fun e =>
           if isLock e = false then some e
           else if e.mask &&& ~~~(m &&& configuredMask s) = 0 then none
           else some { e with mask := e.mask &&& ~~~(m &&& configuredMask s) }) ∧
         (∀ i : SegId, maskHas informed i =
           s.table.entries.any fun e => isLock e && e.mask &&& (m &&& configuredMask s) != 0 && maskHas e.mask i) ∧
         exec (.lockRelease p) s =
           .next (placeReply p ⟨link, tag, .lockRelease m⟩ (if m &&& configuredMask s = m then .ok else .okClamped) []
             (tableChange rest none informed s)))) ∧
  (∀ (p : PortId) (link : Bool) (tag : Byte) (m : SegMask) (s : State), m &&& configuredMask s ≠ 0 →
     Runs p ⟨link, tag, .holdSettled m⟩ s →
     ∃ (held informed : SegMask) (rest : List Entry) (new : Entry) (st : Status),
       (∀ i : SegId, maskHas held i = (maskHas (m &&& configuredMask s) i && holdOver s.table.entries i)) ∧
       rest = s.table.entries.filterMap (fun e =>
         if isHold e = false then some e
         else if e.mask &&& ~~~held = 0 then none else some { e with mask := e.mask &&& ~~~held }) ∧
       new = ⟨held, .hold (s.table.uptime + s.table.settle) true⟩ ∧
       st = (if m &&& configuredMask s = m then .ok else .okClamped) ∧
       (held = 0 → exec (.holdSettled p) s = .next (placeReply p ⟨link, tag, .holdSettled m⟩ st [] s)) ∧
       (held ≠ 0 → s.table.settle = 0 → exec (.holdSettled p) s =
         .next (placeReply p ⟨link, tag, .holdSettled m⟩ st [] (tableChange rest none informed s))) ∧
       (held ≠ 0 → s.table.settle ≠ 0 → rest.length < 32 → exec (.holdSettled p) s =
         .next (placeReply p ⟨link, tag, .holdSettled m⟩ st [] (tableChange (rest ++ [new]) (some new) informed s))) ∧
       (held ≠ 0 → s.table.settle ≠ 0 → 32 ≤ rest.length → exec (.holdSettled p) s =
         .next (placeReply p ⟨link, tag, .holdSettled m⟩ .tableFull [] s)) ∧
       ∀ i : SegId, maskHas informed i =
         s.table.entries.any fun e => isHold e && e.mask &&& held != 0 && maskHas e.mask i)

/-- CAP_SET changes the cap of its id in place, or appends one; CAP_CANCEL deletes it, and without one changes nothing but
the port; each is one table change (R81, R89, R90, R91; which segments are informed is read from R91, log 13). -/
def Obligations.CapSetAndCancel : Prop :=
  ∀ (p : PortId) (link : Bool) (tag : Byte) (id : Nat) (s : State), id < 8 → TableLaw s →
    (∀ (m : SegMask) (level minutes : Nat), m &&& configuredMask s ≠ 0 → Runs p ⟨link, tag, .capSet id m level minutes⟩ s →
      ∃ (new : Entry) (st : Status),
        new = ⟨m &&& configuredMask s, .cap id (min level 1000)
          (if minutes = 65535 then none else some (s.table.uptime + 60 * max 1 (min minutes 240)))⟩ ∧
        st = (if m &&& configuredMask s = m ∧ level ≤ 1000 ∧ (minutes = 65535 ∨ 1 ≤ minutes ∧ minutes ≤ 240) then .ok
          else .okClamped) ∧
        (∀ before old after, s.table.entries = before ++ old :: after → isCap id old = true →
          exec (.capSet p) s = .next (placeReply p ⟨link, tag, .capSet id m level minutes⟩ st []
            (tableChange (before ++ new :: after) (some new) (old.mask ||| (m &&& configuredMask s)) s))) ∧
        ((∀ e ∈ s.table.entries, isCap id e = false) → s.table.entries.length < 32 →
          exec (.capSet p) s = .next (placeReply p ⟨link, tag, .capSet id m level minutes⟩ st []
            (tableChange (s.table.entries ++ [new]) (some new) (m &&& configuredMask s) s)))) ∧
    (Runs p ⟨link, tag, .capCancel id⟩ s →
      (∀ before old after, s.table.entries = before ++ old :: after → isCap id old = true →
        exec (.capCancel p) s = .next (placeReply p ⟨link, tag, .capCancel id⟩ .ok []
          (tableChange (before ++ after) none old.mask s))) ∧
      ((∀ e ∈ s.table.entries, isCap id e = false) →
        exec (.capCancel p) s = .next (placeReply p ⟨link, tag, .capCancel id⟩ .ok [] s)))

/-- A table change that does not end a run, because none is in progress, nothing was inserted or changed in place, the
entry reaches no involved segment, or it is a cap at or above the run's levels: the run goes on, each informed segment
takes its mode from the coverage after the change, with its record as the entry to that mode leaves it, and is recomposed;
no other segment's controller and no other group changes; of the ports only event sets change, and no other block but the
link, to which levels are handed (R54, R56, R57, R70, R91, R92, R148). An inserted or changed entry that reaches an
involved segment otherwise ends the run with its reason: IDLE, the record ABORTED, every involved segment in the mode the
new table gives, CAL_DONE on the FLOOR port, the coupling store as it was, and the informed segments follow as above (R58,
R92, R147, R148). Which segments are informed is read from R91, log 13. The order in which the levels of several segments
reach the link, ascending, is the model's choice, log 9. -/
def Obligations.TableChangeRule : Prop :=
  (∀ (entries : List Entry) (inserted : Option Entry) (informed : SegMask) (s : State),
     (s.cal.run = none ∨ inserted = none ∨
       ∃ r e, s.cal.run = some r ∧ inserted = some e ∧
         (e.mask &&& r.segments = 0 ∨
           ∃ id level x, e.ask = .cap id level x ∧ max r.params.highEff r.params.base ≤ level)) →
     ∃ t, tableChange entries inserted informed s = t ∧ t.table = { s.table with entries := entries } ∧
       (∀ i : SegId, t.ctrls[i] =
         if configured s i = true ∧ maskHas informed i = true then
           changedCtrl s i (coveredMode (modeOf s i) entries i)
         else s.ctrls[i]) ∧
       Recomposed informed s t ∧ OnlyEvents s t ∧ t.layout = s.layout ∧ t.sensors = s.sensors ∧ t.coupling = s.coupling ∧
       t.energy = s.energy ∧ t.cal = s.cal ∧ t.pending = s.pending) ∧
  (∀ (entries : List Entry) (e : Entry) (informed : SegMask) (r : CalRun) (why : AbortReason) (s : State),
     s.cal.run = some r → ModeLaw s → e.mask &&& r.segments ≠ 0 →
     (match e.ask with
       | .override _ _ => why = .occupant
       | .hold _ _ => why = .shade
       | .lock _ => why = .lock
       | .cap _ level _ => why = .capped ∧ level < max r.params.highEff r.params.base) →
     ∃ t, tableChange entries (some e) informed s = t ∧ t.cal = ⟨none, { s.cal.result with outcome := .aborted why }⟩ ∧
       t.table = { s.table with entries := entries } ∧
       (∀ i : SegId, t.ctrls[i] =
         if maskHas r.segments i = true then changedCtrl s i (returnMode entries i)
         else if configured s i = true ∧ maskHas informed i = true then
           changedCtrl s i (coveredMode (modeOf s i) entries i)
         else s.ctrls[i]) ∧
       t.lum = recomposed (fun i => maskHas informed i && configured t i) t (recomposed (maskHas r.segments) t s.lum) ∧
       OnlyEventsAndCauses s t ∧ t.coupling = s.coupling ∧
       t.layout = s.layout ∧ t.sensors = s.sensors ∧ t.energy = s.energy ∧ t.pending = s.pending ∧
       ∀ q : PortId, t.ports[q].raised =
         if s.ports[q].role = .floor then s.ports[q].raised ||| 0x0040 else s.ports[q].raised)

/-- Whatever the command, but for the two resets and SEG_REMOVE, which empties the event sets of its segment, a segment
whose mode differs after it has MODE_CHANGE in the event set of every port with a role whose mask holds the segment (R59,
R170). -/
def Obligations.ModeChangeRaised : Prop :=
  ∀ (c : Instr) (s t : State), (∀ x y z, c ≠ .powerOnReset x y z) → (∀ p, c ≠ .restart p) → (∀ p, c ≠ .segRemove p) →
    exec c s = .next t →
    ∀ i : SegId, modeOf t i ≠ modeOf s i → ∀ q : PortId, s.ports[q].role ≠ .off → maskHas s.ports[q].segMask i = true →
      t.ports[q].events[i].getLsbD SegEvent.modeChange.bit = true

/-- UPTIME_TICK adds one second while the counter is short of its end; what follows the last second is a free value (the
model's choice, log 6). In the same event every entry whose expiry is the new uptime leaves; ENTRY_EXPIRY takes out those
of the present uptime. The departures raise OVERRIDE_EXPIRED, HOLD_EXPIRED (not for a settling hold) and CAP_EXPIRED on
the ports of their roles (R77, R79, R80; the split over two commands is log 7). Each segment that a departing entry
covered takes its mode from the coverage that remains and is recomposed (R54, R56, R57, R91); the order in which the
levels of several segments reach the link, ascending, is the model's choice, log 9. -/
def Obligations.TickAndExpiry : Prop :=
  ∀ (c : Instr) (now : Nat) (s : State),
    (c = .uptimeTick ∧ s.table.uptime < 4294967295 ∧ now = s.table.uptime + 1 ∨
      c = .uptimeTick ∧ 4294967295 ≤ s.table.uptime ∧ now = Config.uptimePastEnd.toNat ∨
      c = .entryExpiry ∧ now = s.table.uptime) →
    ∃ t, exec c s = .next t ∧ t.table.uptime = now ∧ t.table.settle = s.table.settle ∧
      t.table.entries = s.table.entries.filter (fun e => decide (expiryOf e ≠ some now)) ∧
      (∀ q : PortId, t.ports[q].raised = s.ports[q].raised |||
        (if s.ports[q].role = .floor ∧ (∃ e ∈ s.table.entries, isOverride e = true ∧ expiryOf e = some now) then 0x0100
        else if s.ports[q].role = .shade ∧ (∃ e ∈ s.table.entries, e.ask = .hold now false) then 0x0080
        else if s.ports[q].role = .energy ∧ (∃ e ∈ s.table.entries,
            (match e.ask with
              | .cap _ _ x => x == some now
              | _ => false) = true) then 0x0200
        else 0)) ∧
      t.layout = s.layout ∧ t.sensors = s.sensors ∧ t.coupling = s.coupling ∧ t.energy = s.energy ∧ t.cal = s.cal ∧
      t.pending = s.pending ∧ OnlyEventsAndCauses s t ∧
      ∃ informed : SegMask,
        (∀ i : SegId, maskHas informed i = true ↔
          ∃ e ∈ s.table.entries, expiryOf e = some now ∧ maskHas e.mask i = true) ∧
        (∀ i : SegId, t.ctrls[i] =
          if configured s i = true ∧ maskHas informed i = true then
            changedCtrl s i (coveredMode (modeOf s i) t.table.entries i)
          else s.ctrls[i]) ∧
        Recomposed informed s t

/-! ## Sensor link -/

/-- ROUND_TIMER_EXPIRY rearms the timer; with a round in progress it leaves one late start behind, and on an idle link it
starts a round, which polls the first assigned sensor, or ends at once where none is assigned. TURNAROUND_END ends the
exchange: the next assigned channel is polled; behind the last one the round ends, or a late start begins the next round
from channel 0; behind an exchange that outlived a warm restart the new round takes its turns from channel 0 (R18, R19,
R20, R30; that they read the assignment then is the model's choice, log 31). -/
def Obligations.RoundsRule : Prop :=
  (∀ s : State, ∃ x, exec .roundTimerExpiry s = .next { s with sensors := x } ∧ x.roundTimer = 250 ∧
     x.holders = s.sensors.holders ∧
     (s.sensors.round ≠ none → x.lateStart = true ∧ x.round = s.sensors.round ∧ x.poll = s.sensors.poll) ∧
     (s.sensors.round = none → x.lateStart = s.sensors.lateStart ∧
       ((∀ k : SensorId, assigned s.layout k = false) → x.round = none ∧ x.poll = s.sensors.poll) ∧
       ∀ k : SensorId, assigned s.layout k = true → (∀ j : SensorId, j < k → assigned s.layout j = false) →
         x.round = some k ∧ x.poll = some ⟨k, .awaiting, false, false⟩)) ∧
  (∀ (q : Poll) (s : State), s.sensors.poll = some q → q.stage = .turnaround →
     ∃ x, exec .turnaroundEnd s = .next { s with sensors := x } ∧ x.roundTimer = s.sensors.roundTimer ∧
       x.holders = s.sensors.holders ∧
       (∀ k : SensorId, (if q.outlived then 0 else q.channel.val + 1) ≤ k.val → assigned s.layout k = true →
         (∀ j : SensorId, (if q.outlived then 0 else q.channel.val + 1) ≤ j.val → j < k → assigned s.layout j = false) →
         x.round = some k ∧ x.poll = some ⟨k, .awaiting, false, false⟩ ∧ x.lateStart = s.sensors.lateStart) ∧
       ((∀ k : SensorId, (if q.outlived then 0 else q.channel.val + 1) ≤ k.val → assigned s.layout k = false) →
         x.lateStart = false ∧
         (s.sensors.lateStart = false ∨ (∀ j : SensorId, assigned s.layout j = false) → x.round = none ∧ x.poll = none) ∧
         (s.sensors.lateStart = true →
           ∀ k : SensorId, assigned s.layout k = true → (∀ j : SensorId, j < k → assigned s.layout j = false) →
             x.round = some k ∧ x.poll = some ⟨k, .awaiting, false, false⟩)))

/-- SENSOR_REPLY with a good check and status OK or SATURATED: the holder stores the value clamped to 20000, sets or
clears the saturated flag, takes the uptime, and enters FRESH with no misses, from every state (R21, R22); the exchange
goes to its turnaround gap, and no block but the sensor link and the calibration run changes. -/
def Obligations.GoodReplyStored : Prop :=
  ∀ (hi lo st chk : Byte) (q : Poll) (s : State), s.sensors.poll = some q → q.stage = .awaiting → q.void = false →
    crc8 [BitVec.ofNat 8 q.channel.val, hi, lo, st] = chk → st = 0x00 ∨ st = 0x01 →
    ∃ cal, exec (.sensorReply hi lo st chk) s =
      .next { s with
        sensors := { s.sensors with
          poll := some { q with stage := .turnaround }
          holders := s.sensors.holders.set q.channel
            ⟨.fresh, some (min (256 * hi.toNat + lo.toNat) 20000), decide (st = 0x01 ∨ 20000 < 256 * hi.toNat + lo.toNat), 0,
              some s.table.uptime⟩ }
        cal := cal } ∧
      cal.result = s.cal.result ∧ (s.cal.run = none → cal.run = none) ∧
      ∀ r, s.cal.run = some r →
        (r.stage ≠ .sample ∨ q.channel ∉ r.sensors → cal.run = some r) ∧
        (r.stage = .sample → q.channel ∈ r.sensors →
          cal.run = some { r with
            gathered := r.gathered.set q.channel
              (match r.phase with
              | .settleBase => r.gathered[q.channel]
              | .dark => { r.gathered[q.channel] with
                darkSum := r.gathered[q.channel].darkSum + min (256 * hi.toNat + lo.toNat) 20000
                darkCount := r.gathered[q.channel].darkCount + 1 }
              | .probeHigh => { r.gathered[q.channel] with
                highSum := r.gathered[q.channel].highSum + min (256 * hi.toNat + lo.toNat) 20000
                highCount := r.gathered[q.channel].highCount + 1 }
              | .probeLow => { r.gathered[q.channel] with
                lowSum := r.gathered[q.channel].lowSum + min (256 * hi.toNat + lo.toNat) 20000
                lowCount := r.gathered[q.channel].lowCount + 1 }) })

/-- A miss acts on a holder's state and miss count by the table of R23 and on nothing else of it; a FAULT reply makes it
STALE and leaves the rest of it (R24). A reply with a bad check or an unknown status, a window without a start bit and a
gap between bytes are each a miss for the polled channel's holder, a good FAULT reply is a FAULT, and no sample is
delivered (R20, R21, R28). The outcome of a void poll is discarded (R26, R30). The exchange goes to its turnaround gap,
and nothing else changes. -/
def Obligations.MissesAndFaults : Prop :=
  (∀ h : Holder,
     (h.state = .noData → h.miss ≤ 1 → holderMiss h = { h with miss := h.miss + 1 }) ∧
     (h.state = .noData → h.miss = 2 → holderMiss h = { h with state := .stale, miss := 3 }) ∧
     (h.state = .fresh → h.miss = 0 → holderMiss h = { h with state := .suspect, miss := 1 }) ∧
     (h.state = .suspect → h.miss = 1 → holderMiss h = { h with miss := 2 }) ∧
     (h.state = .suspect → h.miss = 2 → holderMiss h = { h with state := .stale, miss := 3 }) ∧
     (h.state = .stale → h.miss ≤ 2 → holderMiss h = { h with miss := h.miss + 1 }) ∧
     (h.state = .stale → h.miss = 3 → holderMiss h = h) ∧
     holderFault h = { h with state := .stale }) ∧
  (∀ (q : Poll) (s : State), s.sensors.poll = some q → q.stage = .awaiting → q.void = false →
     ∀ c : Instr,
       (c = .replyWindowTimeout ∨ c = .interByteGap ∨
         (∃ hi lo st chk, c = .sensorReply hi lo st chk ∧
           (crc8 [BitVec.ofNat 8 q.channel.val, hi, lo, st] ≠ chk ∨ st ≠ 0x00 ∧ st ≠ 0x01 ∧ st ≠ 0x02)) →
         exec c s = .next { s with
           sensors := { s.sensors with
             poll := some { q with stage := .turnaround }
             holders := s.sensors.holders.set q.channel (holderMiss s.sensors.holders[q.channel]) } }) ∧
       ((∃ hi lo, c = .sensorReply hi lo 0x02 (crc8 [BitVec.ofNat 8 q.channel.val, hi, lo, 0x02])) →
         exec c s = .next { s with
           sensors := { s.sensors with
             poll := some { q with stage := .turnaround }
             holders := s.sensors.holders.set q.channel (holderFault s.sensors.holders[q.channel]) } })) ∧
  (∀ (q : Poll) (c : Instr) (s : State), s.sensors.poll = some q → q.stage = .awaiting → q.void = true →
     c = .replyWindowTimeout ∨ c = .interByteGap ∨ (∃ hi lo st chk, c = .sensorReply hi lo st chk) →
     exec c s = .next { s with sensors := { s.sensors with poll := some { q with stage := .turnaround } } })

/-! ## Estimation and passes -/

/-- The raw daylight of a segment: at each usable sensor the reading less the dark offset and the contribution of its
coupling list at the groups' present levels (0 for a FAILED group), rounded half up and clamped to 0..20000; the mean of
two usable sensors rounded down; absent with none (R41, R42, R44, R46). -/
def Obligations.RawDaylightRule : Prop :=
  ∀ (i : SegId) (s : State),
    let daylight := fun (k : SensorId) =>
      min 20000 (s.sensors.holders[k].value.getD 0 - s.coupling.dark[k]
        - ((s.coupling.lists[k].map fun e => e.coeff *
          (match s.lum.groups[e.group] with
          | none => 0
          | some r => if r.failed then 0 else r.present)).sum + 500) / 1000)
    let usable := fun (k : SensorId) => s.sensors.holders[k].state = .fresh ∨ s.sensors.holders[k].state = .suspect
    (∀ k, (segCfg s i).primary = some k → (segCfg s i).secondary = none → usable k →
      rawDaylight s i = some (daylight k)) ∧
    (∀ k j, (segCfg s i).primary = some k → (segCfg s i).secondary = some j → usable k → usable j →
      rawDaylight s i = some ((daylight k + daylight j) / 2)) ∧
    (∀ k j, (segCfg s i).primary = some k → (segCfg s i).secondary = some j → usable k → ¬ usable j →
      rawDaylight s i = some (daylight k)) ∧
    (∀ k j, (segCfg s i).primary = some k → (segCfg s i).secondary = some j → ¬ usable k → usable j →
      rawDaylight s i = some (daylight j)) ∧
    ((∀ k, (segCfg s i).primary = some k ∨ (segCfg s i).secondary = some k → ¬ usable k) → rawDaylight s i = none)

/-- PASS of a configured segment whose timer runs: the counts by the data, the mode by the counts, the last raw daylight
by the mode, the timer rearmed with the period of the record, the segment recomposed; of the rest only event sets and the
link's levels can change (R53, R55, R60, R61, R62, R70). -/
def Obligations.PassCountsAndMode : Prop :=
  ∀ (i : SegId) (s : State), configured s i = true → s.ctrls[i].passTimer ≠ none →
    ∃ t, exec (.pass i) s = .next t ∧
      t.ctrls[i].good = (if (rawDaylight s i).isSome then min 3 (s.ctrls[i].good + 1) else 0) ∧
      t.ctrls[i].miss = (if (rawDaylight s i).isSome then 0 else min 3 (s.ctrls[i].miss + 1)) ∧
      modeOf t i =
        (match modeOf s i, (rawDaylight s i).isSome with
        | .start, true => .active
        | .start, false => if t.ctrls[i].miss = 3 then .degraded else .start
        | .active, true => .active
        | .active, false => .degraded
        | .degraded, true => if t.ctrls[i].good = 3 then .active else .degraded
        | m, _ => m) ∧
      t.ctrls[i].lastRaw = (if modeOf s i = .calibrating then s.ctrls[i].lastRaw else rawDaylight s i) ∧
      t.ctrls[i].passTimer = some (segCfg s i).passPeriod ∧ t.ctrls[i].startSnap = s.ctrls[i].startSnap ∧
      t.ctrls[i].heldSnap = s.ctrls[i].heldSnap ∧ (∀ j : SegId, j ≠ i → t.ctrls[j] = s.ctrls[j]) ∧
      Recomposed (maskOf i) s t ∧ OnlyEvents s t ∧ t.layout = s.layout ∧ t.sensors = s.sensors ∧ t.coupling = s.coupling ∧
      t.table = s.table ∧ t.energy = s.energy ∧ t.cal = s.cal ∧ t.pending = s.pending

/-- The control arithmetic of a PASS that leaves the segment ACTIVE: the filter value seeded on the way into ACTIVE and
moved otherwise, the band daylights, and the control outputs by candidate, valid flag and dead band; a PASS in another
mode leaves all three (R64 to R67; the seeding on leaving DEGRADED is log 10). Its events: MODE_CHANGE with a change of
mode, SENSOR_LOST with ACTIVE to DEGRADED, GLARE_ON and GLARE_OFF by the threshold against the raw daylight at the window
band outside CALIBRATING; each port that enables the segment records them, and no other event set changes (R59, R71,
R170). -/
def Obligations.PassControlAndEvents : Prop :=
  (∀ (i : SegId) (s t : State), configured s i = true → s.ctrls[i].passTimer ≠ none → exec (.pass i) s = .next t →
     (modeOf t i ≠ .active → t.ctrls[i].filter = s.ctrls[i].filter ∧ t.ctrls[i].bandDaylight = s.ctrls[i].bandDaylight ∧
       t.ctrls[i].outputs = s.ctrls[i].outputs) ∧
     (modeOf t i = .active → ∃ raw f, rawDaylight s i = some raw ∧ t.ctrls[i].filter = some f ∧
       (modeOf s i ≠ .active ∨ s.ctrls[i].filter = none → f = raw) ∧
       (∀ old, modeOf s i = .active → s.ctrls[i].filter = some old →
         (old = raw → f = raw) ∧
         (old < raw → f = if raw - old < 2 ^ (segCfg s i).nUp then old + 1 else old + (raw - old) / 2 ^ (segCfg s i).nUp) ∧
         (raw < old →
           f = if old - raw < 2 ^ (segCfg s i).nDown then old - 1 else old - (old - raw) / 2 ^ (segCfg s i).nDown)) ∧
       ∀ b : BandId,
         ((segCfg s i).bandCount ≤ b.val →
           t.ctrls[i].bandDaylight[b] = s.ctrls[i].bandDaylight[b] ∧ t.ctrls[i].outputs[b] = s.ctrls[i].outputs[b]) ∧
         (b.val < (segCfg s i).bandCount → ∃ q db cand, q = (segCfg s i).bands[b] ∧ db = f * q.ratio / 256 ∧
           t.ctrls[i].bandDaylight[b] = some db ∧
           cand = (if (((segCfg s i).target - db) * 1000 + q.efficacy - 1) / q.efficacy < q.lmin then q.lmin
             else if q.lmax < (((segCfg s i).target - db) * 1000 + q.efficacy - 1) / q.efficacy then q.lmax
             else (((segCfg s i).target - db) * 1000 + q.efficacy - 1) / q.efficacy) ∧
           t.ctrls[i].outputs[b].valid = true ∧
           t.ctrls[i].outputs[b].value =
             (if s.ctrls[i].outputs[b].valid = false then cand
             else if (segCfg s i).deadBand ≤ cand - s.ctrls[i].outputs[b].value + (s.ctrls[i].outputs[b].value - cand) then cand
             else if cand = q.lmin ∨ cand = q.lmax then cand
             else s.ctrls[i].outputs[b].value)))) ∧
  (∀ (i : SegId) (s t : State), configured s i = true → s.ctrls[i].passTimer ≠ none → exec (.pass i) s = .next t →
     (t.ctrls[i].glare =
       match rawDaylight s i with
       | none => s.ctrls[i].glare
       | some raw =>
         if modeOf s i = .calibrating ∨ (segCfg s i).glareThreshold = 0 then s.ctrls[i].glare
         else if s.ctrls[i].glare then
           decide ((segCfg s i).glareThreshold - (segCfg s i).glareThreshold / 8 ≤ raw * (segCfg s i).bands[0].ratio / 256)
         else decide ((segCfg s i).glareThreshold ≤ raw * (segCfg s i).bands[0].ratio / 256)) ∧
     (∀ (p : PortId) (j : SegId), j ≠ i ∨ s.ports[p].role = .off ∨ maskHas s.ports[p].segMask i = false →
       t.ports[p].events[j] = s.ports[p].events[j]) ∧
     ∀ p : PortId, s.ports[p].role ≠ .off → maskHas s.ports[p].segMask i = true →
       t.ports[p].events[i] = s.ports[p].events[i] ||| (if modeOf t i = modeOf s i then 0 else 0x01)
         ||| (if modeOf s i = .active ∧ modeOf t i = .degraded then 0x02 else 0)
         ||| (if s.ctrls[i].glare = false ∧ t.ctrls[i].glare = true then 0x04 else 0)
         ||| (if s.ctrls[i].glare = true ∧ t.ctrls[i].glare = false then 0x08 else 0))

/-! ## Fading and energy -/

/-- FADE_STEP of a group whose timer runs: at its demand the timer stops; otherwise the level moves toward the demand by
the smaller of the distance and the step, which is 100 in LOCKED and CALIBRATING and otherwise s_up or s_down; the level
is queued, put into the group's entry, or marked unsent by the link state; no other group changes (R99, R100, R101, R115).
A new demand for a group at rest takes one step at once, handed to the link in the same way, and starts the timer; for a
group in a fade it only becomes the demand; an equal demand has no effect (R98). The fade-complete event of an involved
group ends the FADE_WAIT of a run exactly when every involved group is then at rest at its assigned level: SETTLE begins
with the stage timer at s (R138). -/
def Obligations.FadeRule : Prop :=
  (∀ (g : GroupId) (r : Group) (s : State), s.lum.groups[g] = some r → r.timer = true →
     ∃ t, exec (.fadeStep g) s = .next t ∧
       t.lum.groups = s.lum.groups.set g (t.lum.groups[g]) ∧ t.ports = s.ports ∧ t.layout = s.layout ∧ t.ctrls = s.ctrls ∧
       t.sensors = s.sensors ∧ t.coupling = s.coupling ∧ t.table = s.table ∧ t.energy = s.energy ∧
       t.cal.result = s.cal.result ∧ t.pending = s.pending ∧
       (r.present = r.demanded → t.lum.groups[g] = some { r with timer := false } ∧ t.lum.link = s.lum.link ∧
         (s.cal.run = none → t.cal = s.cal) ∧
         ∀ run, s.cal.run = some run →
           (run.stage ≠ .fadeWait ∨ g ∉ run.groups → t.cal = s.cal) ∧
           (run.stage = .fadeWait → g ∈ run.groups → (∀ x ∈ run.groups, groupExists s.lum x = true) →
             (Faded run t.lum →
               t.cal = { s.cal with run := some { run with stage := .settle, timer := some run.params.settle } }) ∧
             (¬ Faded run t.lum → t.cal = s.cal))) ∧
       (r.present ≠ r.demanded → t.cal = s.cal ∧
         ∃ level, t.lum.groups[g] = some
             { r with
               present := level
               unsent := r.unsent || (!queued s.lum.link g &&
                 (s.lum.link.state == .draining || s.lum.link.state == .paused)) } ∧
           level =
             (if r.present < r.demanded then
               min r.demanded (r.present + (if modeOf s (segOf g) = .locked ∨ modeOf s (segOf g) = .calibrating then 100
                 else (segCfg s (segOf g)).sUp))
             else
               max r.demanded (r.present - (if modeOf s (segOf g) = .locked ∨ modeOf s (segOf g) = .calibrating then 100
                 else (segCfg s (segOf g)).sDown))) ∧
           (queued s.lum.link g = true →
             t.lum.link = { s.lum.link with queue := s.lum.link.queue.map fun e => if e.1 = g then (g, level) else e }) ∧
           (queued s.lum.link g = false → r.unsent = true ∨ s.lum.link.state = .draining ∨ s.lum.link.state = .paused →
             t.lum.link = s.lum.link) ∧
           (queued s.lum.link g = false → r.unsent = false → s.lum.link.state = .running ∨ s.lum.link.state = .down →
             t.lum.link = arbitrate { s.lum.link with queue := s.lum.link.queue ++ [(g, level)] }))) ∧
  (∀ (z : StepSizes) (g : GroupId) (r : Group) (level : Nat) (l : Lum), l.groups[g] = some r →
     (level = r.demanded → demand z g level l = l) ∧
     (level ≠ r.demanded → r.timer = true →
       demand z g level l = { l with groups := l.groups.set g (some { r with demanded := level }) }) ∧
     (level ≠ r.demanded → r.timer = false → r.present = r.demanded →
       ∃ step, step = (if r.present < level then min level (r.present + z.up) else max level (r.present - z.down)) ∧
         (demand z g level l).groups = l.groups.set g (some
           { r with
             demanded := level, timer := true, present := step
             unsent := r.unsent || (!queued l.link g && (l.link.state == .draining || l.link.state == .paused)) }) ∧
         (queued l.link g = true →
           (demand z g level l).link =
             { l.link with queue := l.link.queue.map fun e => if e.1 = g then (g, step) else e }) ∧
         (queued l.link g = false → r.unsent = true ∨ l.link.state = .draining ∨ l.link.state = .paused →
           (demand z g level l).link = l.link) ∧
         (queued l.link g = false → r.unsent = false → l.link.state = .running ∨ l.link.state = .down →
           (demand z g level l).link = arbitrate { l.link with queue := l.link.queue ++ [(g, step)] })))

/-- ENERGY_TICK adds to each configured segment's fraction the sum of level × rated power over its groups that are not
FAILED, carries whole watt-hours into the accumulator, which stops at 4,294,967,295, and keeps the remainder (R106, R107).
ENERGY_CLEAR sets the accumulators and fractions of the configured segments of its mask to 0 (R110); POWER_SET writes a
group's rated power, above 4095 as 4095; GROUP_CLEAR_FAIL clears a group's FAILED flag; a group that does not exist is
refused RANGE (R104, R105). Nothing else changes. That the energy tick is a command of its own beside UPTIME_TICK is the
table's, log 8. -/
def Obligations.EnergyRule : Prop :=
  (∀ s : State, ∃ e : Vector Energy 16, exec .energyTick s = .next { s with energy := e } ∧
     ∀ i : SegId,
       (configured s i = false → e[i] = s.energy[i]) ∧
       (configured s i = true → ∃ total, total = s.energy[i].frac + ((List.finRange 48).map fun g =>
           if segOf g = i then
             match s.lum.groups[g] with
             | none => 0
             | some r => if r.failed then 0 else r.present * r.power
           else 0).sum ∧
         e[i].frac = total % 3600000 ∧ e[i].wh = min 4294967295 (s.energy[i].wh + total / 3600000))) ∧
  (∀ (p : PortId) (link : Bool) (tag : Byte) (s : State),
     (∀ m : SegMask, Runs p ⟨link, tag, .energyClear m⟩ s → m &&& configuredMask s ≠ 0 →
       exec (.energyClear p) s = .next (placeReply p ⟨link, tag, .energyClear m⟩
         (if m &&& configuredMask s = m then .ok else .okClamped) []
         { s with energy := Vector.ofFn fun i =>
           if maskHas m i = true ∧ configured s i = true then ⟨0, 0⟩ else s.energy[i] })) ∧
     (∀ (g : GroupId) (r : Group) (w : Nat), Runs p ⟨link, tag, .powerSet g.val w⟩ s → s.lum.groups[g] = some r →
       exec (.powerSet p) s = .next (placeReply p ⟨link, tag, .powerSet g.val w⟩ (if w ≤ 4095 then .ok else .okClamped) []
         { s with lum := { s.lum with groups := s.lum.groups.set g (some { r with power := min w 4095 }) } })) ∧
     (∀ (g : GroupId) (r : Group), Runs p ⟨link, tag, .groupClearFail g.val⟩ s → s.lum.groups[g] = some r →
       exec (.groupClearFail p) s = .next (placeReply p ⟨link, tag, .groupClearFail g.val⟩ .ok []
         { s with lum := { s.lum with groups := s.lum.groups.set g (some { r with failed := false }) } })) ∧
     ∀ n w : Nat, ¬ NamesGroup s.lum n →
       (Runs p ⟨link, tag, .powerSet n w⟩ s →
         exec (.powerSet p) s = .next (placeReply p ⟨link, tag, .powerSet n w⟩ .range [] s)) ∧
       (Runs p ⟨link, tag, .groupClearFail n⟩ s →
         exec (.groupClearFail p) s = .next (placeReply p ⟨link, tag, .groupClearFail n⟩ .range [] s)))

/-! ## Luminaire link -/

/-- The arbiter starts nothing while a transmission runs, in PAUSED and DOWN, and where nothing waits; in RUNNING and
DRAINING it starts the query that waits or the head of the queue (R117). What a link that has fallen free does: a DRAINING
link with nothing left enters PAUSED and LINK_CHANGE is raised on every port with a role; otherwise a RUNNING or DRAINING
link starts the query that waits, unless the last grant was QUERY and a level waits too, or else the head of the queue;
PAUSED and DOWN start nothing, and nothing happens while a transmission still runs, where nothing waits in RUNNING, and in
a drain that waits for the answer of a query in flight (R117, R124). SET_LEVEL_COMPLETION records the frame's level as
last sent where the group has existed without interruption, and the link falls free; QUERY_FRAME_COMPLETION opens the
answer window and takes the unit's query in flight (R113, R120, R130). -/
def Obligations.LinkFreeAndCompletions : Prop :=
  (∀ k : Link,
     (k.tx ≠ none ∨ k.state = .paused ∨ k.state = .down ∨ k.queue = [] ∧ (∀ kept, k.unit ≠ .waiting kept) →
       arbitrate k = k) ∧
     (k.tx = none → k.state = .running ∨ k.state = .draining →
       (∀ kept, k.unit = .waiting kept → k.queue = [] ∨ k.lastGrant = .level →
         arbitrate k = { k with tx := some (.query k.record.group k.record.item true), lastGrant := .query }) ∧
       (∀ g level rest, k.queue = (g, level) :: rest → (∀ kept, k.unit ≠ .waiting kept) ∨ k.lastGrant = .query →
         arbitrate k = { k with tx := some (.setLevel g level true), queue := rest, lastGrant := .level }))) ∧
  (∀ s : State,
     (s.lum.link.tx ≠ none → freeLink s = s) ∧
     (s.lum.link.state = .running → s.lum.link.queue = [] → (∀ kept, s.lum.link.unit ≠ .waiting kept) → freeLink s = s) ∧
     (∀ kept, s.lum.link.state = .draining → s.lum.link.queue = [] → s.lum.link.unit = .inFlight kept → freeLink s = s)) ∧
  (∀ s : State, s.lum.link.tx = none →
     (s.lum.link.state = .draining → s.lum.link.queue = [] → s.lum.link.unit = .idle →
       freeLink s = { s with
         lum := { s.lum with link := { s.lum.link with state := .paused } }
         ports := s.ports.map fun q => if q.role = .off then q else { q with raised := q.raised ||| 0x0400 } }) ∧
     (s.lum.link.state = .paused ∨ s.lum.link.state = .down → freeLink s = s) ∧
     (s.lum.link.state = .running ∨ s.lum.link.state = .draining →
       (∀ kept, s.lum.link.unit = .waiting kept → s.lum.link.queue = [] ∨ s.lum.link.lastGrant = .level →
         freeLink s = { s with lum := { s.lum with link := { s.lum.link with
           tx := some (.query s.lum.link.record.group s.lum.link.record.item true), lastGrant := .query } } }) ∧
       (∀ g level rest, s.lum.link.queue = (g, level) :: rest →
         (∀ kept, s.lum.link.unit ≠ .waiting kept) ∨ s.lum.link.lastGrant = .query →
         freeLink s = { s with lum := { s.lum with link := { s.lum.link with
           tx := some (.setLevel g level true), queue := rest, lastGrant := .level } } }))) ∧
  (∀ s : State,
     (∀ g level kept, s.lum.link.tx = some (.setLevel g level kept) →
       exec .setLevelCompletion s = .next (freeLink { s with lum :=
         { groups := if kept then s.lum.groups.set g (s.lum.groups[g].map fun r => { r with lastSent := some level })
             else s.lum.groups
           link := { s.lum.link with tx := none } } })) ∧
     (∀ g item owned, s.lum.link.tx = some (.query g item owned) →
       exec .queryFrameCompletion s = .next { s with lum := { s.lum with link := { s.lum.link with
         tx := some (.window g item owned)
         unit := match owned, s.lum.link.unit with
           | true, .waiting kept => .inFlight kept
           | _, u => u } } }))

/-- ANSWER_WINDOW_END of the unit's query: the outcome by the tag and data of the answer, the FAILED flag or rated power
of a group that has existed since the acceptance, GROUP_FAILED on a flag that goes from clear to set, the record valid,
the unit IDLE, QUERY_DONE on the requesting port, and the link falls free; nothing else of a port changes; a window left
to no query changes nothing but the link (R103, R105, R114, R120, R121, R130, R180). -/
def Obligations.AnswerWindowRule : Prop :=
  ∀ (answer : Answer) (g : GroupId) (item : Item) (s : State),
    (s.lum.link.tx = some (.window g item false) →
      exec (.answerWindowEnd answer) s =
        .next (freeLink { s with lum := { s.lum with link := { s.lum.link with tx := none } } })) ∧
    ∀ kept : Bool, s.lum.link.tx = some (.window g item true) → s.lum.link.unit = .inFlight kept →
      ∃ (outcome : QueryOutcome) (t : State), exec (.answerWindowEnd answer) s = .next (freeLink t) ∧
        (match answer, item with
        | .silent, _ => outcome = .noAnswer
        | .violation, _ | .cutOff, _ => outcome = .badFrame
        | .frame bits, .ratedPower =>
          if bits.toNat / 4096 = 1 then outcome = .ok (.power (bits.toNat % 4096)) else outcome = .badFrame
        | .frame bits, .status =>
          if bits.toNat = 0x2000 then outcome = .ok (.status .ok)
          else if bits.toNat = 0x2001 then outcome = .ok (.status .lampFail)
          else if bits.toNat = 0x2002 then outcome = .ok (.status .driverFault)
          else outcome = .badFrame) ∧
        t.lum.link = { s.lum.link with
          tx := none, unit := .idle
          record := { s.lum.link.record with valid := true, outcome := some outcome } } ∧
        t.lum.groups =
          (if kept = true then
            s.lum.groups.set s.lum.link.record.group (s.lum.groups[s.lum.link.record.group].map fun r =>
              match outcome with
              | .ok (.power w) => { r with power := w }
              | .ok (.status .ok) => { r with failed := false }
              | .ok (.status _) => { r with failed := true }
              | _ => r)
          else s.lum.groups) ∧
        (∀ q : PortId, t.ports[q].raised =
          if q = s.lum.link.record.port ∧ s.ports[q].role ≠ .off then s.ports[q].raised ||| 0x0020 else s.ports[q].raised) ∧
        (∀ (q : PortId) (i : SegId), t.ports[q].events[i] = s.ports[q].events[i] |||
          if kept = true ∧ (outcome = .ok (.status .lampFail) ∨ outcome = .ok (.status .driverFault)) ∧
            i = segOf s.lum.link.record.group ∧ (∃ r ∈ s.lum.groups[s.lum.link.record.group], r.failed = false) ∧
            s.ports[q].role ≠ .off ∧ maskHas s.ports[q].segMask i = true then 0x10 else 0) ∧
        OnlyEventsAndCauses s t ∧ t.layout = s.layout ∧ t.ctrls = s.ctrls ∧ t.sensors = s.sensors ∧
        t.coupling = s.coupling ∧ t.table = s.table ∧ t.energy = s.energy ∧ t.cal = s.cal ∧ t.pending = s.pending

/-- QUERY_DRIVER: RANGE, BUSY, PAUSED and NO_LINK in the order of R119, a refusal changing nothing but the port; accepted,
the reply is ACCEPTED, the record names port, group and item and is not valid, the unit waits and the arbiter is offered
the query (R117, R118, R119). -/
def Obligations.QueryDriverRule : Prop :=
  ∀ (p : PortId) (link : Bool) (tag : Byte) (n item : Nat) (s : State), Runs p ⟨link, tag, .queryDriver n item⟩ s →
    (∀ st : Status,
      (st = .range ∧ (¬ NamesGroup s.lum n ∨ 2 ≤ item) ∨
        st = .busy ∧ NamesGroup s.lum n ∧ item < 2 ∧ s.lum.link.unit ≠ .idle ∨
        st = .paused ∧ NamesGroup s.lum n ∧ item < 2 ∧ s.lum.link.unit = .idle ∧
          (s.lum.link.state = .draining ∨ s.lum.link.state = .paused) ∨
        st = .noLink ∧ NamesGroup s.lum n ∧ item < 2 ∧ s.lum.link.unit = .idle ∧ s.lum.link.state = .down) →
      exec (.queryDriver p) s = .next (placeReply p ⟨link, tag, .queryDriver n item⟩ st [] s)) ∧
    ∀ (g : GroupId) (i : Item), n = g.val → groupExists s.lum g = true → item = itemCode i → s.lum.link.unit = .idle →
      s.lum.link.state = .running →
      ∃ k, exec (.queryDriver p) s = .next (placeReply p ⟨link, tag, .queryDriver n item⟩ .accepted []
          { s with lum := { s.lum with link := k } }) ∧
        k.unit = .waiting true ∧ k.record = ⟨false, p, g, i, none⟩ ∧ k.state = .running ∧
        k.pauseInForce = s.lum.link.pauseInForce ∧ k.faultReported = s.lum.link.faultReported ∧
        (s.lum.link.tx ≠ none → k.tx = s.lum.link.tx ∧ k.queue = s.lum.link.queue ∧ k.lastGrant = s.lum.link.lastGrant) ∧
        (s.lum.link.tx = none → s.lum.link.queue = [] ∨ s.lum.link.lastGrant = .level →
          k.tx = some (.query g i true) ∧ k.queue = s.lum.link.queue ∧ k.lastGrant = .query)

/-- LINK_PAUSE: BUSY during a run, NO_LINK in DOWN, no change in DRAINING and PAUSED; in RUNNING the link drains, and
where nothing is pending the drain ends within the request. LINK_RESUME: NO_LINK in DOWN, no change in RUNNING; otherwise
every unsent group is queued with its present level and its flag cleared, the link runs, and from PAUSED LINK_CHANGE is
raised on every port (R123, R124, R125). -/
def Obligations.PauseAndResume : Prop :=
  ∀ (p : PortId) (link : Bool) (tag : Byte) (s : State),
    (Runs p ⟨link, tag, .linkPause⟩ s →
      (s.cal.run ≠ none → exec (.linkPause p) s = .next (placeReply p ⟨link, tag, .linkPause⟩ .busy [] s)) ∧
      (s.cal.run = none → s.lum.link.state = .down →
        exec (.linkPause p) s = .next (placeReply p ⟨link, tag, .linkPause⟩ .noLink [] s)) ∧
      (s.cal.run = none → s.lum.link.state = .draining ∨ s.lum.link.state = .paused →
        exec (.linkPause p) s = .next (placeReply p ⟨link, tag, .linkPause⟩ .ok [] s)) ∧
      (s.cal.run = none → s.lum.link.state = .running →
        exec (.linkPause p) s = .next (placeReply p ⟨link, tag, .linkPause⟩ .ok []
          (freeLink { s with lum := { s.lum with link := { s.lum.link with state := .draining } } })))) ∧
    (Runs p ⟨link, tag, .linkResume⟩ s →
      (s.lum.link.state = .down →
        exec (.linkResume p) s = .next (placeReply p ⟨link, tag, .linkResume⟩ .noLink [] s)) ∧
      (s.lum.link.state = .running →
        exec (.linkResume p) s = .next (placeReply p ⟨link, tag, .linkResume⟩ .ok [] s)) ∧
      (s.lum.link.state = .draining ∨ s.lum.link.state = .paused →
        exec (.linkResume p) s = .next (placeReply p ⟨link, tag, .linkResume⟩ .ok []
          { s with
            ports := if s.lum.link.state = .paused then
                s.ports.map fun q => if q.role = .off then q else { q with raised := q.raised ||| 0x0400 }
              else s.ports
            lum :=
              { groups := s.lum.groups.map fun x => x.map fun r => { r with unsent := false }
                link := arbitrate { s.lum.link with
                  state := .running
                  queue := s.lum.link.queue ++ (List.finRange 48).filterMap fun g =>
                    match s.lum.groups[g] with
                    | none => none
                    | some r => if r.unsent then some (g, r.present) else none } } })))

/-- BUS_FAULT while the last report is not a fault: DOWN, the transmission abandoned with nothing recorded, the pause in
force noted, a query ended NO_LINK with QUERY_DONE, a run aborted with reason LINK and its segments released, LINK_CHANGE
on every port; the queue and the unsent flags stay where no run is aborted (R58, R127, R147). The order in which the
levels of several released segments enter the queue, ascending, is the model's choice, log 9. BUS_RESTORATION after a
fault: with a pause in force the queue empties, every group is unsent and the link is PAUSED; otherwise every group
without an entry is queued and the link runs; LINK_CHANGE is raised on every port; nothing else changes (R128; that every
unsent flag is clear afterwards is read from R115, log 19). -/
def Obligations.BusFaultAndRestoration : Prop :=
  (∀ s : State, s.lum.link.faultReported = false →
     ∃ (t : State) (down : Link), exec .busFault s = .next t ∧
       down = { s.lum.link with
         state := .down, faultReported := true, tx := none, unit := .idle
         pauseInForce := s.lum.link.pauseInForce || s.lum.link.state == .draining || s.lum.link.state == .paused
         record := if s.lum.link.unit = .idle then s.lum.link.record
           else { s.lum.link.record with valid := true, outcome := some .noLink } } ∧
       (s.cal.run = none → t.cal = s.cal ∧ t.lum = { s.lum with link := down } ∧ t.ctrls = s.ctrls) ∧
       (∀ r, s.cal.run = some r →
         t.cal = ⟨none, { s.cal.result with outcome := .aborted .link }⟩ ∧
         SegmentsReleased r s { s.lum with link := down } t ∧
         t.lum.link = { down with queue := t.lum.link.queue }) ∧ OnlyEventsAndCauses s t ∧
       (∀ q : PortId, t.ports[q].raised = s.ports[q].raised |||
         (if s.ports[q].role = .off then 0
         else 0x0400 ||| (if s.lum.link.unit ≠ .idle ∧ q = s.lum.link.record.port then 0x0020 else 0)
           ||| (if s.cal.run ≠ none ∧ s.ports[q].role = .floor then 0x0040 else 0))) ∧
       t.layout = s.layout ∧ t.sensors = s.sensors ∧ t.coupling = s.coupling ∧ t.table = s.table ∧ t.energy = s.energy ∧
       t.pending = s.pending) ∧
  (∀ s : State, s.lum.link.faultReported = true →
     ∃ l, exec .busRestoration s = .next { s with
         ports := s.ports.map fun q => if q.role = .off then q else { q with raised := q.raised ||| 0x0400 }
         lum := l } ∧
       (s.lum.link.pauseInForce = true →
         l = { groups := s.lum.groups.map fun x => x.map fun r => { r with unsent := true }
               link := { s.lum.link with state := .paused, pauseInForce := false, queue := [], faultReported := false } }) ∧
       (s.lum.link.pauseInForce = false →
         l = { groups := s.lum.groups.map fun x => x.map fun r => { r with unsent := false }
               link := arbitrate { s.lum.link with
                 state := .running, pauseInForce := false, faultReported := false
                 queue := s.lum.link.queue ++ (List.finRange 48).filterMap fun g =>
                   match s.lum.groups[g] with
                   | none => none
                   | some r => if queued s.lum.link g then none else some (g, r.present) } }))

/-! ## Calibration -/

/-- CAL_START refused: BUSY, NOT_CONFIGURED, SEG_LOCKED, HELD, PAUSED and NO_LINK in the order of R134, and, those checks
passed, RANGE for the dark option, CAPPED for a base above the lowest cap, RANGE for a swing below 100, CAPPED for a swing
that a cap makes too small (R135); a refusal changes nothing but the port. -/
def Obligations.CalStartRefused : Prop :=
  (∀ (p : PortId) (link : Bool) (tag : Byte) (m : SegMask) (lb h l hp su o : Nat) (s : State),
     Runs p ⟨link, tag, .calStart m lb h l hp su o⟩ s →
     let involved := fun (i : SegId) => maskHas m i = true ∧ configured s i = true
     ∀ st : Status,
       (st = .busy ∧ s.cal.run ≠ none ∨
         st = .notConfigured ∧ s.cal.run = none ∧ (∀ i, ¬ involved i) ∨
         st = .segLocked ∧ s.cal.run = none ∧ (∃ i, involved i ∧ modeOf s i = .locked) ∨
         st = .held ∧ s.cal.run = none ∧ (∀ i, involved i → modeOf s i ≠ .locked) ∧ (∃ i, involved i ∧ modeOf s i = .held) ∨
         (st = .paused ∧ (s.lum.link.state = .draining ∨ s.lum.link.state = .paused) ∨
           st = .noLink ∧ s.lum.link.state = .down) ∧ s.cal.run = none ∧ (∃ i, involved i) ∧
           ∀ i, involved i → modeOf s i ≠ .locked ∧ modeOf s i ≠ .held) →
       exec (.calStart p) s = .next (placeReply p ⟨link, tag, .calStart m lb h l hp su o⟩ st [] s)) ∧
  (∀ (p : PortId) (link : Bool) (tag : Byte) (m : SegMask) (lb h l hp su o : Nat) (s : State),
     Runs p ⟨link, tag, .calStart m lb h l hp su o⟩ s → s.cal.run = none → m &&& configuredMask s ≠ 0 →
     (∀ i : SegId, maskHas m i = true → configured s i = true → modeOf s i ≠ .locked ∧ modeOf s i ≠ .held) →
     s.lum.link.state = .running →
     ∀ cap : Nat,
       (cap = 1000 ∧ (∀ i : SegId, maskHas m i = true → configured s i = true → capsOver s.table.entries i = []) ∨
         (∃ i : SegId, maskHas m i = true ∧ configured s i = true ∧ cap ∈ capsOver s.table.entries i) ∧
         ∀ i : SegId, maskHas m i = true → configured s i = true → ∀ c ∈ capsOver s.table.entries i, cap ≤ c) →
     ∀ st : Status,
       (st = .range ∧ 3 ≤ o / 16 ∨
         st = .capped ∧ o / 16 < 3 ∧ cap < min lb 1000 ∨
         st = .range ∧ o / 16 < 3 ∧ min lb 1000 ≤ cap ∧ min h 1000 < min l 1000 + 100 ∨
         st = .capped ∧ o / 16 < 3 ∧ min lb 1000 ≤ cap ∧ min l 1000 + 100 ≤ min h 1000 ∧
           min (min h 1000) cap < min l 1000 + 100) →
       exec (.calStart p) s = .next (placeReply p ⟨link, tag, .calStart m lb h l hp su o⟩ st [] s))

/-- CAL_START accepted: the parameters brought into range, the record RUNNING, the run in SETTLE_BASE over the existing
groups and the sensors of the configured segments of the mask with nothing gathered, its stage SETTLE with the timer at s
exactly when every involved group is at rest at its assigned level, those segments CALIBRATING at their assigned levels,
and no other segment, group or block changed but event sets and the link (R131, R133, R135, R136, R137, R138). The order
in which the levels of several segments reach the link, ascending, is the model's choice, log 9. -/
def Obligations.CalStartAccepted : Prop :=
  ∀ (p : PortId) (link : Bool) (tag : Byte) (m : SegMask) (lb h l hp su o cap : Nat) (s : State),
    Runs p ⟨link, tag, .calStart m lb h l hp su o⟩ s → s.cal.run = none → m &&& configuredMask s ≠ 0 →
    (∀ i : SegId, maskHas m i = true → configured s i = true → modeOf s i ≠ .locked ∧ modeOf s i ≠ .held) →
    s.lum.link.state = .running → o / 16 < 3 →
    (cap = 1000 ∧ (∀ i : SegId, maskHas m i = true → configured s i = true → capsOver s.table.entries i = []) ∨
      (∃ i : SegId, maskHas m i = true ∧ configured s i = true ∧ cap ∈ capsOver s.table.entries i) ∧
      ∀ i : SegId, maskHas m i = true → configured s i = true → ∀ c ∈ capsOver s.table.entries i, cap ≤ c) →
    min lb 1000 ≤ cap → min l 1000 + 100 ≤ min (min h 1000) cap →
    ∃ (t : State) (q : CalParams) (r : CalRun),
      exec (.calStart p) s = .next (placeReply p ⟨link, tag, .calStart m lb h l hp su o⟩ .accepted [] t) ∧
      q.base = min lb 1000 ∧ q.high = min h 1000 ∧ q.highEff = min (min h 1000) cap ∧ q.low = min l 1000 ∧
      q.half = (if hp < 500 then 500 else if 10000 < hp then 10000 else hp - hp % 100) ∧
      q.settle = (if su * 50 < 100 then 100 else if q.half - 100 < su * 50 then q.half - 100 else su * 50 - su * 50 % 100) ∧
      q.loops = max 1 (o % 16) ∧
      q.dark = (if o / 16 = 0 then .none else if o / 16 = 1 then .first else .last) ∧
      (∃ clamped, t.cal.result = ⟨.running, m &&& configuredMask s, q, clamped, Vector.replicate 32 .notInvolved⟩ ∧
        (clamped = false ↔ m &&& configuredMask s = m ∧ lb ≤ 1000 ∧ h ≤ 1000 ∧ l ≤ 1000 ∧ q.half = hp ∧
          q.settle = su * 50 ∧ 1 ≤ o % 16)) ∧
      t.cal.run = some r ∧ r.phase = .settleBase ∧ r.segments = m &&& configuredMask s ∧ r.params = q ∧
      r.gathered = Vector.replicate 32 ⟨0, 0, 0, 0, 0, 0, [], .notTaken⟩ ∧
      r.groups = (List.finRange 48).filter (fun g => maskHas r.segments (segOf g) && groupExists s.lum g) ∧
      (∀ k : SensorId, r.sensors.contains k = true ↔ ∃ i : SegId, maskHas r.segments i = true ∧
        ((segCfg s i).primary = some k ∨ (segCfg s i).secondary = some k)) ∧
      (∀ g : GroupId, r.assigned[g] =
        if r.groups.contains g = true ∧ q.dark ≠ .first then q.base else 0) ∧
      (r.stage = .fadeWait ∧ r.timer = none ∧ ¬ Faded r t.lum ∨
        r.stage = .settle ∧ r.timer = some q.settle ∧ Faded r t.lum) ∧
      (∀ i : SegId, t.ctrls[i] =
        if maskHas r.segments i = true then { s.ctrls[i] with mode := .calibrating } else s.ctrls[i]) ∧
      Recomposed r.segments s t ∧ OnlyEvents s t ∧ t.layout = s.layout ∧ t.sensors = s.sensors ∧
      t.coupling = s.coupling ∧ t.table = s.table ∧ t.energy = s.energy ∧ t.pending = s.pending

/-- CAL_ABORT replies OK; in IDLE nothing changes, and a run ends ABORTED with reason REQUEST: nothing written to the
coupling store, every involved segment out of CALIBRATING into the mode the table gives, with its record as the entry to
that mode leaves it, and recomposed, CAL_DONE on the FLOOR port (R54, R57, R58, R147, R149). The order in which the levels
of several released segments reach the link, ascending, is the model's choice, log 9. -/
def Obligations.CalAbortRule : Prop :=
  ∀ (p : PortId) (link : Bool) (tag : Byte) (s : State), Runs p ⟨link, tag, .calAbort⟩ s →
    (s.cal.run = none → exec (.calAbort p) s = .next (placeReply p ⟨link, tag, .calAbort⟩ .ok [] s)) ∧
    ∀ r, s.cal.run = some r →
      ∃ t, exec (.calAbort p) s = .next (placeReply p ⟨link, tag, .calAbort⟩ .ok [] t) ∧
        t.cal = ⟨none, { s.cal.result with outcome := .aborted .request }⟩ ∧ SegmentsReleased r s s.lum t ∧
        OnlyEventsAndCauses s t ∧
        (∀ q : PortId, t.ports[q].raised =
          if s.ports[q].role = .floor then s.ports[q].raised ||| 0x0040 else s.ports[q].raised) ∧
        t.coupling = s.coupling ∧ t.layout = s.layout ∧ t.sensors = s.sensors ∧ t.table = s.table ∧ t.energy = s.energy ∧
        t.pending = s.pending

/-- CAL_STAGE_TIMER_EXPIRY that ends SETTLE opens the window, or in SETTLE_BASE the hold, for h − s; one that ends a
window or hold that is not the last of the run enters the phase that follows with its levels assigned and handed, with
steps of 100, to the groups of each involved segment that a change concerns, no other group changing, in SETTLE exactly
when every involved group is then at rest at its assigned level, and changes no list. The end of a DARK phase with FIRST
gives every involved sensor its pending dark offset, the end of a group's last PROBE_LOW gives it the group's pending
coefficient where the pair is measured and clears its high and low sums, and the other ends leave what is gathered as it
was (R98, R100, R137 to R141, R143). The order in which the levels of several segments reach the link, ascending, is the
model's choice, log 9. -/
def Obligations.CalStages : Prop :=
  ∀ (r : CalRun) (s : State), s.cal.run = some r → r.timer ≠ none →
    (r.stage = .settle → exec .calStageTimerExpiry s = .next { s with cal := { s.cal with
      run := some { r with
        stage := if r.phase = .settleBase then .baseHold else .sample
        timer := some (r.params.half - r.params.settle) } } }) ∧
    (r.stage = .sample ∨ r.stage = .baseHold →
      ∀ (next : Phase) (probe cycle : Nat),
        (r.phase = .settleBase ∧ next = (if r.params.dark = .first then .dark else .probeHigh) ∧ probe = 0 ∧ cycle = 1 ∨
          r.phase = .dark ∧ r.params.dark = .first ∧ next = .probeHigh ∧ probe = 0 ∧ cycle = 1 ∨
          r.phase = .probeHigh ∧ next = .probeLow ∧ probe = r.probe ∧ cycle = r.cycle ∨
          r.phase = .probeLow ∧ r.cycle < r.params.loops ∧ next = .probeHigh ∧ probe = r.probe ∧ cycle = r.cycle + 1 ∨
          r.phase = .probeLow ∧ r.params.loops ≤ r.cycle ∧ r.probe + 1 < r.groups.length ∧ next = .probeHigh ∧
            probe = r.probe + 1 ∧ cycle = 1 ∨
          r.phase = .probeLow ∧ r.params.loops ≤ r.cycle ∧ r.groups.length ≤ r.probe + 1 ∧ r.params.dark = .last ∧
            next = .dark ∧ probe = r.probe ∧ cycle = r.cycle) →
        ∃ (t : State) (r' : CalRun), exec .calStageTimerExpiry s = .next t ∧ t.cal = ⟨some r', s.cal.result⟩ ∧
          r'.phase = next ∧ r'.probe = probe ∧ r'.cycle = cycle ∧ r'.segments = r.segments ∧ r'.groups = r.groups ∧
          r'.sensors = r.sensors ∧ r'.params = r.params ∧
          (r'.stage = .fadeWait ∧ r'.timer = none ∨ r'.stage = .settle ∧ r'.timer = some r.params.settle) ∧
          ((∀ x ∈ r.groups, groupExists s.lum x = true) → (r'.stage = .settle ↔ Faded r' t.lum)) ∧
          (∀ k : SensorId, r'.gathered[k] =
            if r.sensors.contains k = false then r.gathered[k]
            else if r.phase = .dark then { r.gathered[k] with dark := darkOffset r.gathered[k] }
            else if r.phase = .probeLow ∧ r.params.loops ≤ r.cycle then
              match r.groups[r.probe]? with
              | none => r.gathered[k]
              | some g =>
                { r.gathered[k] with
                  highSum := 0, highCount := 0, lowSum := 0, lowCount := 0
                  measured := match coefficient r.params r.gathered[k] with
                    | none => r.gathered[k].measured
                    | some c => r.gathered[k].measured ++ [⟨g, c⟩] }
            else r.gathered[k]) ∧
          (∀ g : GroupId, r'.assigned[g] =
            if r.groups.contains g = false ∨ next = .dark then 0
            else if r.groups[probe]? = some g then (if next = .probeHigh then r.params.highEff else r.params.low)
            else r.params.base) ∧
          (∃ changed : SegId → Bool,
            (∀ i : SegId, changed i = true ↔ maskHas r.segments i = true ∧
              ∃ g ∈ r.groups, segOf g = i ∧ r'.assigned[g] ≠ r.assigned[g]) ∧
            t.lum = recomposed changed t s.lum ∧
            ((∀ i : SegId, maskHas r.segments i = true → modeOf s i = .calibrating) →
              t.lum = handedDown
                (fun g => changed (segOf g) && decide ((bandOf g).val < (segCfg s (segOf g)).bandCount))
                (fun g => r'.assigned[g]) (fun _ => ⟨100, 100⟩) s.lum)) ∧
          t.coupling = s.coupling ∧ t.ctrls = s.ctrls ∧ t.ports = s.ports ∧ t.layout = s.layout ∧ t.sensors = s.sensors ∧
          t.table = s.table ∧ t.energy = s.energy ∧ t.pending = s.pending)

/-- The coefficient of a pair at the end of its group's cycles: unmeasured without samples of both kinds, 0 for a negative
difference, otherwise the quotient of R143 rounded half up and at most 4095. The dark offset of a sensor: rejected without
samples or above 255, otherwise the mean rounded half up (R140). The new list of a sensor at the commit: at most six
entries in ascending group order, each a measured coefficient of 2 or more or an old entry whose group is not involved or
was not measured at the sensor; a candidate left out is no larger than any kept, and of equals the higher group is left
out (R145). An old entry of coefficient 1 is a candidate by step 1 of R145, against its closing text (the model's choice,
log 34). -/
def Obligations.CalArithmetic : Prop :=
  ((∀ (q : CalParams) (a : CalSensor),
     (a.highCount = 0 ∨ a.lowCount = 0 → coefficient q a = none) ∧
     (a.highCount ≠ 0 → a.lowCount ≠ 0 → q.low + 100 ≤ q.highEff →
       (a.highSum * a.lowCount ≤ a.lowSum * a.highCount → coefficient q a = some 0) ∧
       (a.lowSum * a.highCount < a.highSum * a.lowCount →
         coefficient q a = some (min 4095 ((2 * ((a.highSum * a.lowCount - a.lowSum * a.highCount) * 1000)
           + a.highCount * a.lowCount * (q.highEff - q.low)) / (2 * (a.highCount * a.lowCount * (q.highEff - q.low)))))))) ∧
   ∀ a : CalSensor,
     (a.darkCount = 0 → darkOffset a = .rejected) ∧
     (a.darkCount ≠ 0 → darkOffset a =
       if (2 * a.darkSum + a.darkCount) / (2 * a.darkCount) ≤ 255 then
         .measured ((2 * a.darkSum + a.darkCount) / (2 * a.darkCount))
       else .rejected)) ∧
  (∀ (r : CalRun) (a : CalSensor) (old : List Coupling),
     let isCandidate := fun (e : Coupling) =>
       (r.groups.contains e.group = true ∧ measuredOf a e.group = some e.coeff ∧ 2 ≤ e.coeff) ∨
         ((r.groups.contains e.group = false ∨ measuredOf a e.group = none) ∧ coeffIn old e.group = some e.coeff)
     (newList r a old).length ≤ 6 ∧ (newList r a old).Pairwise (fun x y => x.group < y.group) ∧
       (∀ e ∈ newList r a old, isCandidate e) ∧
       ∀ e, isCandidate e → e ∉ newList r a old → (newList r a old).length = 6 ∧
         ∀ x ∈ newList r a old, e.coeff < x.coeff ∨ e.coeff = x.coeff ∧ x.group < e.group)

/-- The last expiry of a run commits: the involved sensors' lists and measured dark offsets are written, the record reads
DONE with each involved sensor's status, the sequencer is IDLE, every involved segment leaves CALIBRATING into the mode
the table gives, with its record as the entry to that mode leaves it, and is recomposed, and CAL_DONE is raised on the
FLOOR port (R54, R57, R58, R140, R145, R146; shown for the end of the DARK phase with option LAST and for the last
PROBE_LOW without one). The order in which the levels of several released segments reach the link, ascending, is the
model's choice, log 9. -/
def Obligations.CommitRule : Prop :=
  ∀ (r : CalRun) (s : State), s.cal.run = some r → r.timer ≠ none → r.stage = .sample →
    (r.phase = .dark ∧ r.params.dark ≠ .first ∨
      r.phase = .probeLow ∧ r.params.loops ≤ r.cycle ∧ r.groups.length ≤ r.probe + 1 ∧ r.params.dark ≠ .last) →
    ∃ (t : State) (g : Vector CalSensor 32), exec .calStageTimerExpiry s = .next t ∧
      (∀ k : SensorId, r.sensors.contains k = true → g[k] =
        if r.phase = .dark then { r.gathered[k] with dark := darkOffset r.gathered[k] }
        else
          match r.groups[r.probe]? with
          | none => r.gathered[k]
          | some group =>
            { r.gathered[k] with
              highSum := 0, highCount := 0, lowSum := 0, lowCount := 0
              measured := match coefficient r.params r.gathered[k] with
                | none => r.gathered[k].measured
                | some c => r.gathered[k].measured ++ [⟨group, c⟩] }) ∧
      t.cal.run = none ∧ t.cal.result.outcome = .done ∧ t.cal.result.segments = s.cal.result.segments ∧
      t.cal.result.params = s.cal.result.params ∧ t.cal.result.clamped = s.cal.result.clamped ∧
      (∀ k : SensorId, r.sensors.contains k = false →
        t.coupling.lists[k] = s.coupling.lists[k] ∧ t.coupling.dark[k] = s.coupling.dark[k] ∧
        t.cal.result.statuses[k] = s.cal.result.statuses[k]) ∧
      (∀ k : SensorId, r.sensors.contains k = true →
        t.coupling.lists[k] = newList r g[k] s.coupling.lists[k] ∧
        t.coupling.dark[k] = (match g[k].dark with
          | .measured d => d
          | .notTaken | .rejected => s.coupling.dark[k]) ∧
        t.cal.result.statuses[k] =
          if (∀ x ∈ r.groups, measuredOf g[k] x = none) ∧ (r.params.dark = .none ∨ g[k].darkCount = 0) then .noSamples
          else if r.params.dark ≠ .none ∧ g[k].dark = .rejected then .darkRejected
          else if ∃ x ∈ r.groups, measuredOf g[k] x = none then .partly else .updated) ∧
      SegmentsReleased r s s.lum t ∧ OnlyEventsAndCauses s t ∧
      (∀ q : PortId, t.ports[q].raised =
        if s.ports[q].role = .floor then s.ports[q].raised ||| 0x0040 else s.ports[q].raised) ∧
      t.layout = s.layout ∧ t.sensors = s.sensors ∧ t.table = s.table ∧ t.energy = s.energy ∧ t.pending = s.pending
end

