-- ==== Sys2Proof/Laws/State.lean ====
section
/-! SUPPORT. What each write of a block leaves in each field: one lemma per field per update, true by definition. -/

namespace Sys2Proof.Laws

open Sys2Proof Sys2Proof.Machine Sys2Proof.Safety

/-! ## Whole blocks -/

section
variable (s : State)

@[simp] theorem setPorts_pending (x : Ports) : (s.setPorts x).pending = s.pending := rfl
@[simp] theorem setPorts_ports (x : Ports) : (s.setPorts x).ports = x := rfl
@[simp] theorem setPorts_layout (x : Ports) : (s.setPorts x).layout = s.layout := rfl
@[simp] theorem setPorts_ctrls (x : Ports) : (s.setPorts x).ctrls = s.ctrls := rfl
@[simp] theorem setPorts_sensors (x : Ports) : (s.setPorts x).sensors = s.sensors := rfl
@[simp] theorem setPorts_coupling (x : Ports) : (s.setPorts x).coupling = s.coupling := rfl
@[simp] theorem setPorts_table (x : Ports) : (s.setPorts x).table = s.table := rfl
@[simp] theorem setPorts_lum (x : Ports) : (s.setPorts x).lum = s.lum := rfl
@[simp] theorem setPorts_energy (x : Ports) : (s.setPorts x).energy = s.energy := rfl
@[simp] theorem setPorts_cal (x : Ports) : (s.setPorts x).cal = s.cal := rfl

@[simp] theorem setLayout_pending (x : Layout) : (s.setLayout x).pending = s.pending := rfl
@[simp] theorem setLayout_ports (x : Layout) : (s.setLayout x).ports = s.ports := rfl
@[simp] theorem setLayout_layout (x : Layout) : (s.setLayout x).layout = x := rfl
@[simp] theorem setLayout_ctrls (x : Layout) : (s.setLayout x).ctrls = s.ctrls := rfl
@[simp] theorem setLayout_sensors (x : Layout) : (s.setLayout x).sensors = s.sensors := rfl
@[simp] theorem setLayout_coupling (x : Layout) : (s.setLayout x).coupling = s.coupling := rfl
@[simp] theorem setLayout_table (x : Layout) : (s.setLayout x).table = s.table := rfl
@[simp] theorem setLayout_lum (x : Layout) : (s.setLayout x).lum = s.lum := rfl
@[simp] theorem setLayout_energy (x : Layout) : (s.setLayout x).energy = s.energy := rfl
@[simp] theorem setLayout_cal (x : Layout) : (s.setLayout x).cal = s.cal := rfl

@[simp] theorem setCtrls_pending (x : Vector Ctrl 16) : (s.setCtrls x).pending = s.pending := rfl
@[simp] theorem setCtrls_ports (x : Vector Ctrl 16) : (s.setCtrls x).ports = s.ports := rfl
@[simp] theorem setCtrls_layout (x : Vector Ctrl 16) : (s.setCtrls x).layout = s.layout := rfl
@[simp] theorem setCtrls_ctrls (x : Vector Ctrl 16) : (s.setCtrls x).ctrls = x := rfl
@[simp] theorem setCtrls_sensors (x : Vector Ctrl 16) : (s.setCtrls x).sensors = s.sensors := rfl
@[simp] theorem setCtrls_coupling (x : Vector Ctrl 16) : (s.setCtrls x).coupling = s.coupling := rfl
@[simp] theorem setCtrls_table (x : Vector Ctrl 16) : (s.setCtrls x).table = s.table := rfl
@[simp] theorem setCtrls_lum (x : Vector Ctrl 16) : (s.setCtrls x).lum = s.lum := rfl
@[simp] theorem setCtrls_energy (x : Vector Ctrl 16) : (s.setCtrls x).energy = s.energy := rfl
@[simp] theorem setCtrls_cal (x : Vector Ctrl 16) : (s.setCtrls x).cal = s.cal := rfl

@[simp] theorem setSensors_pending (x : SensorLink) : (s.setSensors x).pending = s.pending := rfl
@[simp] theorem setSensors_ports (x : SensorLink) : (s.setSensors x).ports = s.ports := rfl
@[simp] theorem setSensors_layout (x : SensorLink) : (s.setSensors x).layout = s.layout := rfl
@[simp] theorem setSensors_ctrls (x : SensorLink) : (s.setSensors x).ctrls = s.ctrls := rfl
@[simp] theorem setSensors_sensors (x : SensorLink) : (s.setSensors x).sensors = x := rfl
@[simp] theorem setSensors_coupling (x : SensorLink) : (s.setSensors x).coupling = s.coupling := rfl
@[simp] theorem setSensors_table (x : SensorLink) : (s.setSensors x).table = s.table := rfl
@[simp] theorem setSensors_lum (x : SensorLink) : (s.setSensors x).lum = s.lum := rfl
@[simp] theorem setSensors_energy (x : SensorLink) : (s.setSensors x).energy = s.energy := rfl
@[simp] theorem setSensors_cal (x : SensorLink) : (s.setSensors x).cal = s.cal := rfl

@[simp] theorem setCoupling_pending (x : CouplingStore) : (s.setCoupling x).pending = s.pending := rfl
@[simp] theorem setCoupling_ports (x : CouplingStore) : (s.setCoupling x).ports = s.ports := rfl
@[simp] theorem setCoupling_layout (x : CouplingStore) : (s.setCoupling x).layout = s.layout := rfl
@[simp] theorem setCoupling_ctrls (x : CouplingStore) : (s.setCoupling x).ctrls = s.ctrls := rfl
@[simp] theorem setCoupling_sensors (x : CouplingStore) : (s.setCoupling x).sensors = s.sensors := rfl
@[simp] theorem setCoupling_coupling (x : CouplingStore) : (s.setCoupling x).coupling = x := rfl
@[simp] theorem setCoupling_table (x : CouplingStore) : (s.setCoupling x).table = s.table := rfl
@[simp] theorem setCoupling_lum (x : CouplingStore) : (s.setCoupling x).lum = s.lum := rfl
@[simp] theorem setCoupling_energy (x : CouplingStore) : (s.setCoupling x).energy = s.energy := rfl
@[simp] theorem setCoupling_cal (x : CouplingStore) : (s.setCoupling x).cal = s.cal := rfl

@[simp] theorem setTable_pending (x : Table) : (s.setTable x).pending = s.pending := rfl
@[simp] theorem setTable_ports (x : Table) : (s.setTable x).ports = s.ports := rfl
@[simp] theorem setTable_layout (x : Table) : (s.setTable x).layout = s.layout := rfl
@[simp] theorem setTable_ctrls (x : Table) : (s.setTable x).ctrls = s.ctrls := rfl
@[simp] theorem setTable_sensors (x : Table) : (s.setTable x).sensors = s.sensors := rfl
@[simp] theorem setTable_coupling (x : Table) : (s.setTable x).coupling = s.coupling := rfl
@[simp] theorem setTable_table (x : Table) : (s.setTable x).table = x := rfl
@[simp] theorem setTable_lum (x : Table) : (s.setTable x).lum = s.lum := rfl
@[simp] theorem setTable_energy (x : Table) : (s.setTable x).energy = s.energy := rfl
@[simp] theorem setTable_cal (x : Table) : (s.setTable x).cal = s.cal := rfl

@[simp] theorem setLum_pending (x : Lum) : (s.setLum x).pending = s.pending := rfl
@[simp] theorem setLum_ports (x : Lum) : (s.setLum x).ports = s.ports := rfl
@[simp] theorem setLum_layout (x : Lum) : (s.setLum x).layout = s.layout := rfl
@[simp] theorem setLum_ctrls (x : Lum) : (s.setLum x).ctrls = s.ctrls := rfl
@[simp] theorem setLum_sensors (x : Lum) : (s.setLum x).sensors = s.sensors := rfl
@[simp] theorem setLum_coupling (x : Lum) : (s.setLum x).coupling = s.coupling := rfl
@[simp] theorem setLum_table (x : Lum) : (s.setLum x).table = s.table := rfl
@[simp] theorem setLum_lum (x : Lum) : (s.setLum x).lum = x := rfl
@[simp] theorem setLum_energy (x : Lum) : (s.setLum x).energy = s.energy := rfl
@[simp] theorem setLum_cal (x : Lum) : (s.setLum x).cal = s.cal := rfl

@[simp] theorem setEnergy_pending (x : Vector Energy 16) : (s.setEnergy x).pending = s.pending := rfl
@[simp] theorem setEnergy_ports (x : Vector Energy 16) : (s.setEnergy x).ports = s.ports := rfl
@[simp] theorem setEnergy_layout (x : Vector Energy 16) : (s.setEnergy x).layout = s.layout := rfl
@[simp] theorem setEnergy_ctrls (x : Vector Energy 16) : (s.setEnergy x).ctrls = s.ctrls := rfl
@[simp] theorem setEnergy_sensors (x : Vector Energy 16) : (s.setEnergy x).sensors = s.sensors := rfl
@[simp] theorem setEnergy_coupling (x : Vector Energy 16) : (s.setEnergy x).coupling = s.coupling := rfl
@[simp] theorem setEnergy_table (x : Vector Energy 16) : (s.setEnergy x).table = s.table := rfl
@[simp] theorem setEnergy_lum (x : Vector Energy 16) : (s.setEnergy x).lum = s.lum := rfl
@[simp] theorem setEnergy_energy (x : Vector Energy 16) : (s.setEnergy x).energy = x := rfl
@[simp] theorem setEnergy_cal (x : Vector Energy 16) : (s.setEnergy x).cal = s.cal := rfl

@[simp] theorem setCal_pending (x : Calibration) : (s.setCal x).pending = s.pending := rfl
@[simp] theorem setCal_ports (x : Calibration) : (s.setCal x).ports = s.ports := rfl
@[simp] theorem setCal_layout (x : Calibration) : (s.setCal x).layout = s.layout := rfl
@[simp] theorem setCal_ctrls (x : Calibration) : (s.setCal x).ctrls = s.ctrls := rfl
@[simp] theorem setCal_sensors (x : Calibration) : (s.setCal x).sensors = s.sensors := rfl
@[simp] theorem setCal_coupling (x : Calibration) : (s.setCal x).coupling = s.coupling := rfl
@[simp] theorem setCal_table (x : Calibration) : (s.setCal x).table = s.table := rfl
@[simp] theorem setCal_lum (x : Calibration) : (s.setCal x).lum = s.lum := rfl
@[simp] theorem setCal_energy (x : Calibration) : (s.setCal x).energy = s.energy := rfl
@[simp] theorem setCal_cal (x : Calibration) : (s.setCal x).cal = x := rfl

/-! ## The table's entries, one configuration record, one controller record -/

@[simp] theorem setEntries_pending (t : List Entry) : (setEntries t s).pending = s.pending := rfl
@[simp] theorem setEntries_ports (t : List Entry) : (setEntries t s).ports = s.ports := rfl
@[simp] theorem setEntries_layout (t : List Entry) : (setEntries t s).layout = s.layout := rfl
@[simp] theorem setEntries_ctrls (t : List Entry) : (setEntries t s).ctrls = s.ctrls := rfl
@[simp] theorem setEntries_sensors (t : List Entry) : (setEntries t s).sensors = s.sensors := rfl
@[simp] theorem setEntries_coupling (t : List Entry) : (setEntries t s).coupling = s.coupling := rfl
@[simp] theorem setEntries_table (t : List Entry) : (setEntries t s).table = { s.table with entries := t } := rfl
@[simp] theorem setEntries_lum (t : List Entry) : (setEntries t s).lum = s.lum := rfl
@[simp] theorem setEntries_energy (t : List Entry) : (setEntries t s).energy = s.energy := rfl
@[simp] theorem setEntries_cal (t : List Entry) : (setEntries t s).cal = s.cal := rfl

@[simp] theorem updSeg_pending (i : SegId) (f : SegConfig → SegConfig) : (updSeg i f s).pending = s.pending := rfl
@[simp] theorem updSeg_ports (i : SegId) (f : SegConfig → SegConfig) : (updSeg i f s).ports = s.ports := rfl
@[simp] theorem updSeg_layout (i : SegId) (f : SegConfig → SegConfig) : (updSeg i f s).layout = { s.layout with segs := updAt s.layout.segs i f } := rfl
@[simp] theorem updSeg_ctrls (i : SegId) (f : SegConfig → SegConfig) : (updSeg i f s).ctrls = s.ctrls := rfl
@[simp] theorem updSeg_sensors (i : SegId) (f : SegConfig → SegConfig) : (updSeg i f s).sensors = s.sensors := rfl
@[simp] theorem updSeg_coupling (i : SegId) (f : SegConfig → SegConfig) : (updSeg i f s).coupling = s.coupling := rfl
@[simp] theorem updSeg_table (i : SegId) (f : SegConfig → SegConfig) : (updSeg i f s).table = s.table := rfl
@[simp] theorem updSeg_lum (i : SegId) (f : SegConfig → SegConfig) : (updSeg i f s).lum = s.lum := rfl
@[simp] theorem updSeg_energy (i : SegId) (f : SegConfig → SegConfig) : (updSeg i f s).energy = s.energy := rfl
@[simp] theorem updSeg_cal (i : SegId) (f : SegConfig → SegConfig) : (updSeg i f s).cal = s.cal := rfl

@[simp] theorem updCtrl_pending (i : SegId) (f : Ctrl → Ctrl) : (updCtrl i f s).pending = s.pending := rfl
@[simp] theorem updCtrl_ports (i : SegId) (f : Ctrl → Ctrl) : (updCtrl i f s).ports = s.ports := rfl
@[simp] theorem updCtrl_layout (i : SegId) (f : Ctrl → Ctrl) : (updCtrl i f s).layout = s.layout := rfl
@[simp] theorem updCtrl_ctrls (i : SegId) (f : Ctrl → Ctrl) : (updCtrl i f s).ctrls = updAt s.ctrls i f := rfl
@[simp] theorem updCtrl_sensors (i : SegId) (f : Ctrl → Ctrl) : (updCtrl i f s).sensors = s.sensors := rfl
@[simp] theorem updCtrl_coupling (i : SegId) (f : Ctrl → Ctrl) : (updCtrl i f s).coupling = s.coupling := rfl
@[simp] theorem updCtrl_table (i : SegId) (f : Ctrl → Ctrl) : (updCtrl i f s).table = s.table := rfl
@[simp] theorem updCtrl_lum (i : SegId) (f : Ctrl → Ctrl) : (updCtrl i f s).lum = s.lum := rfl
@[simp] theorem updCtrl_energy (i : SegId) (f : Ctrl → Ctrl) : (updCtrl i f s).energy = s.energy := rfl
@[simp] theorem updCtrl_cal (i : SegId) (f : Ctrl → Ctrl) : (updCtrl i f s).cal = s.cal := rfl

/-! ## The link, the run, a segment event, LINK_CHANGE, a reply -/

@[simp] theorem setLink_pending (k : Link) : (setLink k s).pending = s.pending := rfl
@[simp] theorem setLink_ports (k : Link) : (setLink k s).ports = s.ports := rfl
@[simp] theorem setLink_layout (k : Link) : (setLink k s).layout = s.layout := rfl
@[simp] theorem setLink_ctrls (k : Link) : (setLink k s).ctrls = s.ctrls := rfl
@[simp] theorem setLink_sensors (k : Link) : (setLink k s).sensors = s.sensors := rfl
@[simp] theorem setLink_coupling (k : Link) : (setLink k s).coupling = s.coupling := rfl
@[simp] theorem setLink_table (k : Link) : (setLink k s).table = s.table := rfl
@[simp] theorem setLink_lum (k : Link) : (setLink k s).lum = { s.lum with link := k } := rfl
@[simp] theorem setLink_energy (k : Link) : (setLink k s).energy = s.energy := rfl
@[simp] theorem setLink_cal (k : Link) : (setLink k s).cal = s.cal := rfl

@[simp] theorem setRun_pending (r : CalRun) : (setRun r s).pending = s.pending := rfl
@[simp] theorem setRun_ports (r : CalRun) : (setRun r s).ports = s.ports := rfl
@[simp] theorem setRun_layout (r : CalRun) : (setRun r s).layout = s.layout := rfl
@[simp] theorem setRun_ctrls (r : CalRun) : (setRun r s).ctrls = s.ctrls := rfl
@[simp] theorem setRun_sensors (r : CalRun) : (setRun r s).sensors = s.sensors := rfl
@[simp] theorem setRun_coupling (r : CalRun) : (setRun r s).coupling = s.coupling := rfl
@[simp] theorem setRun_table (r : CalRun) : (setRun r s).table = s.table := rfl
@[simp] theorem setRun_lum (r : CalRun) : (setRun r s).lum = s.lum := rfl
@[simp] theorem setRun_energy (r : CalRun) : (setRun r s).energy = s.energy := rfl
@[simp] theorem setRun_cal (r : CalRun) : (setRun r s).cal = { s.cal with run := some r } := rfl

@[simp] theorem raiseEvent_pending (i : SegId) (e : SegEvent) : (raiseEvent i e s).pending = s.pending := rfl
@[simp] theorem raiseEvent_ports (i : SegId) (e : SegEvent) : (raiseEvent i e s).ports = offerEvent i e s.ports := rfl
@[simp] theorem raiseEvent_layout (i : SegId) (e : SegEvent) : (raiseEvent i e s).layout = s.layout := rfl
@[simp] theorem raiseEvent_ctrls (i : SegId) (e : SegEvent) : (raiseEvent i e s).ctrls = s.ctrls := rfl
@[simp] theorem raiseEvent_sensors (i : SegId) (e : SegEvent) : (raiseEvent i e s).sensors = s.sensors := rfl
@[simp] theorem raiseEvent_coupling (i : SegId) (e : SegEvent) : (raiseEvent i e s).coupling = s.coupling := rfl
@[simp] theorem raiseEvent_table (i : SegId) (e : SegEvent) : (raiseEvent i e s).table = s.table := rfl
@[simp] theorem raiseEvent_lum (i : SegId) (e : SegEvent) : (raiseEvent i e s).lum = s.lum := rfl
@[simp] theorem raiseEvent_energy (i : SegId) (e : SegEvent) : (raiseEvent i e s).energy = s.energy := rfl
@[simp] theorem raiseEvent_cal (i : SegId) (e : SegEvent) : (raiseEvent i e s).cal = s.cal := rfl

@[simp] theorem raiseLinkChange_pending : (raiseLinkChange s).pending = s.pending := rfl
@[simp] theorem raiseLinkChange_ports : (raiseLinkChange s).ports = raiseAll .linkChange s.ports := rfl
@[simp] theorem raiseLinkChange_layout : (raiseLinkChange s).layout = s.layout := rfl
@[simp] theorem raiseLinkChange_ctrls : (raiseLinkChange s).ctrls = s.ctrls := rfl
@[simp] theorem raiseLinkChange_sensors : (raiseLinkChange s).sensors = s.sensors := rfl
@[simp] theorem raiseLinkChange_coupling : (raiseLinkChange s).coupling = s.coupling := rfl
@[simp] theorem raiseLinkChange_table : (raiseLinkChange s).table = s.table := rfl
@[simp] theorem raiseLinkChange_lum : (raiseLinkChange s).lum = s.lum := rfl
@[simp] theorem raiseLinkChange_energy : (raiseLinkChange s).energy = s.energy := rfl
@[simp] theorem raiseLinkChange_cal : (raiseLinkChange s).cal = s.cal := rfl

@[simp] theorem placeReply_pending (p : PortId) (r : Request) (st : Status) (l : List Byte) :
    (placeReply p r st l s).pending = s.pending := rfl
@[simp] theorem placeReply_ports (p : PortId) (r : Request) (st : Status) (l : List Byte) :
    (placeReply p r st l s).ports = updAt s.ports p (placeReplyAt (kindOf r.body) r.tag st l) := rfl
@[simp] theorem placeReply_layout (p : PortId) (r : Request) (st : Status) (l : List Byte) :
    (placeReply p r st l s).layout = s.layout := rfl
@[simp] theorem placeReply_ctrls (p : PortId) (r : Request) (st : Status) (l : List Byte) :
    (placeReply p r st l s).ctrls = s.ctrls := rfl
@[simp] theorem placeReply_sensors (p : PortId) (r : Request) (st : Status) (l : List Byte) :
    (placeReply p r st l s).sensors = s.sensors := rfl
@[simp] theorem placeReply_coupling (p : PortId) (r : Request) (st : Status) (l : List Byte) :
    (placeReply p r st l s).coupling = s.coupling := rfl
@[simp] theorem placeReply_table (p : PortId) (r : Request) (st : Status) (l : List Byte) :
    (placeReply p r st l s).table = s.table := rfl
@[simp] theorem placeReply_lum (p : PortId) (r : Request) (st : Status) (l : List Byte) :
    (placeReply p r st l s).lum = s.lum := rfl
@[simp] theorem placeReply_energy (p : PortId) (r : Request) (st : Status) (l : List Byte) :
    (placeReply p r st l s).energy = s.energy := rfl
@[simp] theorem placeReply_cal (p : PortId) (r : Request) (st : Status) (l : List Byte) :
    (placeReply p r st l s).cal = s.cal := rfl

@[simp] theorem atPort_pending (p : PortId) (f : Port → Port) : (atPort p f s).pending = s.pending := rfl
@[simp] theorem atPort_ports (p : PortId) (f : Port → Port) : (atPort p f s).ports = s.ports.set p (f s.ports[p]) := rfl
@[simp] theorem atPort_layout (p : PortId) (f : Port → Port) : (atPort p f s).layout = s.layout := rfl
@[simp] theorem atPort_ctrls (p : PortId) (f : Port → Port) : (atPort p f s).ctrls = s.ctrls := rfl
@[simp] theorem atPort_sensors (p : PortId) (f : Port → Port) : (atPort p f s).sensors = s.sensors := rfl
@[simp] theorem atPort_coupling (p : PortId) (f : Port → Port) : (atPort p f s).coupling = s.coupling := rfl
@[simp] theorem atPort_table (p : PortId) (f : Port → Port) : (atPort p f s).table = s.table := rfl
@[simp] theorem atPort_lum (p : PortId) (f : Port → Port) : (atPort p f s).lum = s.lum := rfl
@[simp] theorem atPort_energy (p : PortId) (f : Port → Port) : (atPort p f s).energy = s.energy := rfl
@[simp] theorem atPort_cal (p : PortId) (f : Port → Port) : (atPort p f s).cal = s.cal := rfl

end

/-! ## The luminaire side -/

section
variable (l : Lum)

@[simp] theorem updGroup_groups (g : GroupId) (f : Group → Group) :
    (updGroup g f l).groups = updAt l.groups g (Option.map f) := rfl
@[simp] theorem updGroup_link (g : GroupId) (f : Group → Group) : (updGroup g f l).link = l.link := rfl
@[simp] theorem appendLevel_groups (g : GroupId) (n : Nat) : (appendLevel g n l).groups = l.groups := rfl
@[simp] theorem setUnsent_link (b : Bool) : (setUnsent b l).link = l.link := rfl

end

/-! ## One record of a vector -/

section
variable {α : Type} {n : Nat} (v : Vector α n)

@[simp] theorem updAt_getElem (i : Fin n) (f : α → α) (k : Nat) (hk : k < n) :
    (updAt v i f)[k] = if i.val = k then f v[k] else v[k] := by
  by_cases h : i.val = k
  · subst h; simp [updAt]
  · simp [updAt, h]

theorem updAt_get (i j : Fin n) (f : α → α) : (updAt v i f)[j] = if i = j then f v[j] else v[j] := by
  simp [Fin.ext_iff]

theorem set_get (i j : Fin n) (x : α) : (v.set i x)[j] = if i = j then x else v[j] := by
  simp [Vector.getElem_set, Fin.ext_iff]

/-- Two vectors with the same records are equal. -/
theorem vector_ext {v w : Vector α n} (h : ∀ i : Fin n, v[i] = w[i]) : v = w :=
  Vector.ext fun i hi => h ⟨i, hi⟩

theorem ofFn_get (f : Fin n → α) (i : Fin n) : (Vector.ofFn f)[i] = f i := by simp

end

end Sys2Proof.Laws
end

