-- ==== Sys2Proof/Laws/Frames.lean ====
section
/-! SUPPORT. Masks, bytes and frames: what membership, lengths and the check byte come to. -/

namespace Sys2Proof.Laws

open Sys2Proof Sys2Proof.Machine Sys2Proof.Safety

/-! ## Masks (R176) -/

@[simp] theorem maskHas_and (a b : SegMask) (i : SegId) : maskHas (a &&& b) i = (maskHas a i && maskHas b i) := by
  simp [maskHas]

@[simp] theorem maskHas_or (a b : SegMask) (i : SegId) : maskHas (a ||| b) i = (maskHas a i || maskHas b i) := by
  simp [maskHas]

@[simp] theorem maskHas_zero (i : SegId) : maskHas 0#16 i = false := by simp [maskHas]

@[simp] theorem maskHas_minus (a b : SegMask) (i : SegId) : maskHas (maskMinus a b) i = (maskHas a i && !maskHas b i) := by
  simp [maskMinus, maskHas, i.isLt]

@[simp] theorem maskHas_maskOf (i j : SegId) : maskHas (maskOf i) j = decide (i = j) := by
  revert i j; decide

/-- Two masks with the same segments are the same. -/
theorem mask_ext {a b : SegMask} (h : ∀ i : SegId, maskHas a i = maskHas b i) : a = b :=
  BitVec.eq_of_getLsbD_eq fun i hi => h ⟨i, hi⟩

/-- A mask is empty exactly when it has no segment. -/
theorem mask_eq_zero {a : SegMask} : a = 0 ↔ ∀ i : SegId, maskHas a i = false :=
  ⟨fun h i => by subst h; simp, fun h => mask_ext fun i => by rw [h i]; exact (maskHas_zero i).symm⟩

/-- The mask of a test has the segments that satisfy it. -/
@[simp] theorem maskHas_maskWhere (f : SegId → Bool) (i : SegId) : maskHas (maskWhere f) i = f i := by
  have key : ∀ (l : List SegId) (m : SegMask),
      maskHas (l.foldl (fun m i => if f i then m ||| maskOf i else m) m) i = (maskHas m i || (decide (i ∈ l) && f i)) := by
    intro l
    induction l with
    | nil => simp
    | cons j l ih =>
      intro m
      rw [List.foldl_cons, ih]
      by_cases hj : i = j
      · subst hj; cases f i <;> simp
      · have hj' : ¬ j = i := fun e => hj e.symm
        cases f j <;> simp [hj, hj']
  simp [maskWhere, key]

/-- The mask that a list of entries covers has the segments of its entries' masks. -/
theorem maskHas_foldl (t : List Entry) (m : SegMask) (i : SegId) :
    maskHas (t.foldl (fun a e => a ||| e.mask) m) i = (maskHas m i || t.any fun e => maskHas e.mask i) := by
  induction t generalizing m with
  | nil => simp
  | cons e t ih => simp [ih, Bool.or_assoc]

@[simp] theorem maskHas_configuredMask (s : State) (i : SegId) : maskHas (configuredMask s) i = configured s i := by
  simp [configuredMask]

@[simp] theorem mem_maskSegs {m : SegMask} {i : SegId} : i ∈ maskSegs m ↔ maskHas m i = true := by simp [maskSegs]

/-- The segments of a mask come once each. -/
theorem nodup_maskSegs (m : SegMask) : (maskSegs m).Nodup := (List.nodup_finRange 16).filter _

/-! ## Numbers -/

@[simp] theorem segOf_groupOf (i : SegId) (b : BandId) : segOf (groupOf i b) = i := by
  apply Fin.ext; simp [segOf, groupOf]; omega

@[simp] theorem bandOf_groupOf (i : SegId) (b : BandId) : bandOf (groupOf i b) = b := by
  apply Fin.ext; simp [bandOf, groupOf]

@[simp] theorem groupOf_segOf (g : GroupId) : groupOf (segOf g) (bandOf g) = g := by
  apply Fin.ext; simp [segOf, bandOf, groupOf]; omega

@[simp] theorem segId?_val (i : SegId) : segId? i.val = some i := by simp [segId?]
@[simp] theorem sensorId?_val (k : SensorId) : sensorId? k.val = some k := by simp [sensorId?]
@[simp] theorem groupId?_val (g : GroupId) : groupId? g.val = some g := by simp [groupId?]
@[simp] theorem bandId?_val (b : BandId) : bandId? b.val = some b := by simp [bandId?]

theorem segId?_none {n : Nat} (h : 16 ≤ n) : segId? n = none := by simp [segId?, h]
theorem sensorId?_none {n : Nat} (h : 32 ≤ n) : sensorId? n = none := by simp [sensorId?, h]
theorem groupId?_none {n : Nat} (h : 48 ≤ n) : groupId? n = none := by simp [groupId?, h]

/-- A value clamped into a range is the nearer end outside it. -/
theorem clampTo_eq {lo hi : Nat} (h : lo ≤ hi) (n : Nat) : clampTo lo hi n = max lo (min n hi) := by
  unfold clampTo; split
  · omega
  · split <;> omega

/-! ## Bytes and frames (R153, R156, R176) -/

@[simp] theorem length_beBytes (k n : Nat) : (beBytes k n).length = k := by
  induction k with
  | zero => rfl
  | succ k ih => simp [beBytes, ih]

@[simp] theorem length_withCheck (l : List Byte) : (withCheck l).length = l.length + 1 := by simp [withCheck]

/-- The eight bits of a byte, most significant first, give the byte back (R153). -/
theorem byteOfBits_bits (x : Byte) : byteOfBits ((List.finRange 8).map fun i => x.getMsbD i.val) = x := by
  have h : ∀ n : Fin (2 ^ 8), byteOfBits ((List.finRange 8).map fun i => (BitVec.ofFin (w := 8) n).getMsbD i.val) = BitVec.ofFin (w := 8) n := by
    decide +kernel
  exact h x.toFin

/-- Bits that do not fill a byte give no byte (R153). -/
theorem bytesOfBits_short {cut : List Bool} (h : cut.length < 8) : bytesOfBits cut = [] := by
  match cut with
  | [] | [_] | [_, _] | [_, _, _] | [_, _, _, _] | [_, _, _, _, _] | [_, _, _, _, _, _] | [_, _, _, _, _, _, _] => rfl
  | _ :: _ :: _ :: _ :: _ :: _ :: _ :: _ :: _ => simp only [List.length_cons] at h; omega

/-- Bytes shifted most significant bit first are received as they were sent, and the bits of a byte cut short are discarded
(R153). -/
@[simp] theorem bytesOfBits_append {cut : List Bool} (h : cut.length < 8) (l : List Byte) :
    bytesOfBits (bitsOfBytes l ++ cut) = l := by
  induction l with
  | nil => exact bytesOfBits_short h
  | cons x l ih =>
    have e : bytesOfBits (bitsOfBytes (x :: l) ++ cut) =
        byteOfBits ((List.finRange 8).map fun i => x.getMsbD i.val) :: bytesOfBits (bitsOfBytes l ++ cut) := rfl
    rw [e, ih, byteOfBits_bits]
/-- The register after more bytes. -/
theorem crc8_append (l k : List Byte) : crc8 (l ++ k) = k.foldl crcByte (crc8 l) := by simp [crc8]

/-- A reply frame has the length of its kind where its payload has that of the kind (R177). -/
theorem length_replyFrame (k : Kind) (tag : Byte) (st : Status) (l : List Byte) (h : l.length + 4 = replyLength k) :
    (replyFrame k tag st l).length = replyLength k := by
  unfold replyFrame
  split <;> simp <;> omega

end Sys2Proof.Laws
end

