-- ==== Sys2Proof/Laws/Fading.lean ====
section
/-! SUPPORT. What the operations over the group table and the luminaire link can do: the arbiter, the placing of a level, a
hand-over, a new demand. -/

namespace Sys2Proof.Laws

open Sys2Proof Sys2Proof.Machine Sys2Proof.Safety

/-! ## The arbiter (R117) -/

/-- Everything the arbiter can do: nothing, the query that waits, or the head of the queue. -/
theorem arbitrate_cases (k : Link) :
    (arbitrate k = k ∧ (sends k = false ∨ k.tx ≠ none ∨ k.queue = [] ∧ queryWaits k = false)) ∨
    (sends k = true ∧ k.tx = none ∧ queryWaits k = true ∧ (k.queue = [] ∨ k.lastGrant = .level) ∧
      arbitrate k = { k with tx := some (.query k.record.group k.record.item true), lastGrant := .query }) ∨
    ∃ g n rest, sends k = true ∧ k.tx = none ∧ k.queue = (g, n) :: rest ∧ (queryWaits k = false ∨ k.lastGrant = .query) ∧
      arbitrate k = { k with tx := some (.setLevel g n true), queue := rest, lastGrant := .level } := by
  unfold arbitrate
  by_cases hs : sends k = true
  · cases htx : k.tx with
    | some t => left; simp
    | none =>
      simp only [hs, Option.isNone_none, Bool.and_self, if_true, grant]
      cases hq : k.queue with
      | nil => cases hw : queryWaits k <;> simp
      | cons e rest =>
        obtain ⟨g, n⟩ := e
        cases hw : queryWaits k <;> cases hl : k.lastGrant <;> simp
  · left; simp at hs; simp [hs]

@[simp] theorem arbitrate_state (k : Link) : (arbitrate k).state = k.state := by
  rcases arbitrate_cases k with h | h | ⟨_, _, _, h⟩ <;> simp [h]
@[simp] theorem arbitrate_unit (k : Link) : (arbitrate k).unit = k.unit := by
  rcases arbitrate_cases k with h | h | ⟨_, _, _, h⟩ <;> simp [h]
@[simp] theorem arbitrate_record (k : Link) : (arbitrate k).record = k.record := by
  rcases arbitrate_cases k with h | h | ⟨_, _, _, h⟩ <;> simp [h]
@[simp] theorem arbitrate_pauseInForce (k : Link) : (arbitrate k).pauseInForce = k.pauseInForce := by
  rcases arbitrate_cases k with h | h | ⟨_, _, _, h⟩ <;> simp [h]
@[simp] theorem arbitrate_faultReported (k : Link) : (arbitrate k).faultReported = k.faultReported := by
  rcases arbitrate_cases k with h | h | ⟨_, _, _, h⟩ <;> simp [h]

/-- Where the state does not send, the arbiter leaves the link as it is. -/
theorem arbitrate_idle {k : Link} (h : sends k = false) : arbitrate k = k := by simp [arbitrate, h]

/-! ## Placing a level (R115) -/

/-- Everything the placing of a level can do. -/
theorem placeLevel_cases (g : GroupId) (n : Nat) (l : Lum) :
    (queued l.link g = true ∧ placeLevel g n l = { l with link := { l.link with queue := coalesce g n l.link.queue } }) ∨
    (queued l.link g = false ∧ (l.groups[g] = none ∨ ∃ r, l.groups[g] = some r ∧ r.unsent = true) ∧ placeLevel g n l = l) ∨
    ∃ r, queued l.link g = false ∧ l.groups[g] = some r ∧ r.unsent = false ∧
      ((l.link.state = .running ∨ l.link.state = .down) ∧ placeLevel g n l = appendLevel g n l ∨
       (l.link.state = .draining ∨ l.link.state = .paused) ∧
        placeLevel g n l = updGroup g (fun r => { r with unsent := true }) l) := by
  unfold placeLevel
  cases hq : queued l.link g
  · right
    cases hr : l.groups[g] with
    | none => left; simp
    | some r =>
      cases hu : r.unsent
      · right; refine ⟨r, rfl, rfl, hu, ?_⟩
        cases hs : l.link.state <;> simp [hu]
      · left; simp [hu]
  · left; simp

@[simp] theorem placeLevel_state (g : GroupId) (n : Nat) (l : Lum) : (placeLevel g n l).link.state = l.link.state := by
  rcases placeLevel_cases g n l with ⟨_, h⟩ | ⟨_, _, h⟩ | ⟨r, _, _, _, ⟨_, h⟩ | ⟨_, h⟩⟩ <;> simp [h, appendLevel]
@[simp] theorem placeLevel_unit (g : GroupId) (n : Nat) (l : Lum) : (placeLevel g n l).link.unit = l.link.unit := by
  rcases placeLevel_cases g n l with ⟨_, h⟩ | ⟨_, _, h⟩ | ⟨r, _, _, _, ⟨_, h⟩ | ⟨_, h⟩⟩ <;> simp [h, appendLevel]
@[simp] theorem placeLevel_record (g : GroupId) (n : Nat) (l : Lum) : (placeLevel g n l).link.record = l.link.record := by
  rcases placeLevel_cases g n l with ⟨_, h⟩ | ⟨_, _, h⟩ | ⟨r, _, _, _, ⟨_, h⟩ | ⟨_, h⟩⟩ <;> simp [h, appendLevel]
@[simp] theorem placeLevel_pauseInForce (g : GroupId) (n : Nat) (l : Lum) :
    (placeLevel g n l).link.pauseInForce = l.link.pauseInForce := by
  rcases placeLevel_cases g n l with ⟨_, h⟩ | ⟨_, _, h⟩ | ⟨r, _, _, _, ⟨_, h⟩ | ⟨_, h⟩⟩ <;> simp [h, appendLevel]
@[simp] theorem placeLevel_faultReported (g : GroupId) (n : Nat) (l : Lum) :
    (placeLevel g n l).link.faultReported = l.link.faultReported := by
  rcases placeLevel_cases g n l with ⟨_, h⟩ | ⟨_, _, h⟩ | ⟨r, _, _, _, ⟨_, h⟩ | ⟨_, h⟩⟩ <;> simp [h, appendLevel]

/-- Placing a level can set the group's unsent flag, and changes no other record. -/
theorem placeLevel_groups (g : GroupId) (n : Nat) (l : Lum) :
    (placeLevel g n l).groups = updAt l.groups g (Option.map fun r =>
      { r with unsent := r.unsent || (!queued l.link g && (l.link.state == .draining || l.link.state == .paused)) }) := by
  have same : ∀ f : Group → Group, (∀ r, l.groups[g] = some r → f r = r) → updAt l.groups g (Option.map f) = l.groups := by
    intro f hf
    apply vector_ext; intro j; rw [updAt_get]
    split
    · rename_i e; subst e
      cases hr : l.groups[g] with
      | none => rfl
      | some r => simp [hf r hr]
    · rfl
  rcases placeLevel_cases g n l with ⟨hq, h⟩ | ⟨hq, hr, h⟩ | ⟨r, hq, hr, hu, ⟨hs, h⟩ | ⟨hs, h⟩⟩ <;> rw [h]
  · exact (same _ fun r _ => by simp [hq]).symm
  · refine (same _ fun r e => ?_).symm
    rcases hr with hr | ⟨r', hr, hu⟩
    · rw [hr] at e; cases e
    · rw [hr] at e; cases e; cases r; simp_all
  · refine (same _ fun r' e => ?_).symm
    rcases hs with hs | hs <;> cases r' <;> simp [hs]
  · rcases hs with hs | hs <;> simp [hq, hs]

/-! ## Hand-over and demand (R98, R101) -/

/-- A hand-over writes the group's present level, may set its unsent flag, and changes no other record. -/
theorem handOver_groups (g : GroupId) (n : Nat) (l : Lum) :
    (handOver g n l).groups = updAt l.groups g (Option.map fun r =>
      { r with
        present := n
        unsent := r.unsent || (!queued l.link g && (l.link.state == .draining || l.link.state == .paused)) }) := by
  rw [handOver, placeLevel_groups]
  apply vector_ext; intro j
  simp only [updAt_get, updGroup_groups, updGroup_link]
  split
  · cases l.groups[j] <;> simp
  · rfl

@[simp] theorem handOver_state (g : GroupId) (n : Nat) (l : Lum) : (handOver g n l).link.state = l.link.state := by
  simp [handOver]
@[simp] theorem handOver_unit (g : GroupId) (n : Nat) (l : Lum) : (handOver g n l).link.unit = l.link.unit := by
  simp [handOver]
@[simp] theorem handOver_record (g : GroupId) (n : Nat) (l : Lum) : (handOver g n l).link.record = l.link.record := by
  simp [handOver]
@[simp] theorem handOver_pauseInForce (g : GroupId) (n : Nat) (l : Lum) :
    (handOver g n l).link.pauseInForce = l.link.pauseInForce := by simp [handOver]
@[simp] theorem handOver_faultReported (g : GroupId) (n : Nat) (l : Lum) :
    (handOver g n l).link.faultReported = l.link.faultReported := by simp [handOver]

/-- Everything a new demand can do: nothing, a retarget alone, or a retarget with the timer started and one step. -/
theorem demand_cases (z : StepSizes) (g : GroupId) (n : Nat) (l : Lum) :
    (demand z g n l = l ∧ (l.groups[g] = none ∨ ∃ r, l.groups[g] = some r ∧ r.demanded = n)) ∨
    ∃ r, l.groups[g] = some r ∧ r.demanded ≠ n ∧
      ((r.timer = true ∨ r.present = n) ∧ demand z g n l = updGroup g (fun r => { r with demanded := n }) l ∨
       r.timer = false ∧ r.present ≠ n ∧
        demand z g n l = handOver g (stepLevel z r.present n)
          (updGroup g (fun r => { r with timer := true }) (updGroup g (fun r => { r with demanded := n }) l))) := by
  unfold demand
  cases hr : l.groups[g] with
  | none => left; simp
  | some r =>
    by_cases hd : r.demanded = n
    · left; simp [hd]
    · right; refine ⟨r, rfl, hd, ?_⟩
      cases ht : r.timer
      · by_cases hp : r.present = n <;> simp [hd, hp, ht]
      · simp [hd, ht]

/-- A new demand changes no other group's record. -/
theorem demand_other (z : StepSizes) (g j : GroupId) (n : Nat) (l : Lum) (h : g ≠ j) :
    (demand z g n l).groups[j] = l.groups[j] := by
  rcases demand_cases z g n l with ⟨e, _⟩ | ⟨r, _, _, ⟨_, e⟩ | ⟨_, _, e⟩⟩ <;> rw [e]
  · rw [updGroup_groups, updAt_get, if_neg h]
  · rw [handOver_groups, updAt_get, if_neg h, updGroup_groups, updAt_get, if_neg h, updGroup_groups, updAt_get, if_neg h]

/-- After a new demand the group's demanded level is the one handed over. -/
theorem demand_demanded (z : StepSizes) (g : GroupId) (n : Nat) (l : Lum) :
    ∀ r ∈ (demand z g n l).groups[g], r.demanded = n := by
  intro r hr
  rcases demand_cases z g n l with ⟨e, h⟩ | ⟨r0, h0, _, ⟨_, e⟩ | ⟨_, _, e⟩⟩ <;> rw [e] at hr
  · rcases h with h | ⟨r0, h, hd⟩ <;> rw [h] at hr <;> cases hr; exact hd
  · rw [updGroup_groups, updAt_get, if_pos rfl, h0] at hr; cases hr; rfl
  · rw [handOver_groups, updAt_get, if_pos rfl, updGroup_groups, updAt_get, if_pos rfl, updGroup_groups, updAt_get,
      if_pos rfl, h0] at hr
    cases hr; rfl

/-- A new demand creates and removes no group. -/
theorem demand_exists (z : StepSizes) (g j : GroupId) (n : Nat) (l : Lum) :
    groupExists (demand z g n l) j = groupExists l j := by
  unfold groupExists
  by_cases h : g = j
  · subst h
    rcases demand_cases z g n l with ⟨e, _⟩ | ⟨r, h0, _, ⟨_, e⟩ | ⟨_, _, e⟩⟩ <;> rw [e]
    · rw [updGroup_groups, updAt_get, if_pos rfl, h0]; rfl
    · rw [handOver_groups, updAt_get, if_pos rfl, updGroup_groups, updAt_get, if_pos rfl, updGroup_groups, updAt_get,
        if_pos rfl, h0]; rfl
  · rw [demand_other z g j n l h]

@[simp] theorem demand_state (z : StepSizes) (g : GroupId) (n : Nat) (l : Lum) :
    (demand z g n l).link.state = l.link.state := by
  rcases demand_cases z g n l with ⟨e, _⟩ | ⟨r, _, _, ⟨_, e⟩ | ⟨_, _, e⟩⟩ <;> simp [e]
@[simp] theorem demand_unit (z : StepSizes) (g : GroupId) (n : Nat) (l : Lum) :
    (demand z g n l).link.unit = l.link.unit := by
  rcases demand_cases z g n l with ⟨e, _⟩ | ⟨r, _, _, ⟨_, e⟩ | ⟨_, _, e⟩⟩ <;> simp [e]
@[simp] theorem demand_record (z : StepSizes) (g : GroupId) (n : Nat) (l : Lum) :
    (demand z g n l).link.record = l.link.record := by
  rcases demand_cases z g n l with ⟨e, _⟩ | ⟨r, _, _, ⟨_, e⟩ | ⟨_, _, e⟩⟩ <;> simp [e]
@[simp] theorem demand_pauseInForce (z : StepSizes) (g : GroupId) (n : Nat) (l : Lum) :
    (demand z g n l).link.pauseInForce = l.link.pauseInForce := by
  rcases demand_cases z g n l with ⟨e, _⟩ | ⟨r, _, _, ⟨_, e⟩ | ⟨_, _, e⟩⟩ <;> simp [e]
@[simp] theorem demand_faultReported (z : StepSizes) (g : GroupId) (n : Nat) (l : Lum) :
    (demand z g n l).link.faultReported = l.link.faultReported := by
  rcases demand_cases z g n l with ⟨e, _⟩ | ⟨r, _, _, ⟨_, e⟩ | ⟨_, _, e⟩⟩ <;> simp [e]

/-- A step never carries the level past the demanded level (R100). -/
theorem stepLevel_between (z : StepSizes) (a b : Nat) : min a b ≤ stepLevel z a b ∧ stepLevel z a b ≤ max a b := by
  unfold stepLevel; split <;> omega

/-! ## Hand-over and demand in the words of the statements (R98, R100, R115) -/

/-- The step of the model is that of R100. -/
theorem stepLevel_eq (z : StepSizes) (p n : Nat) : stepLevel z p n = oneStep z p n := by
  unfold stepLevel oneStep; split <;> omega

/-- Where a level that an existing group is handed goes (R115). -/
theorem placeLevel_link {g : GroupId} {l : Lum} {r : Group} (h : l.groups[g] = some r) (n : Nat) :
    (placeLevel g n l).link = placed r.unsent g n l.link := by
  unfold placeLevel placed
  cases hq : queued l.link g <;> cases hu : r.unsent <;> cases hs : l.link.state <;>
    simp [h, hu, hs, appendLevel, coalesce]

/-- A new demand changes the one group's record (R98). -/
theorem demand_groups (z : StepSizes) (g : GroupId) (n : Nat) (l : Lum) :
    (demand z g n l).groups = updAt l.groups g (Option.map (demandedGroup z g n l.link)) := by
  have key : ∀ r, l.groups[g] = some r → (demand z g n l).groups[g] = some (demandedGroup z g n l.link r) := by
    intro r hr
    have hr' : l.groups[g.val] = some r := hr
    rcases demand_cases z g n l with ⟨h, h0 | ⟨r', h0, hd⟩⟩ | ⟨r', h0, hd, ⟨hp, h⟩ | ⟨ht, hp, h⟩⟩
    · rw [hr] at h0; cases h0
    · rw [hr] at h0; cases h0
      rw [h, hr]; subst hd; simp [demandedGroup, stepsAtOnce]
    · rw [hr] at h0; cases h0
      rcases hp with hp | hp <;> simp [h, hr', demandedGroup, stepsAtOnce, hp]
    · rw [hr] at h0; cases h0
      simp [h, handOver_groups, hr', demandedGroup, stepsAtOnce, hp, ht, hd, stepLevel_eq]
  apply vector_ext; intro j; rw [updAt_get]
  split
  · rename_i e; subst e
    cases hr : l.groups[g] with
    | none =>
      rcases demand_cases z g n l with ⟨h, _⟩ | ⟨r', h0, _⟩
      · rw [h, hr]; rfl
      · rw [hr] at h0; cases h0
    | some r => rw [key r hr]; rfl
  · rename_i e; exact demand_other z g j n l e

/-- What a new demand hands to the link (R98, R101). -/
theorem demand_link (z : StepSizes) (g : GroupId) (n : Nat) (l : Lum) :
    (demand z g n l).link =
      match l.groups[g] with
      | none => l.link
      | some r => if stepsAtOnce n r then placed r.unsent g (oneStep z r.present n) l.link else l.link := by
  rcases demand_cases z g n l with ⟨h, h0 | ⟨r, h0, hd⟩⟩ | ⟨r, h0, hd, ⟨hp, h⟩ | ⟨ht, hp, h⟩⟩
  · simp [h, h0]
  · simp [h, h0, stepsAtOnce, hd]
  · rcases hp with hp | hp <;> simp [h, h0, stepsAtOnce, hp]
  · have h0' : l.groups[g.val] = some r := h0
    have e' : (handOver g (stepLevel z r.present n)
        (updGroup g (fun r => { r with timer := true }) (updGroup g (fun r => { r with demanded := n }) l))).link
        = placed r.unsent g (stepLevel z r.present n) l.link := by
      unfold handOver
      rw [placeLevel_link (r := { r with demanded := n, timer := true, present := stepLevel z r.present n }) (by simp [h0'])]
      rfl
    rw [h, e', h0]; simp [stepsAtOnce, hd, ht, hp, stepLevel_eq]

end Sys2Proof.Laws
end

