-- ==== Sys2Proof/Laws/PerInstr.lean ====
section
/-! SUPPORT. Facts about each command as syntax: a request command is the command of its kind, whose code and frame lengths
fit the frames of Section 11; an event is the command of no kind. -/

namespace Sys2Proof.Laws

open Sys2Proof Sys2Proof.Machine Sys2Proof.Safety

/-- The kind of the request that a command executes, none for an event. -/
def requestKind? (i : Instr) : Option Kind :=
  match i with
  | .powerOnReset _ _ _ => none
  | .selectAssert _ => none
  | .selectRelease _ _ => none
  | .nop _ => some .nop
  | .ident _ => some .ident
  | .causesRead _ => some .causesRead
  | .causesClear _ => some .causesClear
  | .enablesWrite _ => some .enablesWrite
  | .eventsRead _ => some .eventsRead
  | .segRead _ => some .segRead
  | .sensorRead _ => some .sensorRead
  | .tableRead _ => some .tableRead
  | .couplingRead _ => some .couplingRead
  | .queryResult _ => some .queryResult
  | .energyRead _ => some .energyRead
  | .calResultRead _ => some .calResultRead
  | .segDefine _ => some .segDefine
  | .segRemove _ => some .segRemove
  | .segTune _ => some .segTune
  | .bandSet _ => some .bandSet
  | .layoutLock _ => some .layoutLock
  | .couplingWrite _ => some .couplingWrite
  | .overrideSet _ => some .overrideSet
  | .overrideCancel _ => some .overrideCancel
  | .lockSet _ => some .lockSet
  | .lockRelease _ => some .lockRelease
  | .holdSet _ => some .holdSet
  | .holdSettled _ => some .holdSettled
  | .settleSet _ => some .settleSet
  | .capSet _ => some .capSet
  | .capCancel _ => some .capCancel
  | .calStart _ => some .calStart
  | .calAbort _ => some .calAbort
  | .linkPause _ => some .linkPause
  | .linkResume _ => some .linkResume
  | .groupClearFail _ => some .groupClearFail
  | .powerSet _ => some .powerSet
  | .energyClear _ => some .energyClear
  | .glareSet _ => some .glareSet
  | .queryDriver _ => some .queryDriver
  | .restart _ => some .restart
  | .roundTimerExpiry => none
  | .sensorReply _ _ _ _ => none
  | .replyWindowTimeout => none
  | .interByteGap => none
  | .turnaroundEnd => none
  | .pass _ => none
  | .fadeStep _ => none
  | .uptimeTick => none
  | .entryExpiry => none
  | .energyTick => none
  | .setLevelCompletion => none
  | .queryFrameCompletion => none
  | .answerWindowEnd _ => none
  | .busFault => none
  | .busRestoration => none
  | .calStageTimerExpiry => none

/-- A kind's code is read back as the kind, fits seven bits, and its frames have the lengths of Section 11's bounds (R177). -/
def KindLaw (k : Kind) : Prop :=
  kindOfCode? (kindCode k) = some k ∧ kindCode k < 128 ∧ 3 ≤ requestLength k ∧ requestLength k ≤ 24 ∧ 4 ≤ replyLength k ∧
    replyLength k ≤ 40

/-- Every kind keeps the law of codes and lengths. -/
theorem kindLaw (k : Kind) : KindLaw k := by cases k <;> simp only [KindLaw] <;> decide

namespace FrameLengths

/-- A request command is the command of its kind on its port, and the kind keeps the law of codes and lengths; an event is no
request command. -/
def Statement (i : Instr) : Prop :=
  match requestKind? i with
  | some k => KindLaw k ∧ ∃ p, i = requestCommand k p
  | none => ∀ k p, i ≠ requestCommand k p

end FrameLengths

theorem FrameLengths.powerOnReset (p0 : StrapPins) (p1 : StrapPins) (p2 : StrapPins) : FrameLengths.Statement (.powerOnReset p0 p1 p2) := by
  intro k p; cases k <;> simp [requestCommand]
theorem FrameLengths.selectAssert (port : PortId) : FrameLengths.Statement (.selectAssert port) := by
  intro k p; cases k <;> simp [requestCommand]
theorem FrameLengths.selectRelease (port : PortId) (clocked : Clocked) : FrameLengths.Statement (.selectRelease port clocked) := by
  intro k p; cases k <;> simp [requestCommand]
theorem FrameLengths.nop (port : PortId) : FrameLengths.Statement (.nop port) := ⟨kindLaw _, port, rfl⟩
theorem FrameLengths.ident (port : PortId) : FrameLengths.Statement (.ident port) := ⟨kindLaw _, port, rfl⟩
theorem FrameLengths.causesRead (port : PortId) : FrameLengths.Statement (.causesRead port) := ⟨kindLaw _, port, rfl⟩
theorem FrameLengths.causesClear (port : PortId) : FrameLengths.Statement (.causesClear port) := ⟨kindLaw _, port, rfl⟩
theorem FrameLengths.enablesWrite (port : PortId) : FrameLengths.Statement (.enablesWrite port) := ⟨kindLaw _, port, rfl⟩
theorem FrameLengths.eventsRead (port : PortId) : FrameLengths.Statement (.eventsRead port) := ⟨kindLaw _, port, rfl⟩
theorem FrameLengths.segRead (port : PortId) : FrameLengths.Statement (.segRead port) := ⟨kindLaw _, port, rfl⟩
theorem FrameLengths.sensorRead (port : PortId) : FrameLengths.Statement (.sensorRead port) := ⟨kindLaw _, port, rfl⟩
theorem FrameLengths.tableRead (port : PortId) : FrameLengths.Statement (.tableRead port) := ⟨kindLaw _, port, rfl⟩
theorem FrameLengths.couplingRead (port : PortId) : FrameLengths.Statement (.couplingRead port) := ⟨kindLaw _, port, rfl⟩
theorem FrameLengths.queryResult (port : PortId) : FrameLengths.Statement (.queryResult port) := ⟨kindLaw _, port, rfl⟩
theorem FrameLengths.energyRead (port : PortId) : FrameLengths.Statement (.energyRead port) := ⟨kindLaw _, port, rfl⟩
theorem FrameLengths.calResultRead (port : PortId) : FrameLengths.Statement (.calResultRead port) := ⟨kindLaw _, port, rfl⟩
theorem FrameLengths.segDefine (port : PortId) : FrameLengths.Statement (.segDefine port) := ⟨kindLaw _, port, rfl⟩
theorem FrameLengths.segRemove (port : PortId) : FrameLengths.Statement (.segRemove port) := ⟨kindLaw _, port, rfl⟩
theorem FrameLengths.segTune (port : PortId) : FrameLengths.Statement (.segTune port) := ⟨kindLaw _, port, rfl⟩
theorem FrameLengths.bandSet (port : PortId) : FrameLengths.Statement (.bandSet port) := ⟨kindLaw _, port, rfl⟩
theorem FrameLengths.layoutLock (port : PortId) : FrameLengths.Statement (.layoutLock port) := ⟨kindLaw _, port, rfl⟩
theorem FrameLengths.couplingWrite (port : PortId) : FrameLengths.Statement (.couplingWrite port) := ⟨kindLaw _, port, rfl⟩
theorem FrameLengths.overrideSet (port : PortId) : FrameLengths.Statement (.overrideSet port) := ⟨kindLaw _, port, rfl⟩
theorem FrameLengths.overrideCancel (port : PortId) : FrameLengths.Statement (.overrideCancel port) := ⟨kindLaw _, port, rfl⟩
theorem FrameLengths.lockSet (port : PortId) : FrameLengths.Statement (.lockSet port) := ⟨kindLaw _, port, rfl⟩
theorem FrameLengths.lockRelease (port : PortId) : FrameLengths.Statement (.lockRelease port) := ⟨kindLaw _, port, rfl⟩
theorem FrameLengths.holdSet (port : PortId) : FrameLengths.Statement (.holdSet port) := ⟨kindLaw _, port, rfl⟩
theorem FrameLengths.holdSettled (port : PortId) : FrameLengths.Statement (.holdSettled port) := ⟨kindLaw _, port, rfl⟩
theorem FrameLengths.settleSet (port : PortId) : FrameLengths.Statement (.settleSet port) := ⟨kindLaw _, port, rfl⟩
theorem FrameLengths.capSet (port : PortId) : FrameLengths.Statement (.capSet port) := ⟨kindLaw _, port, rfl⟩
theorem FrameLengths.capCancel (port : PortId) : FrameLengths.Statement (.capCancel port) := ⟨kindLaw _, port, rfl⟩
theorem FrameLengths.calStart (port : PortId) : FrameLengths.Statement (.calStart port) := ⟨kindLaw _, port, rfl⟩
theorem FrameLengths.calAbort (port : PortId) : FrameLengths.Statement (.calAbort port) := ⟨kindLaw _, port, rfl⟩
theorem FrameLengths.linkPause (port : PortId) : FrameLengths.Statement (.linkPause port) := ⟨kindLaw _, port, rfl⟩
theorem FrameLengths.linkResume (port : PortId) : FrameLengths.Statement (.linkResume port) := ⟨kindLaw _, port, rfl⟩
theorem FrameLengths.groupClearFail (port : PortId) : FrameLengths.Statement (.groupClearFail port) := ⟨kindLaw _, port, rfl⟩
theorem FrameLengths.powerSet (port : PortId) : FrameLengths.Statement (.powerSet port) := ⟨kindLaw _, port, rfl⟩
theorem FrameLengths.energyClear (port : PortId) : FrameLengths.Statement (.energyClear port) := ⟨kindLaw _, port, rfl⟩
theorem FrameLengths.glareSet (port : PortId) : FrameLengths.Statement (.glareSet port) := ⟨kindLaw _, port, rfl⟩
theorem FrameLengths.queryDriver (port : PortId) : FrameLengths.Statement (.queryDriver port) := ⟨kindLaw _, port, rfl⟩
theorem FrameLengths.restart (port : PortId) : FrameLengths.Statement (.restart port) := ⟨kindLaw _, port, rfl⟩
theorem FrameLengths.roundTimerExpiry : FrameLengths.Statement .roundTimerExpiry := by
  intro k p; cases k <;> simp [requestCommand]
theorem FrameLengths.sensorReply (valueHigh : Byte) (valueLow : Byte) (status : Byte) (check : Byte) : FrameLengths.Statement (.sensorReply valueHigh valueLow status check) := by
  intro k p; cases k <;> simp [requestCommand]
theorem FrameLengths.replyWindowTimeout : FrameLengths.Statement .replyWindowTimeout := by
  intro k p; cases k <;> simp [requestCommand]
theorem FrameLengths.interByteGap : FrameLengths.Statement .interByteGap := by
  intro k p; cases k <;> simp [requestCommand]
theorem FrameLengths.turnaroundEnd : FrameLengths.Statement .turnaroundEnd := by
  intro k p; cases k <;> simp [requestCommand]
theorem FrameLengths.pass (segment : SegId) : FrameLengths.Statement (.pass segment) := by
  intro k p; cases k <;> simp [requestCommand]
theorem FrameLengths.fadeStep (group : GroupId) : FrameLengths.Statement (.fadeStep group) := by
  intro k p; cases k <;> simp [requestCommand]
theorem FrameLengths.uptimeTick : FrameLengths.Statement .uptimeTick := by
  intro k p; cases k <;> simp [requestCommand]
theorem FrameLengths.entryExpiry : FrameLengths.Statement .entryExpiry := by
  intro k p; cases k <;> simp [requestCommand]
theorem FrameLengths.energyTick : FrameLengths.Statement .energyTick := by
  intro k p; cases k <;> simp [requestCommand]
theorem FrameLengths.setLevelCompletion : FrameLengths.Statement .setLevelCompletion := by
  intro k p; cases k <;> simp [requestCommand]
theorem FrameLengths.queryFrameCompletion : FrameLengths.Statement .queryFrameCompletion := by
  intro k p; cases k <;> simp [requestCommand]
theorem FrameLengths.answerWindowEnd (answer : Answer) : FrameLengths.Statement (.answerWindowEnd answer) := by
  intro k p; cases k <;> simp [requestCommand]
theorem FrameLengths.busFault : FrameLengths.Statement .busFault := by
  intro k p; cases k <;> simp [requestCommand]
theorem FrameLengths.busRestoration : FrameLengths.Statement .busRestoration := by
  intro k p; cases k <;> simp [requestCommand]
theorem FrameLengths.calStageTimerExpiry : FrameLengths.Statement .calStageTimerExpiry := by
  intro k p; cases k <;> simp [requestCommand]

end Sys2Proof.Laws
end

