-- ==== Sys2Proof/Laws/Requests.lean ====
section
/-! SUPPORT. What the execution of a request in a port's slot can do: `admission`, `serve`, `placeReply`, and the causes
and events a port records. -/

namespace Sys2Proof.Laws

open Sys2Proof Sys2Proof.Machine Sys2Proof.Safety

/-! ## Admission -/

/-- A role that may issue a kind is not OFF (R154, R163). -/
theorem mayIssue_ne_off {role : Role} {k : Kind} (h : roleMayIssue role k = true) : role ≠ .off := by
  rintro rfl; cases k <;> simp [roleMayIssue] at h

theorem admission_runs {p : PortId} {r : Request} {s : State} (h : Runs p r s) :
    admission p (kindOf r.body) s = .admitted r := by
  obtain ⟨h1, h2, h3⟩ := h
  have := mayIssue_ne_off h3
  rcases h2 with h2 | h2 <;> simp_all [admission]

/-- A request that reaches its owning block is replied with what the block hands back. -/
theorem serve_runs {p : PortId} {r : Request} {s : State} (owner : Body → State → Response) (h : Runs p r s) :
    serve p (kindOf r.body) owner s =
      placeReply p r (owner r.body s).status (owner r.body s).payload (owner r.body s).state := by
  simp [serve, admission_runs h]

/-- Everything that serving a request can do: nothing where none of the kind waits, a SKIPPED or a ROLE reply, or the reply
of the owning block. -/
theorem serve_cases (p : PortId) (k : Kind) (owner : Body → State → Response) (s : State) :
    (serve p k owner s = s ∧ (s.ports[p].role = .off ∨ ∀ r, s.ports[p].request = some r → kindOf r.body ≠ k)) ∨
    ∃ r, s.ports[p].request = some r ∧ kindOf r.body = k ∧ s.ports[p].role ≠ .off ∧
      (r.link = true ∧ s.ports[p].refused = true ∧ serve p k owner s = placeReply p r .skipped [] s ∨
       (r.link = false ∨ s.ports[p].refused = false) ∧ roleMayIssue s.ports[p].role k = false ∧
          serve p k owner s = placeReply p r .role [] s ∨
       Runs p r s ∧ serve p k owner s =
          placeReply p r (owner r.body s).status (owner r.body s).payload (owner r.body s).state) := by
  cases hr : s.ports[p].request with
  | none => left; simp at hr; simp [serve, admission, hr]
  | some r =>
    by_cases hk : s.ports[p].role = .off ∨ kindOf r.body ≠ k
    · left
      have : admission p k s = .absent := by simp at hr hk; simp [admission, hr, hk]
      simp_all [serve]
    · right
      push Not at hk
      obtain ⟨hrole, rfl⟩ := hk
      refine ⟨r, rfl, rfl, hrole, ?_⟩
      by_cases hl : r.link = true ∧ s.ports[p].refused = true
      · left; simp at hr hrole hl; simp [serve, admission, hr, hrole, hl]
      · have hl' : r.link = false ∨ s.ports[p].refused = false := by
          cases h1 : r.link <;> cases h2 : s.ports[p].refused <;> simp_all
        right
        by_cases hm : roleMayIssue s.ports[p].role (kindOf r.body) = true
        · right; exact ⟨⟨hr, hl', hm⟩, serve_runs owner ⟨hr, hl', hm⟩⟩
        · left
          refine ⟨hl', by simpa using hm, ?_⟩
          simp at hr hrole hm
          rcases hl' with h | h <;> simp_all [serve, admission]

/-! ## Causes and events -/

@[simp] theorem raiseAt_role (c : Cause) (q : Port) : (raiseAt c q).role = q.role := by unfold raiseAt; split <;> rfl
@[simp] theorem raiseAt_strap (c : Cause) (q : Port) : (raiseAt c q).strap = q.strap := by unfold raiseAt; split <;> rfl
@[simp] theorem raiseAt_request (c : Cause) (q : Port) : (raiseAt c q).request = q.request := by
  unfold raiseAt; split <;> rfl
@[simp] theorem raiseAt_reply (c : Cause) (q : Port) : (raiseAt c q).reply = q.reply := by unfold raiseAt; split <;> rfl
@[simp] theorem raiseAt_progress (c : Cause) (q : Port) : (raiseAt c q).progress = q.progress := by
  unfold raiseAt; split <;> rfl
@[simp] theorem raiseAt_refused (c : Cause) (q : Port) : (raiseAt c q).refused = q.refused := by
  unfold raiseAt; split <;> rfl
@[simp] theorem raiseAt_enables (c : Cause) (q : Port) : (raiseAt c q).enables = q.enables := by
  unfold raiseAt; split <;> rfl
@[simp] theorem raiseAt_segMask (c : Cause) (q : Port) : (raiseAt c q).segMask = q.segMask := by
  unfold raiseAt; split <;> rfl
@[simp] theorem raiseAt_events (c : Cause) (q : Port) : (raiseAt c q).events = q.events := by
  unfold raiseAt; split <;> rfl
@[simp] theorem raiseAt_period (c : Cause) (q : Port) : (raiseAt c q).period = q.period := by
  unfold raiseAt; split <;> rfl

/-- A cause is recorded on a port with a role, and on no other (R154, R167). -/
theorem raiseAt_raised (c : Cause) (q : Port) :
    (raiseAt c q).raised = if q.role = .off then q.raised else q.raised ||| causeMask c := by
  unfold raiseAt; split <;> rfl

/-- An event offered to a port changes its event sets alone. -/
theorem offerAt_eq (i : SegId) (e : SegEvent) (q : Port) :
    offerAt i e q =
      { q with events := if q.role = .off ∨ maskHas q.segMask i = false then q.events
          else updAt q.events i (· ||| eventMask e) } := by
  obtain ⟨role⟩ := q
  unfold offerAt
  cases role <;> simp <;> split <;> simp_all

/-! ## Placing a reply -/

/-- The record of a port with a role after a reply is placed (R161). -/
theorem placeReplyAt_eq (k : Kind) (tag : Byte) (st : Status) (l : List Byte) {q : Port} (h : q.role ≠ .off) :
    placeReplyAt k tag st l q =
      { q with
        request := none, reply := some (replyFrame k tag st l), progress := .none, refused := st.isRefusal
        raised := q.raised ||| causeMask .replyReady } := by
  simp [placeReplyAt, raiseAt, h]

end Sys2Proof.Laws
end

