-- ==== Sys2Proof/Laws/Segments.lean ====
section
/-! SUPPORT. What recomposition, mode changes, table changes and the end of a run can do. -/

namespace Sys2Proof.Laws

open Sys2Proof Sys2Proof.Machine Sys2Proof.Safety

/-! ## What stays -/

/-- Only controllers, groups, the link and event sets differ. -/
structure Quiet (s t : State) : Prop where
  pending : t.pending = s.pending
  layout : t.layout = s.layout
  sensors : t.sensors = s.sensors
  coupling : t.coupling = s.coupling
  table : t.table = s.table
  energy : t.energy = s.energy
  cal : t.cal = s.cal
  ports : OnlyEvents s t

theorem Quiet.refl (s : State) : Quiet s s := ⟨rfl, rfl, rfl, rfl, rfl, rfl, rfl, fun _ => rfl⟩

theorem Quiet.trans {s t u : State} (h : Quiet s t) (k : Quiet t u) : Quiet s u where
  pending := k.pending.trans h.pending
  layout := k.layout.trans h.layout
  sensors := k.sensors.trans h.sensors
  coupling := k.coupling.trans h.coupling
  table := k.table.trans h.table
  energy := k.energy.trans h.energy
  cal := k.cal.trans h.cal
  ports := fun q => by
    have a := h.ports q
    have b := k.ports q
    rw [← a, ← b]

/-- A change that leaves all but controllers, groups, link and event sets does so when repeated over a list. -/
theorem Quiet.foldl {α : Type} {f : State → α → State} (h : ∀ s a, Quiet s (f s a)) (l : List α) (s : State) :
    Quiet s (l.foldl f s) := by
  induction l generalizing s with
  | nil => exact Quiet.refl s
  | cons a l ih => exact (h s a).trans (ih (f s a))

/-- A segment event offered to the ports changes event sets alone. -/
theorem quiet_raiseEvent (i : SegId) (e : SegEvent) (s : State) : Quiet s (raiseEvent i e s) := by
  refine ⟨rfl, rfl, rfl, rfl, rfl, rfl, rfl, fun q => ?_⟩
  have : (raiseEvent i e s).ports[q] = offerAt i e s.ports[q] := by simp [offerEvent]
  rw [this, offerAt_eq]

theorem quiet_updCtrl (i : SegId) (f : Ctrl → Ctrl) (s : State) : Quiet s (updCtrl i f s) :=
  ⟨rfl, rfl, rfl, rfl, rfl, rfl, rfl, fun _ => rfl⟩

theorem quiet_setLum (l : Lum) (s : State) : Quiet s (s.setLum l) :=
  ⟨rfl, rfl, rfl, rfl, rfl, rfl, rfl, fun _ => rfl⟩

/-! ## Composition reads neither groups nor ports -/

/-- The demanded level of composition depends on the layout, the controller, the entries and the run alone (R68). -/
theorem demandLevel_congr {s t : State} (i : SegId) (b : BandId) (hl : t.layout = s.layout) (hc : t.ctrls[i] = s.ctrls[i])
    (ht : t.table = s.table) (hr : t.cal = s.cal) : demandLevel t i b = demandLevel s i b := by
  simp only [demandLevel, modeOf, segCfg, hl, hc, ht, hr]

/-! ## Recomposition (R70, R98) -/

section
variable (i : SegId) (s : State)

@[simp] theorem recompose_pending : (recompose i s).pending = s.pending := rfl
@[simp] theorem recompose_ports : (recompose i s).ports = s.ports := rfl
@[simp] theorem recompose_layout : (recompose i s).layout = s.layout := rfl
@[simp] theorem recompose_ctrls : (recompose i s).ctrls = s.ctrls := rfl
@[simp] theorem recompose_sensors : (recompose i s).sensors = s.sensors := rfl
@[simp] theorem recompose_coupling : (recompose i s).coupling = s.coupling := rfl
@[simp] theorem recompose_table : (recompose i s).table = s.table := rfl
@[simp] theorem recompose_energy : (recompose i s).energy = s.energy := rfl
@[simp] theorem recompose_cal : (recompose i s).cal = s.cal := rfl

theorem quiet_recompose : Quiet s (recompose i s) := quiet_setLum _ _

end

/-- Demands over some bands of a segment leave every group of other bands and segments as it is. -/
theorem foldl_demand_other (z : StepSizes) (i : SegId) (f : BandId → Nat) (g : GroupId) :
    ∀ (bs : List BandId) (l : Lum), (∀ b ∈ bs, groupOf i b ≠ g) →
      (bs.foldl (fun l b => demand z (groupOf i b) (f b) l) l).groups[g] = l.groups[g] := by
  intro bs
  induction bs with
  | nil => intro l _; rfl
  | cons b bs ih =>
    intro l h
    rw [List.foldl_cons, ih _ fun b' hb' => h b' (List.mem_cons_of_mem _ hb'),
      demand_other z _ g _ l (h b List.mem_cons_self)]

/-- Demands over bands without repeats leave each of their groups at its demand. -/
theorem foldl_demand_demanded (z : StepSizes) (i : SegId) (f : BandId → Nat) :
    ∀ (bs : List BandId) (l : Lum), bs.Nodup → ∀ b ∈ bs,
      ∀ r ∈ (bs.foldl (fun l b => demand z (groupOf i b) (f b) l) l).groups[groupOf i b], r.demanded = f b := by
  intro bs
  induction bs with
  | nil => intro l _ b hb; cases hb
  | cons c bs ih =>
    intro l hn b hb r hr
    rw [List.foldl_cons] at hr
    obtain ⟨hc, hn⟩ := List.nodup_cons.mp hn
    rcases List.mem_cons.mp hb with rfl | hb
    · rw [foldl_demand_other] at hr
      · exact demand_demanded _ _ _ _ r hr
      · intro b' hb' e
        have : b' = b := by simpa using congrArg bandOf e
        exact hc (this ▸ hb')
    · exact ih _ hn b hb r hr

/-- Recomposition of a segment leaves the groups of every other segment as they are (R70). -/
theorem recompose_other (i : SegId) (s : State) (g : GroupId) (h : segOf g ≠ i) :
    (recompose i s).lum.groups[g] = s.lum.groups[g] :=
  foldl_demand_other _ i _ g _ _ fun b _ e => h (by rw [← e, segOf_groupOf])

/-- Recomposition of a segment leaves each of its groups at the demand of composition (R68, R70). -/
theorem recompose_demanded (i : SegId) (s : State) : ∀ b ∈ bandsOf s i, ∀ r ∈ (recompose i s).lum.groups[groupOf i b],
    r.demanded = demandLevel s i b :=
  foldl_demand_demanded _ i _ _ _ (by unfold bandsOf bandsBelow; exact (List.nodup_finRange 3).filter _)

/-- Recomposition creates and removes no group. -/
theorem recompose_exists (i : SegId) (s : State) (g : GroupId) :
    groupExists (recompose i s).lum g = groupExists s.lum g := by
  have key : ∀ (bs : List BandId) (l : Lum),
      groupExists (bs.foldl (fun l b => demand (stepSizes s i) (groupOf i b) (demandLevel s i b) l) l) g =
        groupExists l g := by
    intro bs
    induction bs with
    | nil => intro l; rfl
    | cons b bs ih => intro l; rw [List.foldl_cons, ih, demand_exists]
  exact key _ _

/-! ## Modes -/

/-- A change of mode leaves the segment in the mode (R52). -/
@[simp] theorem modeOf_changeMode (i : SegId) (m : Mode) (s : State) : modeOf (changeMode i m s) i = m := by
  unfold changeMode
  split
  · assumption
  · cases m <;> simp [modeOf, enterMode, enterStart, invalidate]

/-- A change of mode leaves every other segment's controller as it is. -/
theorem changeMode_other (i j : SegId) (m : Mode) (s : State) (h : i ≠ j) :
    (changeMode i m s).ctrls[j] = s.ctrls[j] := by
  unfold changeMode
  split
  · rfl
  · simp only [raiseEvent_ctrls, updCtrl_ctrls, updAt_get, if_neg h]

@[simp] theorem changeMode_lum (i : SegId) (m : Mode) (s : State) : (changeMode i m s).lum = s.lum := by
  unfold changeMode; split <;> rfl

/-- A change of mode changes the controller and event sets alone. -/
theorem quiet_changeMode (i : SegId) (m : Mode) (s : State) : Quiet s (changeMode i m s) := by
  unfold changeMode
  split
  · exact Quiet.refl s
  · exact (quiet_updCtrl _ _ _).trans (quiet_raiseEvent _ _ _)

/-- A segment informed of a table change changes its controller, its groups, the link and event sets alone (R91). -/
theorem quiet_informSegment (s : State) (i : SegId) : Quiet s (informSegment s i) := by
  unfold informSegment
  split
  · exact (quiet_changeMode _ _ _).trans (quiet_recompose _ _)
  · exact Quiet.refl s

/-- A segment that leaves CALIBRATING changes its controller, its groups, the link and event sets alone (R58). -/
theorem quiet_leaveCalibrating (s : State) (i : SegId) : Quiet s (leaveCalibrating s i) := by
  unfold leaveCalibrating
  split
  · exact (quiet_changeMode _ _ _).trans (quiet_recompose _ _)
  · exact Quiet.refl s

/-- The mode of a configured segment informed of a table change (R56). -/
theorem modeOf_informSegment {s : State} {i : SegId} (h : configured s i = true) :
    modeOf (informSegment s i) i = modeByCoverage (modeOf s i) (isLocked s i) (isHeld s i) := by
  simp only [informSegment, h, if_true]
  exact modeOf_changeMode _ _ _

/-- A segment informed of a table change leaves every other controller as it is. -/
theorem informSegment_other (s : State) (i j : SegId) (h : i ≠ j) : (informSegment s i).ctrls[j] = s.ctrls[j] := by
  unfold informSegment
  split
  · exact changeMode_other _ _ _ _ h
  · rfl

/-- A segment informed of a table change leaves the groups of every other segment as they are. -/
theorem informSegment_groups (s : State) (i : SegId) (g : GroupId) (h : segOf g ≠ i) :
    (informSegment s i).lum.groups[g] = s.lum.groups[g] := by
  unfold informSegment
  split
  · rw [recompose_other _ _ _ h, changeMode_lum]
  · rfl

/-! ## Table changes and the end of a run -/

/-- The end of a run leaves the layout, the sensor link, the coupling store, the table, the energy and the queue as they
are, and the sequencer IDLE with the given record (R146, R147). -/
theorem endRun_frame (r : CalRun) (res : CalResult) (s : State) :
    (endRun r res s).cal = ⟨none, res⟩ ∧ (endRun r res s).layout = s.layout ∧ (endRun r res s).sensors = s.sensors ∧
      (endRun r res s).coupling = s.coupling ∧ (endRun r res s).table = s.table ∧ (endRun r res s).energy = s.energy ∧
      (endRun r res s).pending = s.pending := by
  have h := Quiet.foldl quiet_leaveCalibrating (maskSegs r.segments) (s.setCal ⟨none, res⟩)
  exact ⟨h.cal, h.layout, h.sensors, h.coupling, h.table, h.energy, h.pending⟩

/-- Without a run, a table change writes the entries and then informs the segments (R91). -/
theorem quiet_tableChange (entries : List Entry) (inserted : Option Entry) (informed : SegMask) (s : State)
    (h : s.cal.run = none) : Quiet (setEntries entries s) (tableChange entries inserted informed s) := by
  have e : tableChange entries inserted informed s = (maskSegs informed).foldl informSegment (setEntries entries s) := by
    cases inserted <;> simp [tableChange, informSequencer, h]
  rw [e]
  exact Quiet.foldl quiet_informSegment _ _

end Sys2Proof.Laws
end

