-- ==== Sys2Proof/Tests/Slice0.lean ====
section
/-! SUPPORT. Tests: the refusals of the well-formedness check, the spec's worked examples, one step each, and for every
statement with hypotheses a concrete state and operands that meet them. -/

-- One theorem at a time: many kernel evaluations at once need too much memory.
set_option Elab.async false

namespace Sys2Proof.Tests

open Sys2Proof Sys2Proof.Machine Sys2Proof.Safety

/-! ## Helpers -/

/-- The state after a command. -/
def after (c : Instr) (s : State) : State :=
  match exec c s with
  | .next t => t
  | .fault _ => s
  | .refused _ => s

/-- A request without LINK and with the tag 0x11. -/
def ask (b : Body) : Request := ⟨false, 0x11, b⟩

/-- The state with the request in the port's slot. -/
def asks (p : PortId) (b : Body) (s : State) : State := atPort p (fun q => { q with request := some (ask b) }) s

/-- The state after the request is executed on the port. -/
def served (p : PortId) (b : Body) (s : State) : State := after (requestCommand (kindOf b) p) (asks p b s)

/-- The status byte of the reply in the port's slot. -/
def replied (p : PortId) (s : State) : Option Byte := s.ports[p].reply.map fun l => l.getD 2 0xFF

/-- Segment 4 newly defined with two bands on sensor 9 (spec 1.8). -/
def seg4 : State := defineSegment 4 (definedConfig 2 9 none) State.reset

/-- The state with the table's entries and uptime. -/
def withTable (entries : List Entry) (uptime : Nat) (s : State) : State :=
  { s with table := { s.table with entries := entries, uptime := uptime } }

/-- The state with the segment's controller changed. -/
def withCtrl (i : SegId) (f : Ctrl → Ctrl) (s : State) : State := updCtrl i f s

/-- The state with the link changed. -/
def withLink (f : Link → Link) (s : State) : State := { s with lum := { s.lum with link := f s.lum.link } }

/-- The state with the group's record set. -/
def withGroup (g : GroupId) (r : Group) (s : State) : State :=
  { s with lum := { s.lum with groups := s.lum.groups.set g (some r) } }

/-- The state with the sensor's holder set. -/
def withHolder (k : SensorId) (h : Holder) (s : State) : State :=
  { s with sensors := { s.sensors with holders := s.sensors.holders.set k h } }

/-- The state with a select period in progress on the port. -/
def inPeriod (p : PortId) (d : Period) (s : State) : State := atPort p (fun q => { q with period := some d }) s

/-- The state with a poll in flight. -/
def polling (q : Poll) (s : State) : State := { s with sensors := { s.sensors with round := some q.channel, poll := some q } }

/-- Every port OFF. -/
def allOff : State := powerOn ⟨false, false⟩ ⟨false, false⟩ ⟨false, false⟩ State.reset

/-- A calibration of segment 4 just started, with the parameters of spec 8.10. -/
def calibrating4 : State := (calStart (maskOf 4) 300 900 100 1500 10 0x12 seg4).state

/-- The run of a calibration changed. -/
def withRun (f : CalRun → CalRun) (s : State) : State := { s with cal := { s.cal with run := s.cal.run.map f } }

/-- Segment 4 capped at 600. -/
def capped4 : State := tableChange [⟨maskOf 4, .cap 3 600 none⟩] none (maskOf 4) seg4

/-! ## The well-formedness check -/

/-- One ill-formed payload for each field. -/
def illFormed : List Body :=
  [.segRead 256, .sensorRead 256, .tableRead 256, .couplingRead 256, .energyRead 256, .segRemove 256, .groupClearFail 256,
    .settleSet 256, .capCancel 256, .segDefine 256 0 0 0, .segDefine 0 256 0 0, .segDefine 0 0 256 0, .segDefine 0 0 0 256,
    .segTune 256 0 0 0 0 0 0 0 0, .segTune 0 65536 0 0 0 0 0 0 0, .segTune 0 0 65536 0 0 0 0 0 0,
    .segTune 0 0 0 256 0 0 0 0 0, .segTune 0 0 0 0 256 0 0 0 0, .segTune 0 0 0 0 0 256 0 0 0, .segTune 0 0 0 0 0 0 256 0 0,
    .segTune 0 0 0 0 0 0 0 256 0, .segTune 0 0 0 0 0 0 0 0 65536] ++
  [.bandSet 256 0 0 0 0 0, .bandSet 0 256 0 0 0 0, .bandSet 0 0 65536 0 0 0, .bandSet 0 0 0 65536 0 0,
    .bandSet 0 0 0 0 65536 0, .bandSet 0 0 0 0 0 65536, .couplingWrite 0 0 0 (List.replicate 5 (0, 0)),
    .couplingWrite 256 0 0 (List.replicate 6 (0, 0)), .couplingWrite 0 256 0 (List.replicate 6 (0, 0)),
    .couplingWrite 0 0 256 (List.replicate 6 (0, 0)), .couplingWrite 0 0 0 (List.replicate 6 (256, 0)),
    .couplingWrite 0 0 0 (List.replicate 6 (0, 65536)), .overrideSet 0 65536 0, .overrideSet 0 0 65536, .lockSet 0 65536] ++
  [.calStart 0 65536 0 0 0 0 0, .calStart 0 0 65536 0 0 0 0, .calStart 0 0 0 65536 0 0 0, .calStart 0 0 0 0 65536 0 0,
    .calStart 0 0 0 0 0 256 0, .calStart 0 0 0 0 0 0 256, .holdSet 0 65536, .glareSet 0 65536, .capSet 256 0 0 0,
    .capSet 0 0 65536 0, .capSet 0 0 0 65536, .powerSet 256 0, .powerSet 0 65536, .queryDriver 256 0, .queryDriver 0 256]

theorem test_ill_formed_refused : illFormed.all (fun b => !(ask b).wellFormed) = true := by decide +kernel

theorem test_widest_fields_accepted :
    (ask (.capSet 255 0xFFFF 65535 65535)).wellFormed = true ∧
      (ask (.couplingWrite 255 255 255 (List.replicate 6 (255, 65535)))).wellFormed = true := by decide +kernel

/-- The table gives no bits, so no word spells a command. -/
theorem test_no_word_decodes : decodeTableWord 16 0x0115 = none := rfl

/-- The reset state is what POWER_ON_RESET brings about with the straps of `Config.resetStraps`. -/
theorem test_reset_is_power_on :
    powerOn Config.resetStraps.1 Config.resetStraps.2.1 Config.resetStraps.2.2 seg4 = State.reset := by decide +kernel

/-! ## Frames (spec 11.5, 9.5, 9.6) -/

theorem test_nop_frame : requestFrame ⟨false, 0, .nop⟩ = [0x01, 0x00, 0x15] := by decide +kernel

theorem test_nop_reply : replyFrame .nop 0 .ok [] = [0x01, 0x00, 0x00, 0x6B] := by decide +kernel

/-- CAL_START for segment 4, M = 2 with dark option FIRST, s = 500 ms (spec 11.5). -/
theorem test_calStart_bytes :
    (payloadOf (.calStart (maskOf 4) 300 900 100 1500 10 0x12)).take 2 = [0x00, 0x10] ∧
      parseFrame (requestFrame (ask (.calStart (maskOf 4) 300 900 100 1500 10 0x12))) =
        some (ask (.calStart (maskOf 4) 300 900 100 1500 10 0x12)) := by decide +kernel

/-- A linked NOP after a refusal is SKIPPED (spec 11.5). -/
theorem test_linked_nop_skipped :
    (after (.nop 0) (atPort 0 (fun q => { q with request := some ⟨true, 0, .nop⟩, refused := true }) State.reset)).ports[0].reply
      = some (withCheck [0x01, 0x00, 0x1C]) := by decide +kernel

theorem test_selectAssert_empty_frame :
    (after (.selectAssert 0) State.reset).ports[0].period = some ⟨[0x00, 0x00, 0x20, 0xE0], false, false⟩ := by
  decide +kernel

theorem test_selectRelease_bad_frame :
    (after (.selectRelease 0 ⟨bitsOfBytes [0x01, 0x09, 0x00], false⟩) (inPeriod 0 ⟨[], false, false⟩ State.reset)).ports[0].reply =
      some (withCheck [0x01, 0x09, 0x10]) := by decide +kernel

/-- Ten bits: 0x81 most significant bit first, and two bits of a byte that the release cuts short (R153). -/
theorem test_bits_and_cut_byte :
    bytesOfBits [true, false, false, false, false, false, false, true, true, true] = [0x81] ∧
      bitsOfBytes [0x81] = [true, false, false, false, false, false, false, true] := by decide +kernel

/-- Bits 16 to 23 of a period with the NONE frame are 0x20, and data out stands high behind the frame and outside a period. -/
theorem test_data_out :
    let t := after (.selectAssert 0) State.reset
    ((List.range 8).map fun n => dataOut t.ports[(0 : PortId)] (16 + n)) = [false, false, true, false, false, false, false, false] ∧
      dataOut t.ports[(0 : PortId)] 32 = true ∧ dataOut State.reset.ports[(0 : PortId)] 0 = true := by decide +kernel

/-- A port whose period a warm restart has made void. -/
def voided : State := inPeriod 1 ⟨[], false, true⟩ State.reset

/-- Row 4 of R165: a release taken behind the restart it falls together with finds the port free, and a later one judges
nothing. -/
theorem test_release_at_restart :
    (after (.selectRelease 1 ⟨bitsOfBytes (requestFrame (ask .nop)), true⟩) voided).ports[(1 : PortId)].request =
        some (ask .nop) ∧
      (after (.selectRelease 1 ⟨bitsOfBytes (requestFrame (ask .nop)), false⟩) voided).ports[(1 : PortId)].request = none := by
  decide +kernel

theorem test_ident_strap_byte :
    (served 1 .ident State.reset).ports[1].reply.map (fun l => (l.drop 3).take 8) =
      some [0x0A, 0x3D, 0x34, 0x12, 0x01, 0x02, 0x39, 0x00] := by decide +kernel

/-! ## Layout (spec 1.8) -/

/-- SEG_DEFINE of segment 4 with the secondary sensor equal to the primary. -/
theorem test_segDefine_example :
    let t := served 0 (.segDefine 4 2 9 9) State.reset
    replied 0 t = some 0x01 ∧ segCfg t 4 = definedConfig 2 9 none ∧
      t.lum.groups[(12 : GroupId)] = some (newGroup 800) ∧ t.lum.groups[(13 : GroupId)] = some (newGroup 800) ∧
      t.ctrls[(4 : SegId)].startSnap = #v[800, 800, 0] ∧ t.ctrls[(4 : SegId)].passTimer = some 500 := by decide +kernel

/-- With the link busy the new groups' levels stand in the queue in ascending order (spec 1.8, log 12). -/
theorem test_segDefine_queue :
    (served 0 (.segDefine 4 2 9 9) (withLink (fun k => { k with tx := some (.query 0 .status false) }) State.reset)).lum.link.queue
      = [(12, 800), (13, 800)] := by decide +kernel

theorem test_segDefine_busy : replied 0 (served 0 (.segDefine 4 1 3 255) seg4) = some 0x15 := by decide +kernel

theorem test_segRemove_drops_groups :
    let t := served 0 (.segRemove 4) seg4
    replied 0 t = some 0x00 ∧ t.lum.groups[(12 : GroupId)] = none ∧ t.lum.link.queue = [] ∧ modeOf t 4 = .unconfigured := by
  decide +kernel

/-- A zero left in the s_up field is written as 1, with OK_CLAMPED (spec 1.9). -/
theorem test_segTune_zero_step :
    let t := served 0 (.segTune 4 500 520 10 3 1 0 10 800) seg4
    replied 0 t = some 0x01 ∧ (segCfg t 4).sUp = 1 ∧ (segCfg t 4).passPeriod = 500 := by decide +kernel

theorem test_bandSet_range : replied 0 (served 0 (.bandSet 4 2 256 600 0 1000) seg4) = some 0x12 := by decide +kernel

theorem test_layoutLock_sets : (served 0 .layoutLock State.reset).layout.lock = true := by decide +kernel

/-! ## Sensor link (spec 2.10) -/

/-- Sensor 6 answers a raw 23,500 in uptime second 100. -/
theorem test_saturated_reply :
    (after (.sensorReply 0x5B 0xCC 0x00 (crc8 [6, 0x5B, 0xCC, 0x00]))
      (withTable [] 100 (polling ⟨6, .awaiting, false, false⟩ State.reset))).sensors.holders[(6 : SensorId)] =
      ⟨.fresh, some 20000, true, 0, some 100⟩ := by decide +kernel

/-- Sensor 5's reply fails the check, and in the next round it does not answer (rounds 2 and 3). -/
theorem test_failed_check_then_silence :
    holderMiss ⟨.fresh, some 1460, false, 0, some 100⟩ = ⟨.suspect, some 1460, false, 1, some 100⟩ ∧
      (after .replyWindowTimeout (withHolder 5 ⟨.suspect, some 1460, false, 1, some 100⟩
        (polling ⟨5, .awaiting, false, false⟩ State.reset))).sensors.holders[(5 : SensorId)] =
        ⟨.suspect, some 1460, false, 2, some 100⟩ := by decide +kernel

/-- Sensor 9 does not answer for the third time (round 3); a gap between bytes is a miss as well. -/
theorem test_third_silence :
    (after .interByteGap (withHolder 9 ⟨.noData, none, false, 2, none⟩
      (polling ⟨9, .awaiting, false, false⟩ State.reset))).sensors.holders[(9 : SensorId)] =
      ⟨.stale, none, false, 3, none⟩ := by decide +kernel

/-- An idle link starts a round with the one assigned channel; its end leaves the link idle. -/
theorem test_round :
    (after .roundTimerExpiry seg4).sensors.poll = some ⟨9, .awaiting, false, false⟩ ∧
      (after .turnaroundEnd (polling ⟨9, .turnaround, false, false⟩ seg4)).sensors.round = none := by decide +kernel

/-! ## Estimation and the worked pass (spec 3.6, 4.9, 4.10) -/

/-- Segment 2 as the worked pass finds it. -/
def worked : State :=
  let cfg : SegConfig :=
    { definedConfig 3 5 (some 6) with bands := #v[⟨256, 620, 100, 1000⟩, ⟨140, 600, 100, 1000⟩, ⟨70, 580, 100, 1000⟩] }
  let s : State :=
    { State.reset with
      layout := { State.reset.layout with segs := State.reset.layout.segs.set 2 cfg }
      ctrls := State.reset.ctrls.set 2
        { definedCtrl cfg with mode := .active, good := 3, filter := some 980, outputs := #v[⟨100, true⟩, ⟨130, true⟩, ⟨405, true⟩] }
      coupling :=
        ⟨(State.reset.coupling.lists.set 5 [⟨5, 40⟩, ⟨6, 310⟩, ⟨7, 95⟩, ⟨8, 20⟩]).set 6 [⟨6, 120⟩, ⟨7, 260⟩, ⟨8, 60⟩, ⟨9, 15⟩],
          (State.reset.coupling.dark.set 5 12).set 6 8⟩ }
  let s := withHolder 5 ⟨.fresh, some 1460, false, 0, some 100⟩ (withHolder 6 ⟨.fresh, some 820, false, 0, some 100⟩ s)
  let s := withGroup 5 (newGroup 700) (withGroup 9 (newGroup 400) s)
  let s := withGroup 6 { newGroup 300 with demanded := 100, timer := true } s
  let s := withGroup 7 { newGroup 550 with demanded := 130, timer := true } s
  let s := withGroup 8 { newGroup 800 with demanded := 400, timer := true } s
  withTable [⟨maskOf 2, .cap 1 400 none⟩] 100 s

theorem test_contributions :
    contribution worked.lum worked.coupling.lists[(5 : SensorId)] = 189 ∧
      contribution worked.lum worked.coupling.lists[(6 : SensorId)] = 233 ∧ rawDaylight worked 2 = some 919 := by
  decide +kernel

/-- The variations of spec 3.6: a stale secondary, group 6 FAILED, night, and a saturated primary. -/
theorem test_raw_daylight_variations :
    rawDaylight (withHolder 6 ⟨.stale, some 20000, true, 0, some 100⟩ worked) 2 = some 1259 ∧
      rawDaylight (withGroup 6 { newGroup 300 with failed := true } worked) 2 = some 983 ∧
      rawDaylight (withHolder 5 ⟨.fresh, some 200, false, 0, some 100⟩
        (withHolder 6 ⟨.fresh, some 240, false, 0, some 100⟩ worked)) 2 = some 0 ∧
      rawDaylight (withHolder 5 ⟨.fresh, some 20000, true, 0, some 100⟩ worked) 2 = some 10189 := by decide +kernel

theorem test_pass_worked :
    let t := after (.pass 2) worked
    t.ctrls[(2 : SegId)].filter = some 950 ∧ t.ctrls[(2 : SegId)].bandDaylight = #v[some 950, some 519, some 259] ∧
      t.ctrls[(2 : SegId)].outputs = #v[⟨100, true⟩, ⟨100, true⟩, ⟨416, true⟩] ∧
      (t.lum.groups[(6 : GroupId)].map (·.demanded), t.lum.groups[(7 : GroupId)].map (·.demanded),
        t.lum.groups[(8 : GroupId)].map (·.demanded)) = (some 100, some 100, some 400) := by decide +kernel

/-- Pass 6 of the worked mode sequence: DEGRADED to ACTIVE on the third pass with data. -/
theorem test_pass_sequence :
    let t := after (.pass 4) (withHolder 9 ⟨.suspect, some 300, false, 1, some 7⟩
      (withCtrl 4 (fun c => { c with mode := .degraded, good := 2 }) seg4))
    modeOf t 4 = .active ∧ t.ctrls[(4 : SegId)].filter = some 300 ∧
      (t.lum.groups[(12 : GroupId)].map (·.demanded), t.lum.groups[(13 : GroupId)].map (·.demanded)) =
        (some 334, some 584) := by decide +kernel

/-- The filter at small differences (spec 4.9). -/
theorem test_filter_small_differences :
    filterMove 3 1 953 950 = 951 ∧ filterMove 3 1 953 952 = 953 ∧ filterMove 3 1 940 953 = 947 ∧
      filterMove 3 1 946 947 = 946 := by decide +kernel

/-- COUPLING_WRITE drops a zero coefficient, brings one above 4095 down and sorts by group. -/
theorem test_couplingWrite_list :
    let t := served 0 (.couplingWrite 9 12 3 [(13, 5000), (12, 7), (12, 0), (0, 0), (0, 0), (0, 0)]) seg4
    let u := served 0 (.couplingWrite 9 12 2 [(13, 5000), (12, 7), (12, 0), (0, 0), (0, 0), (0, 0)]) seg4
    replied 0 t = some 0x12 ∧ replied 0 u = some 0x01 ∧ u.coupling.lists[(9 : SensorId)] = [⟨12, 7⟩, ⟨13, 4095⟩] ∧
      u.coupling.dark[(9 : SensorId)] = 12 := by decide +kernel

/-! ## Request table (spec 5.8) -/

/-- Segments 2, 3 and 4 configured with one band each. -/
def three : State :=
  defineSegment 4 (definedConfig 1 4 none) (defineSegment 3 (definedConfig 1 3 none) (defineSegment 2 (definedConfig 1 2 none) State.reset))

/-- HOLD_SET at uptime 1030 over an older hold: the maximum expiry, and the older hold keeps segment 2. -/
theorem test_holdSet_overlap :
    (served 1 (.holdSet 0x18 20) (withTable [⟨0x1C, .cap 3 600 (some 2800)⟩, ⟨0x0C, .hold 1070 false⟩] 1030 three)).table.entries
      = [⟨0x1C, .cap 3 600 (some 2800)⟩, ⟨0x04, .hold 1070 false⟩, ⟨0x18, .hold 1070 false⟩] := by decide +kernel

/-- HOLD_SETTLED at uptime 1045 for segments 2 and 3. -/
theorem test_holdSettled_moves :
    (served 1 (.holdSettled 0x0C)
      (withTable [⟨0x04, .hold 1070 false⟩, ⟨0x18, .hold 1070 false⟩, ⟨0x10, .cap 5 300 none⟩] 1045 three)).table.entries =
      [⟨0x10, .hold 1070 false⟩, ⟨0x10, .cap 5 300 none⟩, ⟨0x0C, .hold 1055 true⟩] := by decide +kernel

/-- CAP_SET at uptime 1050 changes the cap of its id in place. -/
theorem test_capSet_in_place :
    (served 2 (.capSet 3 0x18 500 10)
      (withTable [⟨0x1C, .cap 3 600 (some 2800)⟩, ⟨0x10, .hold 1070 false⟩] 1050 three)).table.entries =
      [⟨0x18, .cap 3 500 (some 1650)⟩, ⟨0x10, .hold 1070 false⟩] := by decide +kernel

/-- Uptime reaches 1055: the settling entry departs without a cause, and its segments go to START. -/
theorem test_settling_departs :
    let t := after .uptimeTick (withTable [⟨0x0C, .hold 1055 true⟩] 1054 (withCtrl 2 (fun c => { c with mode := .held }) three))
    t.table.entries = [] ∧ t.ports[(1 : PortId)].raised = 0x0001 ∧ modeOf t 2 = .start := by decide +kernel

/-! ## Fading and energy (spec 6.6) -/

/-- Segment 7 at rest at 700 and 500, ACTIVE, with rated powers of 50 W and 80 W. -/
def fading7 : State :=
  let s := defineSegment 7 (definedConfig 2 1 none) State.reset
  let s := withCtrl 7 (fun c => { c with mode := .active, outputs := #v[⟨700, true⟩, ⟨500, true⟩, ⟨0, false⟩] }) s
  let s := withGroup 21 { newGroup 700 with power := 50 } (withGroup 22 { newGroup 500 with power := 80 } s)
  { s with energy := s.energy.set 7 ⟨12000, 3560000⟩ }

/-- CAP_SET at t0: each group takes one step of 10 at once. -/
theorem test_cap_first_step :
    let t := served 2 (.capSet 2 (maskOf 7) 450 15) (withTable [] 5000 fading7)
    t.lum.groups[(21 : GroupId)] = some { newGroup 690 with demanded := 450, timer := true, power := 50 } ∧
      t.lum.groups[(22 : GroupId)] = some { newGroup 490 with demanded := 450, timer := true, power := 80 } ∧
      t.table.entries = [⟨maskOf 7, .cap 2 450 (some 5900)⟩] := by decide +kernel

/-- Group 22's expiry at its demand stops the timer; a step of a LOCKED segment is 100. -/
theorem test_fade_steps :
    (after (.fadeStep 22) (withGroup 22 { newGroup 450 with timer := true } fading7)).lum.groups[(22 : GroupId)] =
        some (newGroup 450) ∧
      (after (.fadeStep 21) (withGroup 21 { newGroup 870 with demanded := 900, timer := true }
        (withCtrl 7 (fun c => { c with mode := .locked }) fading7))).lum.groups[(21 : GroupId)].map (·.present) = some 900 := by
  decide +kernel

/-- The energy tick at uptime 5001. -/
theorem test_energyTick_carry :
    (after .energyTick (withGroup 21 { newGroup 630 with power := 50 }
      (withGroup 22 { newGroup 450 with power := 80 } fading7))).energy[(7 : SegId)] = ⟨12001, 27500⟩ := by decide +kernel

/-! ## Luminaire link (spec 7.8) -/

/-- t0 + 60 ms: the last frame of a drain completes, and the link enters PAUSED with LINK_CHANGE. -/
theorem test_drain_ends :
    let t := after .setLevelCompletion (withGroup 8 (newGroup 405) (withLink (fun k =>
      { k with state := .draining, tx := some (.setLevel 8 405 true), queue := [] }) State.reset))
    t.lum.link.state = .paused ∧ t.lum.groups[(8 : GroupId)].map (·.lastSent) = some (some 405) ∧
      t.ports[(0 : PortId)].raised = 0x0401 := by decide +kernel

/-- t0 + 3140 ms: a query and a level wait, the last grant was LEVEL, and the query goes. -/
theorem test_query_goes_first :
    (after .setLevelCompletion (withLink (fun k =>
      { k with tx := some (.setLevel 7 130 true), queue := [(8, 416)], lastGrant := .level, unit := .waiting true
               record := ⟨false, 0, 8, .ratedPower, none⟩ }) State.reset)).lum.link.tx =
      some (.query 8 .ratedPower true) := by decide +kernel

/-- t0 + 3180 ms: the drivers answered 60 W. -/
theorem test_answer_60_watts :
    let t := after (.answerWindowEnd (.frame 0x103C)) (withGroup 8 (newGroup 416) (withLink (fun k =>
      { k with tx := some (.window 8 .ratedPower true), queue := [(8, 416)], lastGrant := .query, unit := .inFlight true
               record := ⟨false, 0, 8, .ratedPower, none⟩ }) State.reset))
    t.lum.groups[(8 : GroupId)].map (·.power) = some 60 ∧ t.lum.link.tx = some (.setLevel 8 416 true) ∧
      t.lum.link.record = ⟨true, 0, 8, .ratedPower, some (.ok (.power 60))⟩ ∧ t.ports[(0 : PortId)].raised = 0x0021 := by
  decide +kernel

/-- t0 + 3000 ms: the restoration of a link that was PAUSED drops the queue and marks every group unsent. -/
theorem test_restoration_paused :
    let t := after .busRestoration (withGroup 7 (newGroup 130) (withLink (fun k =>
      { k with state := .down, faultReported := true, pauseInForce := true, queue := [(7, 130)] }) State.reset))
    t.lum.link.state = .paused ∧ t.lum.link.queue = [] ∧ t.lum.groups[(7 : GroupId)].map (·.unsent) = some true := by
  decide +kernel

theorem test_busFault_down : (after .busFault seg4).lum.link.state = .down := by decide +kernel

/-! ## Calibration (spec 8.10) -/

theorem test_calStart_example :
    let t := served 0 (.calStart (maskOf 4) 300 900 100 1500 10 0x12) seg4
    replied 0 t = some 0x02 ∧ t.cal.run.map (·.groups) = some [12, 13] ∧ t.cal.run.map (·.sensors) = some [9] ∧
      t.cal.result.clamped = false ∧ modeOf t 4 = .calibrating ∧
      t.lum.groups[(12 : GroupId)].map (·.demanded) = some 0 := by decide +kernel

/-- The coefficients 292 and 14 and the dark offset 11 of the worked calibration. -/
theorem test_cal_arithmetic :
    let q : CalParams := ⟨300, 900, 900, 100, 1500, 500, 2, .first⟩
    coefficient q ⟨2225, 8, 311, 7, 0, 0, [], .notTaken⟩ = some 292 ∧
      coefficient q ⟨890, 8, 800, 8, 0, 0, [], .notTaken⟩ = some 14 ∧
      darkOffset ⟨0, 0, 0, 0, 44, 4, [], .notTaken⟩ = .measured 11 := by decide +kernel

/-- The commit at 21900 ms: the last PROBE_LOW window of the run ends. -/
theorem test_commit_example :
    let s := withRun (fun r =>
      { r with
        phase := .probeLow, stage := .sample, timer := some 1000, probe := 1, cycle := 2
        gathered := r.gathered.set 9 ⟨890, 8, 800, 8, 44, 4, [⟨12, 292⟩], .measured 11⟩ })
      { calibrating4 with coupling :=
          ⟨calibrating4.coupling.lists.set 9 [⟨9, 14⟩, ⟨10, 30⟩, ⟨11, 14⟩, ⟨12, 250⟩, ⟨15, 40⟩, ⟨16, 14⟩],
            calibrating4.coupling.dark.set 9 9⟩ }
    let t := after .calStageTimerExpiry s
    t.coupling.lists[(9 : SensorId)] = [⟨9, 14⟩, ⟨10, 30⟩, ⟨11, 14⟩, ⟨12, 292⟩, ⟨13, 14⟩, ⟨15, 40⟩] ∧
      t.coupling.dark[(9 : SensorId)] = 11 ∧ t.cal.result.statuses[(9 : SensorId)] = .updated ∧
      t.cal.result.outcome = .done ∧ modeOf t 4 = .start := by decide +kernel

/-! ## Attention and events (spec 10.6) -/

/-- Step 8: the clear names SEG_EVENT and HOLD_EXPIRED; LINK_CHANGE, raised after the read, stays. -/
theorem test_causesClear_echo :
    let s := atPort 1 (fun q => { q with raised := 0x0480, enables := 0x0090, segMask := 0x000C
                                         events := q.events.set 2 0x01 }) State.reset
    let t := served 1 (.causesClear 0x0090) s
    causeSet t.ports[(1 : PortId)] = 0x0412 ∧ attention t.ports[(1 : PortId)] = true := by decide +kernel

/-- Step 4: EVENTS_READ returns two sets and empties them. -/
theorem test_eventsRead_two_sets :
    let s := atPort 1 (fun q => { q with segMask := 0x000C, events := (q.events.set 2 0x05).set 3 0x01 }) State.reset
    let t := served 1 .eventsRead s
    t.ports[(1 : PortId)].reply.map (fun l => (l.drop 3).take 6) = some [2, 0, 2, 0x05, 3, 0x01] ∧
      eventsPending t.ports[(1 : PortId)] = false := by decide +kernel

/-- RESTART clears every cause and raises RESTARTED, with the reply left in the slot. -/
theorem test_restart_ports :
    let t := served 0 .restart seg4
    t.ports[(0 : PortId)].raised = 0x0001 ∧ replied 0 t = some 0x00 ∧ t.ports[(2 : PortId)].reply = none := by decide +kernel

/-! ## Witnesses: the hypotheses of every statement met together, clause by clause -/

/-- The request of the kind waits in the port's slot and reaches its owning block. -/
abbrev RunsOn (p : PortId) (b : Body) (s : State) : Prop := Runs p (ask b) (asks p b s)

/-- Segment 4 under a cap, with its pass at the front of the queue. -/
def stepping : State := { capped4 with pending := [.pass 4] }

theorem witness_stepping_steps : ∃ t, step stepping = .next t := ⟨_, rfl⟩

theorem witness_StepRunsFrontCommand : State.reset.pending = [] := rfl

theorem witness_PortsLawKept : PortsLaw stepping := by decide +kernel

theorem witness_CouplingLawKept : CouplingLaw stepping := by decide +kernel

theorem witness_LevelsLawKept : LevelsLaw stepping := by decide +kernel

theorem witness_queueLaw : QueueLaw stepping.lum := by decide +kernel

theorem witness_LumLawKept : LumLaw stepping.lum := by
  have sent : ∀ g : GroupId, ∀ r ∈ stepping.lum.groups[g],
      queued stepping.lum.link g = true ∨ stepping.lum.link.tx = some (.setLevel g r.present true) := by decide +kernel
  refine ⟨witness_queueLaw, by decide +kernel, fun _ g r hr => ?_, by decide +kernel⟩
  rcases sent g r hr with h | h
  · exact .inl h
  · exact .inr (.inr (.inl h))

theorem witness_ModeLawKept : ModeLaw stepping := by decide +kernel

theorem witness_TableLawKept : TableLaw stepping := by decide +kernel

theorem witness_JointLawKept : JointLaw stepping ∧ stepping.table.entries ≠ [] := by decide +kernel

theorem witness_SensorLawKept : SensorLaw stepping := by decide +kernel

theorem witness_ControlLawKept : ControlLaw stepping := by decide +kernel

/-- The last second before the uptime's end, with an entry that expires at the end. -/
def lastSecond : State :=
  { withTable [⟨maskOf 4, .cap 3 600 (some 4294967295)⟩] 4294967294 seg4 with pending := [.uptimeTick] }

theorem witness_UptimeExpiriesAndEnergy :
    lastSecond.table.uptime < 4294967295 ∧ ExpiryLaw lastSecond ∧ EnergyLaw lastSecond := by decide +kernel

theorem witness_UptimeExpiriesAndEnergy_front :
    (∃ t, step lastSecond = .next t) ∧ (∀ a b c, lastSecond.pending.head? ≠ some (.powerOnReset a b c)) ∧
      ∀ p, lastSecond.pending.head? ≠ some (.energyClear p) :=
  ⟨⟨_, rfl⟩, fun _ _ _ => by simp [lastSecond], fun _ => by simp [lastSecond]⟩

theorem witness_LayoutLockAndCapsHold :
    JointLaw capped4 ∧ capped4.lum.groups[(12 : GroupId)].isSome = true ∧ modeOf capped4 4 ≠ .locked ∧
      600 ∈ capsOver capped4.table.entries 4 := by decide +kernel

/-- The layout locked, with SEG_REMOVE of segment 4 waiting. -/
def lockedLayout : State := asks 0 (.segRemove 4) { seg4 with layout := { seg4.layout with lock := true } }

/-- Composition in ACTIVE under a cap, in LOCKED and in CALIBRATING. -/
theorem witness_LayoutLockAndCapsHold_composition :
    modeOf worked 2 = .active ∧ capsOver worked.table.entries 2 = [400] ∧ worked.ctrls[(2 : SegId)].outputs[(2 : BandId)].value = 405 ∧
      demandLevel worked 2 2 = 400 ∧ modeOf seg4 4 = .start ∧ modeOf calibrating4 4 = .calibrating ∧
      calibrating4.cal.run.isSome = true ∧
      modeOf (tableChange [⟨maskOf 4, .lock 500⟩] none (maskOf 4) seg4) 4 = .locked ∧
      lockOver [⟨maskOf 4, .lock 500⟩] 4 = some 500 := by decide +kernel

theorem witness_LayoutLockAndCapsHold_lock :
    lockedLayout.layout.lock = true ∧ (∀ x y z, Instr.segRemove 0 ≠ .powerOnReset x y z) ∧
      ∃ t, exec (.segRemove 0) lockedLayout = .next t := ⟨rfl, fun _ _ _ => by simp, _, rfl⟩

/-! ### Ports -/

/-- An unknown kind code (spec 9.6): 0x7F. -/
theorem witness_CheckByteAndSpecFrames : ∀ k : Kind, kindCode k ≠ (0xFF : Byte).toNat % 128 := by
  intro k; cases k <;> decide

theorem witness_FrameRoundTrip :
    (ask .nop).wellFormed = true ∧ (ask (.queryDriver 255 255)).wellFormed = true := by decide +kernel

/-- A coupling list of six entries on sensor 9. -/
def sixEntries : State :=
  { seg4 with coupling := { seg4.coupling with
      lists := seg4.coupling.lists.set 9 [⟨0, 1⟩, ⟨1, 1⟩, ⟨2, 1⟩, ⟨3, 1⟩, ⟨12, 1⟩, ⟨13, 4095⟩] } }

theorem witness_ReplyFrames :
    let s := asks 2 (.couplingRead 9) sixEntries
    s.ports[(2 : PortId)].request = some (ask (.couplingRead 9)) ∧ s.ports[(2 : PortId)].role ≠ .off ∧
      ∀ k : SensorId, s.coupling.lists[k].length ≤ 6 := by decide +kernel

theorem witness_ReplyFrames_placed : ∀ p : PortId, State.reset.ports[p].role ≠ .off := by decide

theorem witness_PortChecks_skipped :
    let s := atPort 0 (fun q => { q with request := some ⟨true, 0, .nop⟩, refused := true }) State.reset
    s.ports[(0 : PortId)].request = some ⟨true, 0, .nop⟩ ∧ s.ports[(0 : PortId)].role ≠ .off ∧
      s.ports[(0 : PortId)].refused = true := by decide +kernel

theorem witness_PortChecks_role :
    let s := atPort 1 (fun q => { q with request := some ⟨true, 0, .restart⟩ }) State.reset
    s.ports[(1 : PortId)].request = some ⟨true, 0, .restart⟩ ∧ s.ports[(1 : PortId)].role ≠ .off ∧
      s.ports[(1 : PortId)].refused = false ∧ roleMayIssue s.ports[(1 : PortId)].role .restart = false ∧
      roleMayIssue .shade .queryDriver = false := by decide +kernel

theorem witness_PortChecks_nothing :
    allOff.ports[(0 : PortId)].role = .off ∧ State.reset.ports[(0 : PortId)].request = none ∧
      (asks 0 .nop State.reset).ports[(0 : PortId)].request = some (ask .nop) ∧ kindOf .nop ≠ .ident := by decide +kernel

/-- A NOP's reply waits in the slot. -/
def replyWaits : State := served 0 .nop State.reset

theorem witness_SelectAssertFixesFrame :
    allOff.ports[(0 : PortId)].role = .off ∧ replyWaits.ports[(0 : PortId)].role ≠ .off ∧
      replyWaits.ports[(0 : PortId)].period = none ∧ replyWaits.ports[(0 : PortId)].reply.isSome = true ∧
      (asks 0 .nop State.reset).ports[(0 : PortId)].period = none := by decide +kernel

/-- A period in which the reply of a NOP is shifted out. -/
def replyShifts : State := after (.selectAssert 0) replyWaits

theorem witness_SelectReleaseAccepts_collect :
    replyShifts.ports[(0 : PortId)].role ≠ .off ∧
      replyShifts.ports[(0 : PortId)].period = some ⟨[0x01, 0x11, 0x00, crc8 [0x01, 0x11, 0x00]], true, false⟩ ∧
      replyShifts.ports[(0 : PortId)].reply.map List.length = some 4 := by decide +kernel

theorem witness_SelectReleaseAccepts_request :
    let s := inPeriod 0 ⟨[0x00, 0x00, 0x20, 0xE0], false, false⟩ State.reset
    (ask .nop).wellFormed = true ∧ s.ports[(0 : PortId)].role ≠ .off ∧ s.ports[(0 : PortId)].request = none ∧
      s.ports[(0 : PortId)].reply = none ∧
      s.ports[(0 : PortId)].period = some ⟨[0x00, 0x00, 0x20, 0xE0], false, false⟩ := by decide +kernel

/-- NOP's frame of three bytes and one byte behind it clock a reply of four bytes whole. -/
theorem witness_SelectReleaseAccepts_exchange :
    replyShifts.ports[(0 : PortId)].request = none ∧ (replyShifts.ports[(0 : PortId)].reply.map List.length) = some 4 ∧
      (replyShifts.ports[(0 : PortId)].period.map (·.carriesReply)) = some true ∧
      (requestFrame (ask .nop) ++ [0xFF]).length = 4 := by decide +kernel

/-- Seven bits of a byte cut short, and row 4 of R165: a void period on a free port, released together with the restart. -/
theorem witness_SelectReleaseAccepts_cut_and_restart :
    (List.replicate 7 true).length < 8 ∧ voided.ports[(1 : PortId)].role ≠ .off ∧
      voided.ports[(1 : PortId)].period = some ⟨[], false, true⟩ ∧ voided.ports[(1 : PortId)].request = none ∧
      voided.ports[(1 : PortId)].reply = none := by decide +kernel

theorem witness_SelectReleaseRejects_free :
    let s := inPeriod 0 ⟨[0x00, 0x00, 0x20, 0xE0], false, false⟩ State.reset
    s.ports[(0 : PortId)].role ≠ .off ∧ s.ports[(0 : PortId)].request = none ∧ s.ports[(0 : PortId)].reply = none ∧
      (∃ b ∈ ([0x01] : List Byte), b ≠ 0xFF) ∧ parseFrame [0x01] = none := by decide +kernel

theorem witness_SelectReleaseRejects_busy :
    let s := inPeriod 0 ⟨[0x00, 0x00, 0x21, 0xE7], false, false⟩ (asks 0 .nop State.reset)
    s.ports[(0 : PortId)].role ≠ .off ∧ s.ports[(0 : PortId)].request ≠ none ∧ s.ports[(0 : PortId)].reply = none ∧
      parseFrame [0x01, 0x00, 0x14] = none ∧ parseFrame [0x01, 0x00, 0x15] ≠ none := by decide +kernel

/-- A reply placed during the period; with `replyShifts`, a reply of four bytes of which three are clocked, and one that is
consumed by four bytes that are no frame. -/
theorem witness_SelectReleaseRejects_holding :
    let s := inPeriod 0 ⟨[0x00, 0x00, 0x21, 0xE7], false, false⟩ replyWaits
    s.ports[(0 : PortId)].role ≠ .off ∧ s.ports[(0 : PortId)].reply.isSome = true ∧
      (s.ports[(0 : PortId)].period.map fun d => (d.carriesReply, d.void)) = some (false, false) ∧
      (replyShifts.ports[(0 : PortId)].period.map fun d => (d.carriesReply, d.void)) = some (true, false) ∧
      replyShifts.ports[(0 : PortId)].reply.map List.length = some 4 ∧ replyShifts.ports[(0 : PortId)].request = none ∧
      parseFrame [0x01, 0x00, 0x15] ≠ none ∧ parseFrame [0x01, 0x00, 0x14] = none ∧
      parseFrame [0x01, 0x00, 0x14, 0xFF] = none := by decide +kernel

theorem witness_SelectReleaseRejects_void :
    let s := after (.restart 0) (inPeriod 1 ⟨[0x00, 0x00, 0x20, 0xE0], false, false⟩ (asks 0 .restart State.reset))
    s.ports[(1 : PortId)].role ≠ .off ∧ s.ports[(1 : PortId)].period = some ⟨[], false, true⟩ ∧
      allOff.ports[(1 : PortId)].role = .off ∧ State.reset.ports[(1 : PortId)].period = none := by decide +kernel

theorem witness_AttentionRule :
    ((0xFFEF : BitVec 16) &&& causeMask .segEvent = 0) ∧ (0x07FE : BitVec 16) &&& 0x07FE = 0x07FE ∧
      State.reset.ports[(0 : PortId)].raised &&& causeMask .segEvent = 0 := by decide +kernel

theorem witness_IdentAndCauses :
    RunsOn 0 .nop State.reset ∧ RunsOn 2 .ident State.reset ∧ RunsOn 1 .causesRead State.reset ∧
      RunsOn 1 (.causesClear 0xFFFF) State.reset ∧
      (asks 1 (.causesClear 0xFFFF) State.reset).ports[(1 : PortId)].raised &&& causeMask .segEvent = 0 := by decide +kernel

/-- Nine event sets pending on port 1. -/
def nineSets : State :=
  atPort 1 (fun q => { q with segMask := 0x01FF, events := Vector.ofFn fun i => if i.val < 9 then 1 else 0 }) State.reset

theorem witness_EnablesAndEvents :
    RunsOn 0 (.enablesWrite 0xF801 0xFFFF) State.reset ∧ RunsOn 0 (.enablesWrite 0x07FE 0x0000) State.reset ∧
      RunsOn 1 .eventsRead nineSets ∧ nineSets.ports[(1 : PortId)].raised &&& causeMask .segEvent = 0 ∧
      RunsOn 1 .eventsRead State.reset := by decide +kernel

/-! ### Layout and reset -/

/-- The calibration of segment 4 in progress: the segment is CALIBRATING. -/
theorem witness_LayoutRequestsRefused_define :
    RunsOn 0 (.segDefine 15 1 31 255) lockedLayout ∧ lockedLayout.layout.lock = true ∧ seg4.layout.lock = false ∧
      RunsOn 0 (.segDefine 16 1 31 255) seg4 ∧ RunsOn 0 (.segDefine 15 1 32 255) seg4 ∧
      RunsOn 0 (.segDefine 15 1 31 32) seg4 ∧ RunsOn 0 (.segDefine 15 1 31 254) seg4 ∧
      RunsOn 0 (.segDefine 4 0 31 31) seg4 ∧ configured seg4 4 = true := by decide +kernel

theorem witness_LayoutRequestsRefused_remove :
    RunsOn 0 (.segRemove 4) lockedLayout ∧ RunsOn 0 (.segRemove 16) seg4 ∧ RunsOn 0 (.segRemove 15) seg4 ∧
      configured seg4 15 = false ∧ RunsOn 0 (.segRemove 4) calibrating4 ∧ calibrating4.layout.lock = false ∧
      configured calibrating4 4 = true ∧ modeOf calibrating4 4 = .calibrating := by decide +kernel

theorem witness_LayoutRequestsRefused_tune :
    RunsOn 0 (.segTune 16 0 0 0 0 0 0 0 0) seg4 ∧ RunsOn 0 (.segTune 15 0 0 0 0 0 0 0 0) seg4 ∧
      RunsOn 0 (.segTune 4 0 0 0 0 0 0 0 0) calibrating4 := by decide +kernel

theorem witness_LayoutRequestsRefused_band :
    RunsOn 0 (.bandSet 16 0 0 0 0 0) seg4 ∧ RunsOn 0 (.bandSet 15 0 0 0 0 0) seg4 ∧ RunsOn 0 (.bandSet 4 2 0 0 0 0) seg4 ∧
      (segCfg seg4 4).bandCount = 2 ∧ RunsOn 0 (.bandSet 4 1 0 0 0 0) calibrating4 ∧
      (segCfg calibrating4 4).bandCount = 2 ∧ RunsOn 0 (.bandSet 4 1 0 0 1000 999) seg4 ∧ modeOf seg4 4 ≠ .calibrating := by
  decide +kernel

theorem witness_SegDefineAccepted :
    RunsOn 0 (.segDefine 15 4 31 255) seg4 ∧ RunsOn 0 (.segDefine 0 0 0 31) seg4 ∧ RunsOn 0 (.segDefine 5 3 31 31) seg4 ∧
      seg4.layout.lock = false ∧ configured seg4 15 = false ∧ configured seg4 0 = false ∧ configured seg4 5 = false ∧
      ExistenceLaw seg4 ∧ QueueLaw seg4.lum := by decide +kernel

theorem witness_SegRemoveAccepted :
    RunsOn 0 (.segRemove 4) capped4 ∧ capped4.layout.lock = false ∧ configured capped4 4 = true ∧
      modeOf capped4 4 ≠ .calibrating ∧ capped4.lum.link.tx = some (.setLevel 12 800 true) := by decide +kernel

theorem witness_SegRemoveAccepted_joint : JointLaw (asks 0 (.segRemove 4) capped4) ∧ (4 : SegId) ≠ 5 := by decide +kernel

theorem witness_TuneAndBandAccepted :
    RunsOn 0 (.segTune 4 2000 100 50 6 6 100 100 1000) seg4 ∧ RunsOn 0 (.segTune 4 2001 2001 51 7 7 0 101 1001) seg4 ∧
      RunsOn 0 (.bandSet 4 1 256 4095 1000 1000) seg4 ∧ RunsOn 0 (.bandSet 4 1 257 0 1001 1000) seg4 ∧
      configured seg4 4 = true ∧ (segCfg seg4 4).bandCount = 2 ∧ modeOf seg4 4 ≠ .calibrating := by decide +kernel

theorem witness_PartSettings :
    RunsOn 0 .layoutLock State.reset ∧ RunsOn 1 (.settleSet 60) seg4 ∧ RunsOn 1 (.settleSet 61) seg4 ∧
      RunsOn 1 (.glareSet 0xFFFF 20001) seg4 ∧ RunsOn 1 (.glareSet (maskOf 4) 0) seg4 ∧
      maskOf 4 &&& configuredMask seg4 ≠ 0 := by decide +kernel

/-- RESTART with the link idle, with each kind of transmission, in DOWN, with a poll in flight and with a run. -/
theorem witness_WarmRestart :
    RunsOn 0 .restart State.reset ∧ RunsOn 0 .restart seg4 ∧ seg4.lum.link.tx = some (.setLevel 12 800 true) ∧
      RunsOn 0 .restart (withLink (fun k => { k with tx := some (.query 12 .status true) }) seg4) ∧
      RunsOn 0 .restart (withLink (fun k => { k with tx := some (.window 12 .status true) }) seg4) ∧
      RunsOn 0 .restart (after .busFault seg4) ∧ (after .busFault seg4).lum.link.faultReported = true ∧
      RunsOn 0 .restart (polling ⟨9, .awaiting, false, false⟩ seg4) ∧ RunsOn 0 .restart calibrating4 ∧
      seg4.lum.link.faultReported = false ∧ State.reset.lum.link.tx = none := by decide +kernel

/-! ### Reading requests -/

theorem witness_SensorCouplingTableRead :
    RunsOn 0 (.sensorRead 31) seg4 ∧ RunsOn 1 (.couplingRead 9) sixEntries ∧
      sixEntries.coupling.lists[(9 : SensorId)].length = 6 ∧ RunsOn 2 (.tableRead 31) capped4 ∧
      RunsOn 2 (.tableRead 0) capped4 ∧ capped4.table.entries ≠ [] := by decide +kernel

theorem witness_SegReadRule :
    RunsOn 0 (.segRead 4) capped4 ∧ configured capped4 4 = true ∧ LevelsLaw capped4 ∧ RunsOn 0 (.segRead 15) capped4 ∧
      configured capped4 15 = false ∧ TableLaw capped4 := by decide +kernel

theorem witness_QueryEnergyCalRead :
    RunsOn 0 .queryResult seg4 ∧ RunsOn 1 (.energyRead 15) seg4 ∧ RunsOn 1 (.energyRead 0) seg4 ∧
      RunsOn 2 .calResultRead seg4 ∧ seg4.cal.run = none ∧ RunsOn 2 .calResultRead calibrating4 ∧
      calibrating4.cal.run.map (·.phase) = some .settleBase := by decide +kernel

/-! ### Coupling store and request table -/

theorem witness_CouplingWriteRule_refused :
    RunsOn 0 (.couplingWrite 32 0 0 []) seg4 ∧ RunsOn 0 (.couplingWrite 9 0 7 []) seg4 ∧
      RunsOn 0 (.couplingWrite 9 0 1 [(48, 1)]) seg4 ∧ ¬ NamesGroup seg4.lum 48 ∧ ¬ NamesGroup seg4.lum 14 ∧
      RunsOn 0 (.couplingWrite 9 0 2 [(12, 1), (12, 2)]) seg4 ∧ ¬ ((([(12, 1), (12, 2)] : List (Nat × Nat)).map Prod.fst).Nodup) ∧
      RunsOn 0 (.couplingWrite 9 0 1 [(12, 1)]) calibrating4 ∧ NamesGroup calibrating4.lum 12 ∧
      (calibrating4.cal.run.map fun r => r.sensors.contains 9) = some true := by decide +kernel

theorem witness_CouplingWriteRule_accepted :
    RunsOn 0 (.couplingWrite 31 255 0 []) calibrating4 ∧ (calibrating4.cal.run.map fun r => r.sensors.contains 31) = some false ∧
      RunsOn 0 (.couplingWrite 9 0 2 [(13, 4096), (12, 0), (48, 1)]) seg4 ∧ NamesGroup seg4.lum 12 ∧ NamesGroup seg4.lum 13 ∧
      seg4.cal.run = none := by decide +kernel

theorem witness_RangeAndTableRefused_range :
    RunsOn 0 (.segRead 16) seg4 ∧ RunsOn 0 (.sensorRead 32) seg4 ∧ RunsOn 0 (.tableRead 32) seg4 ∧
      RunsOn 0 (.couplingRead 32) seg4 ∧ RunsOn 0 (.energyRead 16) seg4 ∧ RunsOn 2 (.capSet 8 (maskOf 4) 0 1) seg4 ∧
      RunsOn 2 (.capCancel 8) seg4 := by decide +kernel

theorem witness_RangeAndTableRefused_notConfigured :
    (0xFFEF : SegMask) &&& configuredMask seg4 = 0 ∧ RunsOn 0 (.overrideSet 0xFFEF 0 1) seg4 ∧
      RunsOn 0 (.overrideCancel 0xFFEF) seg4 ∧ RunsOn 0 (.lockSet 0xFFEF 0) seg4 ∧ RunsOn 0 (.lockRelease 0xFFEF) seg4 ∧
      RunsOn 1 (.holdSet 0xFFEF 1) seg4 ∧ RunsOn 1 (.holdSettled 0xFFEF) seg4 ∧ RunsOn 1 (.glareSet 0xFFEF 1) seg4 ∧
      RunsOn 2 (.energyClear 0xFFEF) seg4 ∧ RunsOn 2 (.capSet 7 0xFFEF 0 1) seg4 := by decide +kernel

/-- Every segment configured with one band on sensor 0. -/
def sixteen : State :=
  { State.reset with
    layout := { State.reset.layout with segs := Vector.replicate 16 (definedConfig 1 0 none) }
    ctrls := Vector.replicate 16 (definedCtrl (definedConfig 1 0 none)) }

/-- 32 entries without a cap: an override and a lock on segments of their own, and one hold over segments 0 and 1. -/
def fullTable : State :=
  withTable ((List.finRange 16).map (fun i => ⟨maskOf i, .override 500 100⟩) ++
    ((List.finRange 16).drop 1).map (fun i => ⟨maskOf i, .lock 500⟩) ++ [⟨0x0003, .hold 100 false⟩]) 10 sixteen

/-- The same with one override fewer. -/
def nearlyFull : State := { fullTable with table := { fullTable.table with entries := fullTable.table.entries.drop 1 } }

theorem witness_RangeAndTableRefused_full :
    fullTable.table.entries.length = 32 ∧ (∀ e ∈ fullTable.table.entries, isCap 7 e = false) ∧
      (0x0001 : SegMask) &&& configuredMask fullTable ≠ 0 ∧ RunsOn 2 (.capSet 7 0x0001 0 1) fullTable ∧ TableLaw fullTable := by
  decide +kernel

theorem witness_SetRequests_full :
    RunsOn 0 (.lockSet 0x0001 1001) fullTable ∧
      (takeOut isLock ((0x0001 : SegMask) &&& configuredMask fullTable) fullTable.table.entries).length = 32 ∧
      RunsOn 1 (.holdSet 0x0001 601) fullTable ∧
      (takeOut isHold ((0x0001 : SegMask) &&& configuredMask fullTable) fullTable.table.entries).length = 32 ∧
      RunsOn 0 (.overrideSet 0x0001 0 481) (withTable (fullTable.table.entries.drop 1 ++ [⟨0x0004, .cap 0 0 none⟩]) 10 sixteen) ∧
      (takeOut isOverride 0x0001 (fullTable.table.entries.drop 1 ++ [⟨0x0004, .cap 0 0 none⟩])).length = 32 := by
  decide +kernel

theorem witness_SetRequests_room :
    RunsOn 0 (.overrideSet 0x0001 1000 480) fullTable ∧
      (takeOut isOverride ((0x0001 : SegMask) &&& configuredMask fullTable) fullTable.table.entries).length = 31 ∧
      RunsOn 0 (.lockSet 0x0001 1000) nearlyFull ∧
      (takeOut isLock ((0x0001 : SegMask) &&& configuredMask nearlyFull) nearlyFull.table.entries).length = 31 ∧
      RunsOn 1 (.holdSet 0x0003 600) fullTable ∧
      (takeOut isHold ((0x0003 : SegMask) &&& configuredMask fullTable) fullTable.table.entries).length = 31 ∧
      (0x0001 : SegMask) &&& configuredMask nearlyFull ≠ 0 := by decide +kernel

theorem witness_ReleaseRequests :
    RunsOn 0 (.overrideCancel 0xFFFF) fullTable ∧ RunsOn 0 (.lockRelease 0xFFFF) fullTable ∧
      (0xFFFF : SegMask) &&& configuredMask fullTable ≠ 0 ∧ RunsOn 1 (.holdSettled 0x0004) fullTable ∧
      holdOver fullTable.table.entries 2 = false ∧ RunsOn 1 (.holdSettled 0x0001) fullTable ∧
      holdOver fullTable.table.entries 0 = true ∧ fullTable.table.settle ≠ 0 ∧
      (takeOut isHold 0x0001 fullTable.table.entries).length = 32 ∧
      (takeOut isHold 0x0003 fullTable.table.entries).length = 31 ∧
      RunsOn 1 (.holdSettled 0x0003) { fullTable with table := { fullTable.table with settle := 0 } } := by decide +kernel

theorem witness_CapSetAndCancel_change :
    TableLaw capped4 ∧ capped4.table.entries = [] ++ ⟨maskOf 4, .cap 3 600 none⟩ :: [] ∧
      isCap 3 ⟨maskOf 4, .cap 3 600 none⟩ = true ∧ RunsOn 2 (.capSet 3 (maskOf 4) 1001 65535) capped4 ∧
      maskOf 4 &&& configuredMask capped4 ≠ 0 ∧ RunsOn 2 (.capCancel 3) capped4 := by decide +kernel

theorem witness_CapSetAndCancel_append :
    TableLaw nearlyFull ∧ nearlyFull.table.entries.length = 31 ∧ (∀ e ∈ nearlyFull.table.entries, isCap 7 e = false) ∧
      RunsOn 2 (.capSet 7 0x8000 1000 240) nearlyFull ∧ RunsOn 2 (.capSet 7 0x8000 1000 241) nearlyFull ∧
      (0x8000 : SegMask) &&& configuredMask nearlyFull ≠ 0 ∧ RunsOn 2 (.capCancel 7) nearlyFull := by decide +kernel

theorem witness_TableChangeRule :
    capped4.cal.run = none ∧ configured capped4 4 = true ∧ maskHas (maskOf 4) 4 = true ∧ configured capped4 5 = false ∧
      calibrating4.cal.run.isSome = true ∧ ModeLaw calibrating4 ∧
      (calibrating4.cal.run.map fun r => decide (maskOf 4 &&& r.segments ≠ 0)) = some true ∧
      (calibrating4.cal.run.map fun r => max r.params.highEff r.params.base) = some 900 ∧ 899 < 900 := by decide +kernel

/-- Entries that leave the run of segment 4 in progress: one elsewhere, and a cap of exactly the run's highest level; and the
mode that a hold gives from each mode. -/
theorem witness_TableChangeRule_goes_on :
    (calibrating4.cal.run.map fun r => decide ((0x0008 : SegMask) &&& r.segments = 0)) = some true ∧
      (calibrating4.cal.run.map fun r => decide (maskOf 4 &&& r.segments ≠ 0 ∧ max r.params.highEff r.params.base ≤ 900))
        = some true ∧
      [Mode.start, .active, .degraded, .held, .locked].map (fun m => coveredMode m [⟨maskOf 4, .hold 9 false⟩] 4) =
        [.held, .held, .held, .held, .held] := by decide +kernel

/-- The first PASS of segment 4 with data takes it to ACTIVE, on a port whose mask holds it. -/
def firstPass : State :=
  atPort 1 (fun q => { q with segMask := maskOf 4 }) (withHolder 9 ⟨.fresh, some 300, false, 0, some 7⟩ seg4)

theorem witness_ModeChangeRaised :
    (∀ x y z, Instr.pass 4 ≠ .powerOnReset x y z) ∧ (∀ p, Instr.pass 4 ≠ .restart p) ∧ (∀ p, Instr.pass 4 ≠ .segRemove p) ∧
      ∃ t, exec (.pass 4) firstPass = .next t :=
  ⟨fun _ _ _ => by simp, fun _ => by simp, fun _ => by simp, _, rfl⟩

theorem witness_ModeChangeRaised_mode :
    modeOf (after (.pass 4) firstPass) 4 = .active ∧ modeOf firstPass 4 = .start ∧
      firstPass.ports[(1 : PortId)].role ≠ .off ∧ maskHas firstPass.ports[(1 : PortId)].segMask 4 = true := by decide +kernel

theorem witness_TickAndExpiry_end : 4294967295 ≤ (withTable [] 4294967295 seg4).table.uptime := by decide +kernel

theorem witness_TickAndExpiry :
    lastSecond.table.uptime < 4294967295 ∧
      expiryOf ⟨maskOf 4, .cap 3 600 (some 4294967295)⟩ = some (lastSecond.table.uptime + 1) := by decide +kernel

/-! ### Sensor link and passes -/

theorem witness_RoundsRule :
    (polling ⟨9, .awaiting, false, false⟩ seg4).sensors.round ≠ none ∧ seg4.sensors.round = none ∧
      assigned seg4.layout 9 = true ∧ (∀ j : SensorId, j < 9 → assigned seg4.layout j = false) ∧
      (∀ k : SensorId, assigned State.reset.layout k = false) ∧
      (polling ⟨9, .turnaround, false, false⟩ seg4).sensors.poll = some ⟨9, .turnaround, false, false⟩ ∧
      (∀ k : SensorId, (if false = true then 0 else (9 : SensorId).val + 1) ≤ k.val → assigned seg4.layout k = false) ∧
      (polling ⟨9, .turnaround, true, true⟩ seg4).sensors.poll = some ⟨9, .turnaround, true, true⟩ := by decide +kernel

theorem witness_GoodReplyStored :
    (polling ⟨9, .awaiting, false, false⟩ seg4).sensors.poll = some ⟨9, .awaiting, false, false⟩ ∧
      crc8 [9, 0x4E, 0x20, 0x00] = crc8 [BitVec.ofNat 8 (9 : SensorId).val, 0x4E, 0x20, 0x00] ∧
      256 * (0x4E : Byte).toNat + (0x20 : Byte).toNat = 20000 ∧ seg4.cal.run = none ∧
      (withRun (fun r => { r with stage := .sample, phase := .probeHigh })
        (polling ⟨9, .awaiting, false, false⟩ calibrating4)).cal.run.map (fun r => (r.stage, decide (9 ∈ r.sensors))) =
        some (.sample, true) ∧
      calibrating4.cal.run.map (fun r => decide (r.stage ≠ .sample)) = some true := by decide +kernel

theorem witness_MissesAndFaults :
    (polling ⟨9, .awaiting, false, false⟩ seg4).sensors.poll = some ⟨9, .awaiting, false, false⟩ ∧
      crc8 [9, 0, 0, 0x00] ≠ crc8 [9, 0, 0, 0x00] + 1 ∧ (0x03 : Byte) ≠ 0x00 ∧ (0x03 : Byte) ≠ 0x01 ∧ (0x03 : Byte) ≠ 0x02 ∧
      (polling ⟨9, .awaiting, true, false⟩ seg4).sensors.poll = some ⟨9, .awaiting, true, false⟩ := by decide +kernel

theorem witness_RawDaylightRule :
    (segCfg seg4 4).primary = some 9 ∧ (segCfg seg4 4).secondary = none ∧
      (withHolder 9 ⟨.suspect, some 300, false, 2, some 7⟩ seg4).sensors.holders[(9 : SensorId)].state = .suspect ∧
      (segCfg worked 2).primary = some 5 ∧ (segCfg worked 2).secondary = some 6 ∧
      worked.sensors.holders[(5 : SensorId)].state = .fresh ∧ worked.sensors.holders[(6 : SensorId)].state = .fresh ∧
      (withHolder 6 ⟨.stale, none, false, 3, none⟩ worked).sensors.holders[(6 : SensorId)].state = .stale ∧
      (withHolder 5 ⟨.noData, none, false, 0, none⟩ worked).sensors.holders[(5 : SensorId)].state = .noData ∧
      seg4.sensors.holders[(9 : SensorId)].state = .noData := by decide +kernel

theorem witness_PassCountsAndMode :
    configured worked 2 = true ∧ worked.ctrls[(2 : SegId)].passTimer ≠ none ∧ configured seg4 4 = true ∧
      seg4.ctrls[(4 : SegId)].passTimer ≠ none ∧ (rawDaylight worked 2).isSome = true ∧ rawDaylight seg4 4 = none := by
  decide +kernel

theorem witness_PassControlAndEvents :
    configured worked 2 = true ∧ worked.ctrls[(2 : SegId)].passTimer ≠ none ∧
      modeOf (after (.pass 2) worked) 2 = .active ∧ modeOf worked 2 = .active ∧ worked.ctrls[(2 : SegId)].filter = some 980 ∧
      worked.ports[(0 : PortId)].role ≠ .off ∧
      maskHas (atPort 0 (fun q => { q with segMask := 0x0004 }) worked).ports[(0 : PortId)].segMask 2 = true ∧
      maskHas worked.ports[(0 : PortId)].segMask 2 = false ∧ modeOf (after (.pass 4) seg4) 4 ≠ .active := by decide +kernel

theorem witness_PassControlAndEvents_next : ∃ t, exec (.pass 2) worked = .next t := ⟨_, rfl⟩

/-! ### Fading, energy and the luminaire link -/

theorem witness_FadeRule_step :
    (withGroup 22 { newGroup 450 with timer := true } fading7).lum.groups[(22 : GroupId)] =
        some { newGroup 450 with timer := true } ∧
      (withGroup 22 { newGroup 450 with demanded := 451, timer := true } fading7).lum.groups[(22 : GroupId)] =
        some { newGroup 450 with demanded := 451, timer := true } ∧
      queued fading7.lum.link 22 = true ∧ queued fading7.lum.link 21 = false ∧
      worked.lum.groups[(7 : GroupId)] = some { newGroup 550 with demanded := 130, timer := true } ∧
      queued worked.lum.link 7 = false ∧ worked.lum.link.state = .running ∧ (newGroup 550).unsent = false ∧
      (withLink (fun k => { k with state := .paused }) worked).lum.link.state = .paused := by decide +kernel

/-- Group 13's step timer runs out at its assigned level of 300 in the FADE_WAIT of a run that assigns 300, with group 12 at
rest at it or one below. -/
def fadeWaiting (present : Nat) : State :=
  withGroup 12 (newGroup present) (withGroup 13 { newGroup 300 with timer := true }
    (withRun (fun r => { r with assigned := (r.assigned.set 12 300).set 13 300 }) calibrating4))

/-- A group at rest that is handed a new demand, with an entry in the queue, marked unsent, and with neither. -/
theorem witness_FadeRule_handed :
    (newGroup 700).timer = false ∧ (newGroup 700).present = (newGroup 700).demanded ∧ (0 : Nat) ≠ (newGroup 700).demanded ∧
      fading7.lum.groups[(22 : GroupId)] = some { newGroup 500 with power := 80 } ∧ queued fading7.lum.link 22 = true ∧
      queued fading7.lum.link 21 = false ∧ fading7.lum.link.state = .running := by decide +kernel

theorem witness_FadeRule_wait :
    let after300 := after (.fadeStep 13) (fadeWaiting 300)
    (fadeWaiting 300).lum.groups[(13 : GroupId)] = some { newGroup 300 with timer := true } ∧
      ((fadeWaiting 300).cal.run.map fun r => decide (r.stage = .fadeWait ∧ (13 : GroupId) ∈ r.groups ∧
        ∀ x ∈ r.groups, groupExists (fadeWaiting 300).lum x = true)) = some true ∧
      ((fadeWaiting 300).cal.run.map fun r => decide (Faded r after300.lum)) = some true ∧
      (after300.cal.run.map fun r => (r.stage, r.timer)) = some (.settle, some 500) ∧
      ((fadeWaiting 299).cal.run.map fun r => decide (Faded r (after (.fadeStep 13) (fadeWaiting 299)).lum)) = some false := by
  decide +kernel

theorem witness_FadeRule_demand :
    fading7.lum.groups[(21 : GroupId)] = some { newGroup 700 with power := 50 } ∧ (newGroup 700).demanded = 700 ∧
      (newGroup 700).present = 700 ∧ (newGroup 700).timer = false ∧
      worked.lum.groups[(8 : GroupId)] = some { newGroup 800 with demanded := 400, timer := true } := by decide +kernel

theorem witness_EnergyRule :
    RunsOn 2 (.energyClear 0xFFFF) fading7 ∧ (0xFFFF : SegMask) &&& configuredMask fading7 ≠ 0 ∧
      RunsOn 2 (.powerSet 22 4095) fading7 ∧ RunsOn 2 (.powerSet 22 4096) fading7 ∧ RunsOn 0 (.groupClearFail 22) fading7 ∧
      fading7.lum.groups[(22 : GroupId)].isSome = true ∧ ¬ NamesGroup fading7.lum 23 ∧ ¬ NamesGroup fading7.lum 48 ∧
      RunsOn 2 (.powerSet 48 0) fading7 ∧ RunsOn 0 (.groupClearFail 23) fading7 ∧ configured fading7 7 = true ∧
      configured fading7 6 = false := by decide +kernel

/-- The link with the unit waiting on group 12 and, where asked, a level for it. -/
def waitingUnit (levels : List (GroupId × Nat)) (grant : Grant) : State :=
  withLink (fun k =>
    { k with tx := none, queue := levels, lastGrant := grant, unit := .waiting true
             record := ⟨false, 0, 12, .status, none⟩ }) seg4

theorem witness_LinkFreeAndCompletions_free :
    (waitingUnit [] .query).lum.link.tx = none ∧ (waitingUnit [] .query).lum.link.state = .running ∧
      (waitingUnit [] .query).lum.link.queue = [] ∧ (waitingUnit [(12, 800)] .level).lum.link.unit = .waiting true ∧
      (waitingUnit [(12, 800)] .query).lum.link.queue = (12, 800) :: [] ∧
      (waitingUnit [(12, 800)] .query).lum.link.lastGrant = .query ∧
      (withLink (fun k => { k with state := .draining }) State.reset).lum.link.unit = .idle ∧
      (withLink (fun k => { k with state := .draining }) State.reset).lum.link.tx = none ∧
      (withLink (fun k => { k with state := .draining }) State.reset).lum.link.queue = [] ∧
      (withLink (fun k => { k with state := .paused }) State.reset).lum.link.tx = none := by decide +kernel

/-- A link on which nothing waits. -/
theorem witness_LinkFreeAndCompletions_nothing :
    (waitingUnit [] .query).lum.link.unit = .waiting true ∧ State.reset.lum.link.queue = [] ∧
      State.reset.lum.link.unit = .idle ∧ State.reset.lum.link.tx = none := by decide +kernel

/-- A drain whose last work is the answer of a query in flight, and one whose transmission still runs. -/
theorem witness_LinkFreeAndCompletions_drain :
    let k := (withLink (fun k => { k with state := .draining, tx := none, queue := [], unit := .inFlight true }) seg4).lum.link
    (k.state, k.queue, k.unit) = (.draining, [], .inFlight true) ∧ seg4.lum.link.tx ≠ none := by decide +kernel

theorem witness_LinkFreeAndCompletions_done :
    seg4.lum.link.tx = some (.setLevel 12 800 true) ∧
      (withLink (fun k => { k with tx := some (.query 12 .status true) }) seg4).lum.link.tx =
        some (.query 12 .status true) := by decide +kernel

theorem witness_AnswerWindowRule :
    let s := withLink (fun k => { k with tx := some (.window 12 .status true), unit := .inFlight true
                                         record := ⟨false, 0, 12, .status, none⟩ }) seg4
    s.lum.link.tx = some (.window 12 .status true) ∧ s.lum.link.unit = .inFlight true ∧
      (withLink (fun k => { k with tx := some (.window 12 .status false) }) seg4).lum.link.tx =
        some (.window 12 .status false) := by decide +kernel

theorem witness_QueryDriverRule_refused :
    RunsOn 0 (.queryDriver 48 0) seg4 ∧ ¬ NamesGroup seg4.lum 48 ∧ RunsOn 0 (.queryDriver 12 2) seg4 ∧
      RunsOn 2 (.queryDriver 12 1) (waitingUnit [] .level) ∧ NamesGroup (waitingUnit [] .level).lum 12 ∧
      (waitingUnit [] .level).lum.link.unit ≠ .idle ∧
      RunsOn 2 (.queryDriver 12 1) (withLink (fun k => { k with state := .draining }) seg4) ∧ seg4.lum.link.unit = .idle ∧
      RunsOn 2 (.queryDriver 12 0) (after .busFault seg4) ∧ (after .busFault seg4).lum.link.state = .down ∧
      NamesGroup (after .busFault seg4).lum 12 ∧ (after .busFault seg4).lum.link.unit = .idle := by decide +kernel

theorem witness_QueryDriverRule_accepted :
    RunsOn 2 (.queryDriver 12 1) seg4 ∧ groupExists seg4.lum 12 = true ∧ itemCode .status = 1 ∧ seg4.lum.link.unit = .idle ∧
      seg4.lum.link.state = .running ∧ seg4.lum.link.tx ≠ none ∧
      RunsOn 2 (.queryDriver 12 0) (withLink (fun k => { k with tx := none, queue := [] }) seg4) := by decide +kernel

theorem witness_PauseAndResume :
    RunsOn 0 .linkPause calibrating4 ∧ calibrating4.cal.run ≠ none ∧ RunsOn 0 .linkPause seg4 ∧ seg4.cal.run = none ∧
      seg4.lum.link.state = .running ∧ RunsOn 0 .linkPause (after .busFault seg4) ∧
      RunsOn 0 .linkPause (withLink (fun k => { k with state := .draining }) seg4) ∧
      RunsOn 0 .linkResume (after .busFault seg4) ∧ (after .busFault seg4).lum.link.state = .down ∧
      RunsOn 0 .linkResume seg4 ∧ RunsOn 0 .linkResume (withLink (fun k => { k with state := .paused }) seg4) := by
  decide +kernel

theorem witness_BusFaultAndRestoration :
    seg4.lum.link.faultReported = false ∧ seg4.cal.run = none ∧ calibrating4.lum.link.faultReported = false ∧
      calibrating4.cal.run.isSome = true ∧ (after .busFault seg4).lum.link.faultReported = true ∧
      (after .busFault seg4).lum.link.pauseInForce = false ∧
      (after .busFault (withLink (fun k => { k with state := .draining }) seg4)).lum.link.pauseInForce = true := by
  decide +kernel

/-! ### Calibration -/

/-- Segment 4 under a lock. -/
def locked4 : State := tableChange [⟨maskOf 4, .lock 500⟩] none (maskOf 4) seg4
/-- Segment 4 under a hold. -/
def held4 : State := tableChange [⟨maskOf 4, .hold 100 false⟩] none (maskOf 4) seg4

theorem witness_CalStartRefused_early :
    RunsOn 0 (.calStart (maskOf 4) 0 100 0 0 0 0) calibrating4 ∧ calibrating4.cal.run ≠ none ∧
      RunsOn 0 (.calStart 0xFFEF 0 100 0 0 0 0) seg4 ∧
      (∀ i, ¬ (maskHas 0xFFEF i = true ∧ configured seg4 i = true)) ∧
      RunsOn 0 (.calStart 0xFFFF 0 100 0 0 0 0) locked4 ∧ modeOf locked4 4 = .locked ∧ configured locked4 4 = true ∧
      RunsOn 0 (.calStart 0xFFFF 0 100 0 0 0 0) held4 ∧ modeOf held4 4 = .held ∧
      RunsOn 0 (.calStart 0xFFFF 0 100 0 0 0 0) (withLink (fun k => { k with state := .paused }) seg4) ∧
      RunsOn 0 (.calStart 0xFFFF 0 100 0 0 0 0) (after .busFault seg4) ∧ (after .busFault seg4).lum.link.state = .down := by
  decide +kernel

theorem witness_CalStartRefused_late :
    RunsOn 0 (.calStart (maskOf 4) 600 1000 0 0 0 0x30) capped4 ∧ 0x30 / 16 = 3 ∧
      RunsOn 0 (.calStart (maskOf 4) 601 1000 0 0 0 0x2F) capped4 ∧
      RunsOn 0 (.calStart (maskOf 4) 600 1000 901 0 0 0x20) capped4 ∧
      RunsOn 0 (.calStart (maskOf 4) 600 1000 501 0 0 0x20) capped4 ∧ capsOver capped4.table.entries 4 = [600] ∧
      (∀ i : SegId, maskHas (maskOf 4) i = true → configured capped4 i = true → ∀ c ∈ capsOver capped4.table.entries i, 600 ≤ c) ∧
      (∀ i : SegId, maskHas (maskOf 4) i = true → configured capped4 i = true →
        modeOf capped4 i ≠ .locked ∧ modeOf capped4 i ≠ .held) ∧
      maskOf 4 &&& configuredMask capped4 ≠ 0 ∧ capped4.lum.link.state = .running ∧ capped4.cal.run = none := by
  decide +kernel

/-- The swing of exactly 100 under the cap of 600, and a base at the cap. -/
theorem witness_CalStartAccepted :
    RunsOn 0 (.calStart 0xFFFF 600 1001 500 499 255 0x20) capped4 ∧ 0x20 / 16 < 3 ∧ min 600 1000 ≤ 600 ∧
      min 500 1000 + 100 ≤ min (min 1001 1000) 600 ∧ (0xFFFF : SegMask) &&& configuredMask capped4 ≠ 0 ∧
      600 ∈ capsOver capped4.table.entries 4 ∧
      (∀ i : SegId, maskHas 0xFFFF i = true → configured capped4 i = true → ∀ c ∈ capsOver capped4.table.entries i, 600 ≤ c) ∧
      (∀ i : SegId, maskHas 0xFFFF i = true → configured capped4 i = true →
        modeOf capped4 i ≠ .locked ∧ modeOf capped4 i ≠ .held) := by decide +kernel

theorem witness_CalAbortRule :
    RunsOn 0 .calAbort seg4 ∧ seg4.cal.run = none ∧ RunsOn 0 .calAbort calibrating4 ∧ calibrating4.cal.run.isSome = true ∧
      modeOf calibrating4 4 = .calibrating ∧ (calibrating4.cal.run.map fun r => maskHas r.segments 4) = some true := by
  decide +kernel

/-- The run of segment 4, whose groups are 12 and 13, in a stage and phase of its own. -/
def runAt (phase : Phase) (stage : Stage) (probe cycle : Nat) (dark : DarkOption) : Option CalRun :=
  calibrating4.cal.run.map fun r =>
    { r with phase := phase, stage := stage, timer := some 500, probe := probe, cycle := cycle
             params := { r.params with dark := dark } }

/-- The facts of a run that the clauses ask for. -/
def runFacts (r : CalRun) : Stage × Bool × Bool × Bool :=
  (r.stage, r.timer.isSome, decide (r.params.loops ≤ r.cycle), decide (r.groups.length ≤ r.probe + 1))

theorem witness_CalStages :
    [runAt .settleBase .settle 0 1 .first, runAt .settleBase .baseHold 0 1 .first, runAt .dark .sample 0 1 .first,
      runAt .probeHigh .sample 0 1 .first, runAt .probeLow .sample 0 1 .first, runAt .probeLow .sample 0 2 .first,
      runAt .probeLow .sample 1 2 .last].map (·.map runFacts) =
      [some (.settle, true, false, false), some (.baseHold, true, false, false), some (.sample, true, false, false),
        some (.sample, true, false, false), some (.sample, true, false, false), some (.sample, true, true, false),
        some (.sample, true, true, true)] := by decide +kernel

/-- The entry to PROBE_HIGH: every segment of the run is CALIBRATING, and group 12, the probe, is assigned a new level. -/
theorem witness_CalStages_levels :
    let s := withRun (fun r => { r with phase := .dark, stage := .sample, timer := some 1000 }) calibrating4
    let t := after .calStageTimerExpiry s
    (s.cal.run.map fun r => decide (∀ i : SegId, maskHas r.segments i = true → modeOf s i = .calibrating)) = some true ∧
      (s.cal.run.map fun r => decide ((12 : GroupId) ∈ r.groups)) = some true ∧
      ((s.cal.run.map fun r => r.assigned[(12 : GroupId)]), (t.cal.run.map fun r => r.assigned[(12 : GroupId)])) =
        (some 0, some 900) := by decide +kernel

theorem witness_CommitRule :
    (runAt .dark .sample 1 2 .last).map runFacts = some (.sample, true, true, true) ∧
      (runAt .probeLow .sample 1 2 .none).map runFacts = some (.sample, true, true, true) ∧
      (runAt .dark .sample 1 2 .last).map (fun r => (r.phase, r.params.dark)) = some (.dark, .last) ∧
      (calibrating4.cal.run.map fun r => (maskHas r.segments 4, r.sensors.contains 9, r.sensors.contains 8)) =
        some (true, true, false) ∧ modeOf calibrating4 4 = .calibrating := by decide +kernel

theorem witness_CalArithmetic :
    let q : CalParams := ⟨300, 900, 900, 800, 1500, 500, 2, .first⟩
    q.low + 100 ≤ q.highEff ∧ (2225 * 7 : Nat) > 311 * 8 ∧ (800 * 8 : Nat) ≤ 800 * 8 ∧
      (runAt .probeLow .sample 1 2 .none).map (fun r => r.groups.contains 12 && !r.groups.contains 9) = some true ∧
      measuredOf ⟨0, 0, 0, 0, 0, 0, [⟨12, 2⟩], .notTaken⟩ 12 = some 2 ∧
      measuredOf ⟨0, 0, 0, 0, 0, 0, [⟨12, 2⟩], .notTaken⟩ 13 = none ∧ coeffIn [⟨9, 14⟩] 9 = some 14 := by decide +kernel

end Sys2Proof.Tests
end

section
/-! PROOFS. What every invariant of a step needs: a step is its front command, a request keeps what its owning block keeps,
and the commands that touch neither controllers, entries, run, coupling lists nor demanded levels. -/

namespace Sys2Proof.Proofs

open Sys2Proof Sys2Proof.Machine Sys2Proof.Safety Sys2Proof.Laws

/-! ## Steps and requests -/

/-- What does not read the queue and is kept by every command is kept by every step. -/
theorem step_keeps {P : State → Prop} (hq : ∀ s l, P s → P { s with pending := l })
    (hc : ∀ c s t, P s → exec c s = .next t → P t) (s t : State) (hs : P s) (h : step s = .next t) : P t := by
  unfold step at h
  split at h
  · cases h; exact hs
  · exact hc _ _ _ (hq s _ hs) h

/-- What does not read the ports is kept by a request where its owning block keeps it: the reply changes a port alone. -/
theorem serve_keeps {P : State → Prop} (hp : ∀ s x, P s → P (s.setPorts x)) {p : PortId} {k : Kind}
    {owner : Body → State → Response} {s : State} (hs : P s) (ho : ∀ b, P (owner b s).state) : P (serve p k owner s) := by
  rcases serve_cases p k owner s with ⟨e, _⟩ | ⟨r, _, _, _, ⟨_, _, e⟩ | ⟨_, _, e⟩ | ⟨_, e⟩⟩ <;> rw [e]
  · exact hs
  · exact hp _ _ hs
  · exact hp _ _ hs
  · exact hp _ _ (ho _)

/-! ## Commands that leave the joint stores alone -/

/-- What the laws read of a run: its segments, groups, assigned levels and parameters. -/
def runKey (r : CalRun) : SegMask × List GroupId × Vector Nat 48 × CalParams := (r.segments, r.groups, r.assigned, r.params)

/-- Configuration records, controllers, entries, the run's key, coupling lists and demanded levels are the same. -/
structure Neutral (s t : State) : Prop where
  segs : t.layout.segs = s.layout.segs
  ctrls : t.ctrls = s.ctrls
  entries : t.table.entries = s.table.entries
  run : t.cal.run.map runKey = s.cal.run.map runKey
  lists : t.coupling.lists = s.coupling.lists
  demanded : ∀ g : GroupId, t.lum.groups[g].map (·.demanded) = s.lum.groups[g].map (·.demanded)

theorem Neutral.refl (s : State) : Neutral s s := ⟨rfl, rfl, rfl, rfl, rfl, fun _ => rfl⟩

theorem Neutral.trans {s t u : State} (h : Neutral s t) (k : Neutral t u) : Neutral s u where
  segs := k.segs.trans h.segs
  ctrls := k.ctrls.trans h.ctrls
  entries := k.entries.trans h.entries
  run := k.run.trans h.run
  lists := k.lists.trans h.lists
  demanded := fun g => (k.demanded g).trans (h.demanded g)

/-- Ports are no part of the joint stores. -/
theorem neutral_setPorts {s t : State} (h : Neutral s t) (x : Ports) : Neutral s (t.setPorts x) :=
  h.trans ⟨rfl, rfl, rfl, rfl, rfl, fun _ => rfl⟩

/-- Nor is the sensor link. -/
theorem neutral_setSensors {s t : State} (h : Neutral s t) (x : SensorLink) : Neutral s (t.setSensors x) :=
  h.trans ⟨rfl, rfl, rfl, rfl, rfl, fun _ => rfl⟩

/-- Nor are the energy accumulators. -/
theorem neutral_setEnergy {s t : State} (h : Neutral s t) (x : Vector Energy 16) : Neutral s (t.setEnergy x) :=
  h.trans ⟨rfl, rfl, rfl, rfl, rfl, fun _ => rfl⟩

/-- A change of groups and link that keeps the demanded levels. -/
theorem neutral_setLum {s t : State} (h : Neutral s t) {l : Lum}
    (hl : ∀ g : GroupId, l.groups[g].map (·.demanded) = t.lum.groups[g].map (·.demanded)) : Neutral s (t.setLum l) :=
  h.trans ⟨rfl, rfl, rfl, rfl, rfl, hl⟩

/-- A change of the link alone. -/
theorem neutral_setLink {s t : State} (h : Neutral s t) (k : Link) : Neutral s (setLink k t) :=
  neutral_setLum h fun _ => rfl

/-- A change of the sequencer that keeps the run's key. -/
theorem neutral_setCal {s t : State} (h : Neutral s t) {x : Calibration} (hx : x.run.map runKey = t.cal.run.map runKey) :
    Neutral s (t.setCal x) :=
  h.trans ⟨rfl, rfl, rfl, hx, rfl, fun _ => rfl⟩

/-- A record changed in anything but its demanded level. -/
theorem demanded_updGroup (l : Lum) (g j : GroupId) {f : Group → Group} (hf : ∀ r, (f r).demanded = r.demanded) :
    (updGroup g f l).groups[j].map (·.demanded) = l.groups[j].map (·.demanded) := by
  rw [updGroup_groups, updAt_get]
  split
  · cases l.groups[j] <;> simp [hf]
  · rfl

/-- Unsent flags are no demanded levels. -/
theorem demanded_setUnsent (l : Lum) (b : Bool) (j : GroupId) :
    (setUnsent b l).groups[j].map (·.demanded) = l.groups[j].map (·.demanded) := by
  simp only [setUnsent, Fin.getElem_fin, Vector.getElem_map, Option.map_map]
  rfl

/-- A hand-over changes present levels, not demanded ones. -/
theorem demanded_handOver (g j : GroupId) (n : Nat) (l : Lum) :
    (handOver g n l).groups[j].map (·.demanded) = l.groups[j].map (·.demanded) := by
  rw [handOver_groups, updAt_get]
  split
  · cases l.groups[j] <;> rfl
  · rfl

/-- A fade step leaves the demanded levels as they are (R99). -/
theorem demanded_fadeExpiry (z : StepSizes) (g j : GroupId) (l : Lum) :
    (fadeExpiry z g l).1.groups[j].map (·.demanded) = l.groups[j].map (·.demanded) := by
  unfold fadeExpiry
  split
  · rfl
  · split
    · rfl
    · split
      · exact demanded_updGroup l g j fun _ => rfl
      · exact demanded_handOver g j _ l

/-- The fade wait's test moves the run to its next stage at most (R138). -/
theorem neutral_testFadeWait {s t : State} (h : Neutral s t) : Neutral s (testFadeWait t) := by
  unfold testFadeWait
  split
  · exact h
  · next r hr =>
    split
    · exact neutral_setCal h (by rw [hr]; rfl)
    · exact h

theorem neutral_fadeStep (g : GroupId) (s : State) : Neutral s (fadeStep g s) := by
  have h := neutral_setLum (Neutral.refl s) fun j => demanded_fadeExpiry (stepSizes s (segOf g)) g j s.lum
  unfold fadeStep
  dsimp only
  split
  · exact neutral_testFadeWait h
  · exact h

theorem neutral_freeLink {s t : State} (h : Neutral s t) : Neutral s (freeLink t) := by
  unfold freeLink
  dsimp only
  split
  · exact neutral_setPorts (neutral_setLink h _) _
  · exact neutral_setLink h _

/-- An answer changes a group's power or FAILED flag (R121). -/
theorem neutral_handAnswer {s t : State} (h : Neutral s t) (g : GroupId) (v : AnswerValue) :
    Neutral s (handAnswer g v t) := by
  have hv : ∀ r, (applyAnswer v r).demanded = r.demanded := by
    intro r; unfold applyAnswer; split <;> rfl
  unfold handAnswer
  split
  · exact h
  · split
    · exact neutral_setPorts (neutral_setLum h fun j => demanded_updGroup _ g j hv) _
    · exact neutral_setLum h fun j => demanded_updGroup _ g j hv

theorem neutral_endQuery {s t : State} (h : Neutral s t) (o : QueryOutcome) : Neutral s (endQuery o t) :=
  neutral_setPorts (neutral_setLink h _) _

theorem neutral_windowEnd (a : Answer) (s : State) : Neutral s (windowEnd a s) := by
  have hApply : ∀ o, Neutral s (applyOutcomeToGroup o s) := by
    intro o; unfold applyOutcomeToGroup
    split
    · exact neutral_handAnswer (Neutral.refl s) _ _
    · exact Neutral.refl s
  unfold windowEnd
  split
  · refine neutral_freeLink (neutral_setLink ?_ _)
    split
    · exact neutral_endQuery (hApply _) _
    · exact Neutral.refl s
  · exact Neutral.refl s

theorem neutral_setLevelDone (s : State) : Neutral s (setLevelDone s) := by
  unfold setLevelDone
  split
  · refine neutral_freeLink (neutral_setLum (Neutral.refl s) fun j => ?_)
    dsimp only
    split
    · exact demanded_updGroup _ _ j fun _ => rfl
    · rfl
  · exact Neutral.refl s

/-- A judged poll writes a holder and adds to what the run gathers (R21, R28). -/
theorem neutral_judgePoll (f : SensorId → ReplyOutcome) (s : State) : Neutral s (judgePoll f s) := by
  have hd : ∀ c o, (deliver c o s.cal).run.map runKey = s.cal.run.map runKey := by
    intro c o
    unfold deliver
    split
    · simp only [Option.map_map]
      congr 1; funext r
      simp only [Function.comp_apply, deliverSample]
      split <;> rfl
    · rfl
    · rfl
  unfold judgePoll
  split
  · exact Neutral.refl s
  · split
    · exact Neutral.refl s
    · dsimp only
      split
      · exact neutral_setSensors (Neutral.refl s) _
      · exact neutral_setCal (neutral_setSensors (Neutral.refl s) _) (hd _ _)

theorem demanded_resumeLink (l : Lum) (j : GroupId) :
    (resumeLink l).groups[j].map (·.demanded) = l.groups[j].map (·.demanded) :=
  demanded_setUnsent l false j

theorem demanded_restoreLink (l : Lum) (j : GroupId) :
    (restoreLink l).groups[j].map (·.demanded) = l.groups[j].map (·.demanded) := by
  unfold restoreLink
  dsimp only
  split
  · exact demanded_setUnsent l true j
  · exact demanded_setUnsent l false j

/-! ### The owning blocks -/

theorem neutral_linkPause (s : State) : Neutral s (linkPause s).state := by
  unfold linkPause
  split
  · exact Neutral.refl s
  · split
    · exact Neutral.refl s
    · exact Neutral.refl s
    · exact Neutral.refl s
    · exact neutral_freeLink (neutral_setLink (Neutral.refl s) _)

theorem neutral_linkResume (s : State) : Neutral s (linkResume s).state := by
  have h := neutral_setLum (Neutral.refl s) (demanded_resumeLink s.lum)
  unfold linkResume
  split
  · exact Neutral.refl s
  · exact Neutral.refl s
  · exact h
  · exact neutral_setPorts h _

theorem neutral_queryDriver (p : PortId) (g i : Nat) (s : State) : Neutral s (queryDriver p g i s).state := by
  unfold queryDriver
  repeat' split
  all_goals first | exact Neutral.refl s | exact neutral_setLink (Neutral.refl s) _

theorem neutral_groupClearFail (g : Nat) (s : State) : Neutral s (groupClearFail g s).state := by
  unfold groupClearFail
  split
  · exact Neutral.refl s
  · split
    · exact neutral_setLum (Neutral.refl s) fun j => demanded_updGroup _ _ j fun _ => rfl
    · exact Neutral.refl s

theorem neutral_powerSet (g w : Nat) (s : State) : Neutral s (powerSet g w s).state := by
  unfold powerSet
  split
  · exact Neutral.refl s
  · split
    · exact neutral_setLum (Neutral.refl s) fun j => demanded_updGroup _ _ j fun _ => rfl
    · exact Neutral.refl s

theorem neutral_energyClear (m : SegMask) (s : State) : Neutral s (energyClear m s).state := by
  unfold energyClear
  dsimp only
  split
  · exact Neutral.refl s
  · exact neutral_setEnergy (Neutral.refl s) _

theorem neutral_segRead (n : Nat) (s : State) : Neutral s (segRead n s).state := by
  unfold segRead; split <;> exact Neutral.refl s

theorem neutral_sensorRead (n : Nat) (s : State) : Neutral s (sensorRead n s).state := by
  unfold sensorRead; split <;> exact Neutral.refl s

theorem neutral_tableRead (n : Nat) (s : State) : Neutral s (tableRead n s).state := by
  unfold tableRead; split <;> exact Neutral.refl s

theorem neutral_couplingRead (n : Nat) (s : State) : Neutral s (couplingRead n s).state := by
  unfold couplingRead; split <;> exact Neutral.refl s

theorem neutral_energyRead (n : Nat) (s : State) : Neutral s (energyRead n s).state := by
  unfold energyRead; split <;> exact Neutral.refl s

/-- A request is neutral where its owning block is. -/
theorem neutral_serve {p : PortId} {k : Kind} {owner : Body → State → Response} {s : State}
    (ho : ∀ b, Neutral s (owner b s).state) : Neutral s (serve p k owner s) :=
  serve_keeps (P := Neutral s) (fun _ x h => neutral_setPorts h x) (Neutral.refl s) ho

/-- The commands that leave the joint stores alone. -/
def isNeutral : Instr → Bool
  | .selectAssert _ | .selectRelease _ _ | .nop _ | .ident _ | .causesRead _ | .causesClear _ | .enablesWrite _
  | .eventsRead _ | .segRead _ | .sensorRead _ | .tableRead _ | .couplingRead _ | .queryResult _ | .energyRead _
  | .calResultRead _ | .layoutLock _ | .settleSet _ | .linkPause _ | .linkResume _ | .groupClearFail _ | .powerSet _
  | .energyClear _ | .queryDriver _ | .roundTimerExpiry | .sensorReply _ _ _ _ | .replyWindowTimeout | .interByteGap
  | .turnaroundEnd | .fadeStep _ | .energyTick | .setLevelCompletion | .queryFrameCompletion | .answerWindowEnd _
  | .busRestoration => true
  | .powerOnReset _ _ _ | .segDefine _ | .segRemove _ | .segTune _ | .bandSet _ | .couplingWrite _ | .overrideSet _
  | .overrideCancel _ | .lockSet _ | .lockRelease _ | .holdSet _ | .holdSettled _ | .capSet _ | .capCancel _ | .calStart _
  | .calAbort _ | .glareSet _ | .restart _ | .pass _ | .uptimeTick | .entryExpiry | .busFault | .calStageTimerExpiry => false

/-- A neutral command leaves the joint stores alone. -/
theorem exec_neutral {c : Instr} (hc : isNeutral c = true) {s t : State} (h : exec c s = .next t) : Neutral s t := by
  have hr := Neutral.refl s
  cases c <;> first | exact absurd hc Bool.false_ne_true | skip
  all_goals injection h with h; subst h
  case selectAssert | selectRelease => exact neutral_setPorts hr _
  case nop | ident | causesRead | queryResult | calResultRead => exact neutral_serve fun _ => hr
  case causesClear | enablesWrite =>
    refine neutral_serve fun b => ?_
    split
    · exact neutral_setPorts hr _
    · exact hr
  case eventsRead => exact neutral_serve fun _ => neutral_setPorts hr _
  case segRead => refine neutral_serve fun b => ?_; split; exacts [neutral_segRead _ s, hr]
  case sensorRead => refine neutral_serve fun b => ?_; split; exacts [neutral_sensorRead _ s, hr]
  case tableRead => refine neutral_serve fun b => ?_; split; exacts [neutral_tableRead _ s, hr]
  case couplingRead => refine neutral_serve fun b => ?_; split; exacts [neutral_couplingRead _ s, hr]
  case energyRead => refine neutral_serve fun b => ?_; split; exacts [neutral_energyRead _ s, hr]
  case layoutLock => exact neutral_serve fun _ => ⟨rfl, rfl, rfl, rfl, rfl, fun _ => rfl⟩
  case settleSet =>
    refine neutral_serve fun b => ?_
    split
    · exact ⟨rfl, rfl, rfl, rfl, rfl, fun _ => rfl⟩
    · exact hr
  case linkPause => exact neutral_serve fun _ => neutral_linkPause s
  case linkResume => exact neutral_serve fun _ => neutral_linkResume s
  case groupClearFail => refine neutral_serve fun b => ?_; split; exacts [neutral_groupClearFail _ s, hr]
  case powerSet => refine neutral_serve fun b => ?_; split; exacts [neutral_powerSet _ _ s, hr]
  case energyClear => refine neutral_serve fun b => ?_; split; exacts [neutral_energyClear _ s, hr]
  case queryDriver => refine neutral_serve fun b => ?_; split; exacts [neutral_queryDriver _ _ _ s, hr]
  case roundTimerExpiry | turnaroundEnd => exact neutral_setSensors hr _
  case sensorReply | replyWindowTimeout | interByteGap => exact neutral_judgePoll _ s
  case fadeStep => exact neutral_fadeStep _ s
  case energyTick => exact neutral_setEnergy hr _
  case setLevelCompletion => exact neutral_setLevelDone s
  case queryFrameCompletion => exact neutral_setLink hr _
  case answerWindowEnd => exact neutral_windowEnd _ s
  case busRestoration =>
    split
    · exact neutral_setPorts (neutral_setLum hr (demanded_restoreLink s.lum)) _
    · exact hr

end Sys2Proof.Proofs
end

section
/-! PROOFS. The joint law segment by segment: what covers a segment, when a segment is settled, and when a change elsewhere
leaves it so. -/

namespace Sys2Proof.Proofs

open Sys2Proof Sys2Proof.Machine Sys2Proof.Safety Sys2Proof.Laws

/-! ## Coverage (R93) -/

/-- What the entries over a segment ask, oldest first. -/
def covering (t : List Entry) (i : SegId) : List Ask := (t.filter fun e => maskHas e.mask i).map (·.ask)

/-- The level an OVERRIDE asks. -/
def overrideLevel? : Ask → Option Nat
  | .override level _ => some level
  | _ => none

/-- The level a LOCK asks. -/
def lockLevel? : Ask → Option Nat
  | .lock level => some level
  | _ => none

/-- A HOLD is asked. -/
def asksHold : Ask → Bool
  | .hold _ _ => true
  | _ => false

/-- The level a CAP asks. -/
def capLevel? : Ask → Option Nat
  | .cap _ level _ => some level
  | _ => none

@[simp] theorem covering_nil (i : SegId) : covering [] i = [] := rfl

theorem covering_cons (e : Entry) (t : List Entry) (i : SegId) :
    covering (e :: t) i = if maskHas e.mask i then e.ask :: covering t i else covering t i := by
  unfold covering; rw [List.filter_cons]; split <;> rfl

theorem covering_append (t u : List Entry) (i : SegId) : covering (t ++ u) i = covering t i ++ covering u i := by
  simp [covering]

/-- The OVERRIDE answer is drawn from what covers the segment. -/
theorem overrideOver_eq (t : List Entry) (i : SegId) : overrideOver t i = (covering t i).findSome? overrideLevel? := by
  induction t with
  | nil => rfl
  | cons e t ih =>
    rw [covering_cons, overrideOver, List.findSome?_cons, ← overrideOver, ih]
    cases ha : e.ask <;> cases hm : maskHas e.mask i <;> simp [List.findSome?_cons, overrideLevel?]

/-- The LOCK answer is drawn from what covers the segment. -/
theorem lockOver_eq (t : List Entry) (i : SegId) : lockOver t i = (covering t i).findSome? lockLevel? := by
  induction t with
  | nil => rfl
  | cons e t ih =>
    rw [covering_cons, lockOver, List.findSome?_cons, ← lockOver, ih]
    cases ha : e.ask <;> cases hm : maskHas e.mask i <;> simp [List.findSome?_cons, lockLevel?]

/-- The HOLD answer is drawn from what covers the segment. -/
theorem holdOver_eq (t : List Entry) (i : SegId) : holdOver t i = (covering t i).any asksHold := by
  induction t with
  | nil => rfl
  | cons e t ih =>
    rw [covering_cons, holdOver, List.any_cons, ← holdOver, ih]
    cases ha : e.ask <;> cases hm : maskHas e.mask i <;> simp [asksHold]

/-- The CAP levels are drawn from what covers the segment. -/
theorem capsOver_eq (t : List Entry) (i : SegId) : capsOver t i = (covering t i).filterMap capLevel? := by
  induction t with
  | nil => rfl
  | cons e t ih =>
    rw [covering_cons, capsOver, List.filterMap_cons, ← capsOver, ih]
    cases ha : e.ask <;> cases hm : maskHas e.mask i <;> simp [List.filterMap_cons, capLevel?]

theorem mem_capsOver {t : List Entry} {i : SegId} {level : Nat} :
    level ∈ capsOver t i ↔ ∃ e ∈ t, maskHas e.mask i = true ∧ capLevel? e.ask = some level := by
  simp only [capsOver_eq, covering, List.mem_filterMap, List.mem_map, List.mem_filter]
  constructor
  · rintro ⟨_, ⟨e, ⟨he, hm⟩, rfl⟩, hl⟩; exact ⟨e, he, hm, hl⟩
  · rintro ⟨e, he, hm, hl⟩; exact ⟨_, ⟨e, ⟨he, hm⟩, rfl⟩, hl⟩

/-! ## One segment of the joint law -/

/-- The groups of the segment exist by its record (R2). -/
def ExistAt (s : State) (i : SegId) : Prop :=
  ∀ b : BandId, groupExists s.lum (groupOf i b) = (configured s i && decide (b.val < (segCfg s i).bandCount))

/-- The mode is the one that R52 gives a configured segment, by run and coverage. -/
structure RightMode (s : State) (i : SegId) (m : Mode) : Prop where
  configured : m ≠ .unconfigured
  calibrating : m = .calibrating ↔ inRun s i = true
  locked : m = .locked ↔ inRun s i = false ∧ isLocked s i = true
  held : m = .held ↔ inRun s i = false ∧ isLocked s i = false ∧ isHeld s i = true

/-- Nothing holds an unconfigured segment (R52). -/
structure Unheld (s : State) (i : SegId) : Prop where
  mode : modeOf s i = .unconfigured
  run : inRun s i = false
  lock : isLocked s i = false
  hold : isHeld s i = false

/-- The precedence of R52 at the segment. -/
structure ModeAt (s : State) (i : SegId) : Prop where
  unheld : configured s i = false → Unheld s i
  right : configured s i = true → RightMode s i (modeOf s i)

/-- The groups of the segment stand at the demand of composition (R68). -/
def ComposedAt (s : State) (i : SegId) : Prop :=
  ∀ b : BandId, ∀ r ∈ s.lum.groups[groupOf i b], r.demanded = demandLevel s i b

/-- The laws of existence, modes and composition hold at the segment. -/
structure Settled (s : State) (i : SegId) : Prop where
  exist : ExistAt s i
  mode : ModeAt s i
  composed : ComposedAt s i

/-- What holds of a segment that is still to be informed: all but the coverage's part in its mode, and composition. -/
structure Steady (s : State) (i : SegId) : Prop where
  exist : ExistAt s i
  unheld : configured s i = false → Unheld s i
  moded : configured s i = true → modeOf s i ≠ .unconfigured
  calibrating : configured s i = true → (modeOf s i = .calibrating ↔ inRun s i = true)

theorem Settled.steady {s : State} {i : SegId} (h : Settled s i) : Steady s i :=
  ⟨h.exist, h.mode.unheld, fun hc => (h.mode.right hc).configured, fun hc => (h.mode.right hc).calibrating⟩

/-- No group exists for an unconfigured segment. -/
theorem ExistAt.none_of_unconfigured {s : State} {i : SegId} (h : ExistAt s i) (hc : configured s i = false) (b : BandId) :
    s.lum.groups[groupOf i b] = none := by
  have := h b
  rw [hc] at this
  simpa [groupExists] using this

/-- An unconfigured segment has nothing left to settle. -/
theorem Steady.settled_of_unconfigured {s : State} {i : SegId} (h : Steady s i) (hc : configured s i = false) :
    Settled s i where
  exist := h.exist
  mode := ⟨h.unheld, fun hc' => by rw [hc] at hc'; cases hc'⟩
  composed := fun b r hr => by rw [h.exist.none_of_unconfigured hc b] at hr; cases hr

/-- CALIBRATING is the mode of the run's segments alone. -/
theorem Steady.inRun_of_calibrating {s : State} {i : SegId} (h : Steady s i) (hm : modeOf s i = .calibrating) :
    inRun s i = true := by
  cases hc : configured s i with
  | false => rw [(h.unheld hc).mode] at hm; cases hm
  | true => exact (h.calibrating hc).mp hm

/-- A run's segments are configured. -/
theorem Steady.configured_of_inRun {s : State} {i : SegId} (h : Steady s i) (hr : inRun s i = true) :
    configured s i = true := by
  cases hc : configured s i with
  | false => rw [(h.unheld hc).run] at hr; cases hr
  | true => rfl

theorem existenceLaw_iff {s : State} : ExistenceLaw s ↔ ∀ i, ExistAt s i :=
  ⟨fun h i b => by have := h (groupOf i b); rwa [segOf_groupOf, bandOf_groupOf] at this,
   fun h g => by have := h (segOf g) (bandOf g); rwa [groupOf_segOf] at this⟩

theorem modeLaw_iff {s : State} : ModeLaw s ↔ ∀ i, ModeAt s i := by
  constructor
  · intro h i
    obtain ⟨hu, hr⟩ := h i
    refine ⟨fun hc => ?_, fun hc => ?_⟩
    · obtain ⟨h1, h2, h3, h4⟩ := hu hc; exact ⟨h1, h2, h3, h4⟩
    · obtain ⟨h1, h2, h3, h4⟩ := hr hc; exact ⟨h1, h2, h3, h4⟩
  · intro h i
    refine ⟨fun hc => ?_, fun hc => ?_⟩
    · obtain ⟨h1, h2, h3, h4⟩ := (h i).unheld hc; exact ⟨h1, h2, h3, h4⟩
    · obtain ⟨h1, h2, h3, h4⟩ := (h i).right hc; exact ⟨h1, h2, h3, h4⟩

theorem composedLaw_iff {s : State} : ComposedLaw s ↔ ∀ i, ComposedAt s i :=
  ⟨fun h i b r hr => by have := h (groupOf i b) r hr; rwa [segOf_groupOf, bandOf_groupOf] at this,
   fun h g r hr => h (segOf g) (bandOf g) r (by simpa only [groupOf_segOf] using hr)⟩

/-- The joint law is every segment settled, with the laws of the table, the run and the coupling names. -/
theorem jointLaw_iff {s : State} : JointLaw s ↔ (∀ i, Settled s i) ∧ TableLaw s ∧ RunLaw s ∧ NamingLaw s := by
  constructor
  · rintro ⟨he, ht, hm, hr, hn, hc⟩
    exact ⟨fun i => ⟨existenceLaw_iff.mp he i, modeLaw_iff.mp hm i, composedLaw_iff.mp hc i⟩, ht, hr, hn⟩
  · rintro ⟨h, ht, hr, hn⟩
    exact ⟨existenceLaw_iff.mpr fun i => (h i).exist, ht, modeLaw_iff.mpr fun i => (h i).mode, hr, hn,
      composedLaw_iff.mpr fun i => (h i).composed⟩

/-! ## A segment that a change does not reach -/

/-- All that the laws read of the segment is the same. -/
structure SameAt (i : SegId) (s t : State) : Prop where
  configured : configured t i = configured s i
  bandCount : (segCfg t i).bandCount = (segCfg s i).bandCount
  mode : modeOf t i = modeOf s i
  base : ∀ b, baseLevel (segCfg t i) t.ctrls[i] b = baseLevel (segCfg s i) s.ctrls[i] b
  cover : covering t.table.entries i = covering s.table.entries i
  inRun : inRun t i = inRun s i
  assigned : modeOf s i = .calibrating → ∀ b,
    (t.cal.run.map fun r => r.assigned[groupOf i b]) = s.cal.run.map fun r => r.assigned[groupOf i b]
  demanded : ∀ b, t.lum.groups[groupOf i b].map (·.demanded) = s.lum.groups[groupOf i b].map (·.demanded)

theorem SameAt.trans {i : SegId} {s t u : State} (h : SameAt i s t) (k : SameAt i t u) : SameAt i s u where
  configured := k.configured.trans h.configured
  bandCount := k.bandCount.trans h.bandCount
  mode := k.mode.trans h.mode
  base := fun b => (k.base b).trans (h.base b)
  cover := k.cover.trans h.cover
  inRun := k.inRun.trans h.inRun
  assigned := fun hm b => (k.assigned (h.mode.trans hm) b).trans (h.assigned hm b)
  demanded := fun b => (k.demanded b).trans (h.demanded b)

theorem SameAt.refl (i : SegId) (s : State) : SameAt i s s :=
  ⟨rfl, rfl, rfl, fun _ => rfl, rfl, rfl, fun _ _ => rfl, fun _ => rfl⟩

/-- Where only controllers, groups, link and event sets change, a segment whose own controller and groups stay is the same. -/
theorem SameAt.of_quiet {i : SegId} {s t : State} (h : Quiet s t) (hc : t.ctrls[i] = s.ctrls[i])
    (hg : ∀ g, segOf g = i → t.lum.groups[g] = s.lum.groups[g]) : SameAt i s t where
  configured := by simp only [Machine.configured, segCfg, h.layout]
  bandCount := by simp only [segCfg, h.layout]
  mode := by simp only [modeOf, hc]
  base := fun b => by simp only [segCfg, h.layout, hc]
  cover := by rw [h.table]
  inRun := by simp only [Safety.inRun, h.cal]
  assigned := fun _ b => by rw [h.cal]
  demanded := fun b => by rw [hg _ (segOf_groupOf i b)]

/-- A run with the same key has the same segments and assigned levels. -/
theorem inRun_of_key {s t : State} (h : t.cal.run.map runKey = s.cal.run.map runKey) (i : SegId) : inRun t i = inRun s i := by
  unfold inRun
  cases ht : t.cal.run <;> cases hs : s.cal.run <;> simp [ht, hs, runKey] at h ⊢
  rw [h.1]

theorem assigned_of_key {s t : State} (h : t.cal.run.map runKey = s.cal.run.map runKey) (g : GroupId) :
    (t.cal.run.map fun r => r.assigned[g]) = s.cal.run.map fun r => r.assigned[g] := by
  cases ht : t.cal.run <;> cases hs : s.cal.run <;> simp [ht, hs, runKey] at h ⊢
  rw [h.2.2.1]

theorem Neutral.sameAt {s t : State} (h : Neutral s t) (i : SegId) : SameAt i s t where
  configured := by simp only [Machine.configured, segCfg, h.segs]
  bandCount := by simp only [segCfg, h.segs]
  mode := by simp only [modeOf, h.ctrls]
  base := fun b => by simp only [segCfg, h.segs, h.ctrls]
  cover := by rw [h.entries]
  inRun := inRun_of_key h.run i
  assigned := fun _ b => assigned_of_key h.run _
  demanded := fun b => h.demanded _

section
variable {i : SegId} {s t : State} (h : SameAt i s t)
include h

theorem SameAt.isLocked : isLocked t i = isLocked s i := by
  simp only [Machine.isLocked, lockOver_eq, h.cover]

theorem SameAt.isHeld : isHeld t i = isHeld s i := by
  simp only [Machine.isHeld, holdOver_eq, h.cover]

theorem SameAt.exists (b : BandId) : groupExists t.lum (groupOf i b) = groupExists s.lum (groupOf i b) := by
  have := congrArg Option.isSome (h.demanded b)
  rwa [Option.isSome_map, Option.isSome_map] at this

/-- Composition demands the same levels of the segment. -/
theorem SameAt.demandLevel (b : BandId) : demandLevel t i b = demandLevel s i b := by
  have ho : overrideOver t.table.entries i = overrideOver s.table.entries i := by rw [overrideOver_eq, overrideOver_eq, h.cover]
  have hl : lockOver t.table.entries i = lockOver s.table.entries i := by rw [lockOver_eq, lockOver_eq, h.cover]
  have hk : lowestCap t.table.entries i = lowestCap s.table.entries i := by
    rw [lowestCap, lowestCap, capsOver_eq, capsOver_eq, h.cover]
  unfold Machine.demandLevel
  rw [h.mode, h.base b, ho, hl, hk]
  cases hm : modeOf s i with
  | calibrating => exact congrArg (Option.getD · 0) (h.assigned hm b)
  | _ => rfl

theorem SameAt.existAt (he : ExistAt s i) : ExistAt t i := fun b => by
  rw [h.exists b, he b, h.configured, h.bandCount]

theorem SameAt.unheldAt (hu : Machine.configured s i = false → Unheld s i) : Machine.configured t i = false → Unheld t i := fun hc => by
  obtain ⟨h1, h2, h3, h4⟩ := hu (h.configured ▸ hc)
  exact ⟨h.mode.trans h1, h.inRun.trans h2, h.isLocked.trans h3, h.isHeld.trans h4⟩

theorem SameAt.rightMode {m : Mode} (hr : RightMode s i m) : RightMode t i m := by
  obtain ⟨h1, h2, h3, h4⟩ := hr
  exact ⟨h1, by rw [h.inRun]; exact h2, by rw [h.inRun, h.isLocked]; exact h3,
    by rw [h.inRun, h.isLocked, h.isHeld]; exact h4⟩

theorem SameAt.modeAt (hm : ModeAt s i) : ModeAt t i :=
  ⟨h.unheldAt hm.unheld, fun hc => by rw [h.mode]; exact h.rightMode (hm.right (h.configured ▸ hc))⟩

/-- A settled segment that a change does not reach stays settled. -/
theorem SameAt.settled (hs : Settled s i) : Settled t i where
  exist := h.existAt hs.exist
  mode := h.modeAt hs.mode
  composed := fun b r hr => by
    have hd := h.demanded b
    rw [Option.mem_def.mp hr, Option.map_some] at hd
    obtain ⟨r', hr', e⟩ := Option.map_eq_some_iff.mp hd.symm
    rw [h.demandLevel b, ← hs.composed b r' hr', e]

theorem SameAt.steady (hs : Steady s i) : Steady t i where
  exist := h.existAt hs.exist
  unheld := h.unheldAt hs.unheld
  moded := fun hc => by rw [h.mode]; exact hs.moded (h.configured ▸ hc)
  calibrating := fun hc => by rw [h.mode, h.inRun]; exact hs.calibrating (h.configured ▸ hc)

end

/-! ## The laws of the run and of the coupling names -/

/-- Groups that exist by the same records exist alike. -/
theorem groupExists_congr {s t : State} (hs : ∀ i, ExistAt s i) (ht : ∀ i, ExistAt t i) (hl : t.layout.segs = s.layout.segs)
    (g : GroupId) : groupExists t.lum g = groupExists s.lum g := by
  have h1 := hs (segOf g) (bandOf g)
  have h2 := ht (segOf g) (bandOf g)
  rw [groupOf_segOf] at h1 h2
  have e : segCfg t (segOf g) = segCfg s (segOf g) := by simp only [segCfg, hl]
  rw [h1, h2, configured, configured, e]

/-- The run's law is kept where the run's key is, its groups exist as before, and every cap over it is an old one or not
below its top. -/
theorem runLaw_mono {s t : State} (h : RunLaw s) (hk : t.cal.run.map runKey = s.cal.run.map runKey)
    (he : ∀ g, inRun s (segOf g) = true → groupExists t.lum g = groupExists s.lum g)
    (hc : ∀ r ∈ s.cal.run, ∀ i, maskHas r.segments i = true → ∀ level ∈ capsOver t.table.entries i,
      level ∈ capsOver s.table.entries i ∨ runTop r ≤ level) : RunLaw t := by
  intro r hr
  have hkr : s.cal.run.map runKey = some (runKey r) := by rw [← hk, Option.mem_def.mp hr]; rfl
  obtain ⟨r', hr', hkey⟩ := Option.map_eq_some_iff.mp hkr
  obtain ⟨hseg, hgrp, hass, hpar⟩ : r'.segments = r.segments ∧ r'.groups = r.groups ∧ r'.assigned = r.assigned ∧
      r'.params = r.params := by simpa [runKey] using hkey
  obtain ⟨h1, h2, h3, h4, h5⟩ := h r' hr'
  have htop : runTop r' = runTop r := by rw [runTop, runTop, hpar]
  refine ⟨fun g => ?_, fun g => ?_, fun g => ?_, ?_, fun i hi level hl => ?_⟩
  · rw [← hgrp, ← hseg, h1 g]
    cases hm : maskHas r'.segments (segOf g) with
    | false => simp
    | true => rw [he g (by simp [inRun, hr', hm])]
  · rw [← hgrp, ← hass]; exact h2 g
  · rw [← hass, ← htop]; exact h3 g
  · rw [← hpar]; exact h4
  · rw [← hseg] at hi
    rcases hc r' hr' i hi level hl with hl | hl
    · rw [← htop]; exact h5 i hi level hl
    · rw [← htop]; exact hl

/-- Without a run its law asks nothing. -/
theorem runLaw_idle {s : State} (h : s.cal.run = none) : RunLaw s := fun r hr => by
  rw [h] at hr; cases hr

/-- The names of the coupling lists stay good where lists and groups stay. -/
theorem namingLaw_mono {s t : State} (h : NamingLaw s) (hl : t.coupling.lists = s.coupling.lists)
    (he : ∀ g, groupExists s.lum g = true → groupExists t.lum g = true) : NamingLaw t := fun k e hm => by
  rw [hl] at hm; exact he _ (h k e hm)

/-- The table's law over the entries and the mask of the configured segments. -/
def EntriesLaw (conf : SegMask) (t : List Entry) : Prop :=
  t.length ≤ 32 ∧ t.Pairwise (fun a b => compatible a b = true) ∧
    ∀ e ∈ t, e.mask ≠ 0 ∧ e.mask &&& conf = e.mask ∧ askInRange e.ask = true

theorem tableLaw_iff {s : State} : TableLaw s ↔ EntriesLaw (configuredMask s) s.table.entries := Iff.rfl

/-- The mask of the configured segments follows the records. -/
theorem configuredMask_congr {s t : State} (h : ∀ i, configured t i = configured s i) : configuredMask t = configuredMask s :=
  mask_ext fun i => by simp [h]

theorem tableLaw_congr {s t : State} (h : TableLaw s) (he : t.table.entries = s.table.entries)
    (hc : ∀ i, configured t i = configured s i) : TableLaw t := by
  rw [tableLaw_iff, he, configuredMask_congr hc]; exact h

/-- No entry covers a segment that is not configured (R75). -/
theorem covering_unconfigured {s : State} (h : TableLaw s) {i : SegId} (hc : configured s i = false) :
    covering s.table.entries i = [] := by
  obtain ⟨_, _, h⟩ := h
  simp only [covering, List.map_eq_nil_iff, List.filter_eq_nil_iff]
  intro e he hm
  obtain ⟨_, hsub, _⟩ := h e he
  rw [← hsub, maskHas_and, maskHas_configuredMask, hc] at hm
  simp at hm

/-- A change that reaches no segment, no entry, no name and only the inner course of a run keeps the joint law. -/
theorem jointLaw_of_sameAt {s t : State} (h : JointLaw s) (hs : ∀ i, SameAt i s t)
    (he : t.table.entries = s.table.entries) (hk : t.cal.run.map runKey = s.cal.run.map runKey)
    (hl : t.coupling.lists = s.coupling.lists) : JointLaw t := by
  obtain ⟨hset, ht, hr, hn⟩ := jointLaw_iff.mp h
  have hex : ∀ g, groupExists t.lum g = groupExists s.lum g := fun g => by
    have := (hs (segOf g)).exists (bandOf g); rwa [groupOf_segOf] at this
  refine jointLaw_iff.mpr ⟨fun i => (hs i).settled (hset i), tableLaw_congr ht he fun i => (hs i).configured,
    runLaw_mono hr hk (fun g _ => hex g) (fun r _ i _ level hl => .inl (he ▸ hl)),
    namingLaw_mono hn hl fun g hg => (hex g).trans hg⟩

/-- A neutral change keeps the joint law. -/
theorem Neutral.jointLaw {s t : State} (h : Neutral s t) (hs : JointLaw s) : JointLaw t :=
  jointLaw_of_sameAt hs h.sameAt h.entries h.run h.lists

/-! ## One segment after the other -/

/-- A change made segment by segment, each reaching its own segment alone: a segment off the list is the same, and a segment
on it, once ready, comes out as its own change leaves it. -/
theorem foldl_segments {f : State → SegId → State} {P Q : SegId → State → Prop}
    (hf : ∀ s i j, j ≠ i → SameAt j s (f s i)) (hP : ∀ i s t, SameAt i s t → P i s → P i t)
    (hQ : ∀ i s t, SameAt i s t → Q i s → Q i t) (hstep : ∀ i s, P i s → Q i (f s i)) :
    ∀ (l : List SegId) (s : State), l.Nodup →
      (∀ j, j ∉ l → SameAt j s (l.foldl f s)) ∧ ∀ i ∈ l, P i s → Q i (l.foldl f s) := by
  intro l
  induction l with
  | nil => exact fun s _ => ⟨fun j _ => SameAt.refl j s, fun i hi => by cases hi⟩
  | cons a l ih =>
    intro s hn
    obtain ⟨ha, hn⟩ := List.nodup_cons.mp hn
    obtain ⟨hoff, hon⟩ := ih (f s a) hn
    rw [List.foldl_cons]
    refine ⟨fun j hj => ?_, fun i hi hp => ?_⟩
    · rw [List.mem_cons, not_or] at hj
      exact (hf s a j hj.1).trans (hoff j hj.2)
    · by_cases hia : i = a
      · subst hia; exact hQ _ _ _ (hoff i ha) (hstep i s hp)
      · exact hon i ((List.mem_cons.mp hi).resolve_left hia) (hP _ _ _ (hf s a i hia) hp)

/-! ## Recomposition and changes of mode -/

theorem quiet_remode (i : SegId) (m : Mode) (s : State) : Quiet s (recompose i (changeMode i m s)) :=
  (quiet_changeMode _ _ _).trans (quiet_recompose _ _)

theorem recompose_sameAt {i j : SegId} (h : j ≠ i) (s : State) : SameAt j s (recompose i s) :=
  .of_quiet (quiet_recompose i s) rfl fun g hg => recompose_other i s g (by rw [hg]; exact h)

/-- A change of mode with its recomposition reaches no other segment. -/
theorem remode_sameAt {i j : SegId} (h : j ≠ i) (m : Mode) (s : State) : SameAt j s (recompose i (changeMode i m s)) :=
  .of_quiet (quiet_remode i m s) (changeMode_other i j m s h.symm) fun g hg => by
    rw [recompose_other i _ g (by rw [hg]; exact h), changeMode_lum]

/-- Recomposition settles a segment whose groups exist rightly and whose mode is right (R70). -/
theorem settled_recompose {s : State} {i : SegId} (he : ExistAt s i) (hm : ModeAt s i) : Settled (recompose i s) i where
  exist := fun b => (recompose_exists i s _).trans (he b)
  mode := ⟨fun hc => ⟨(hm.unheld hc).mode, (hm.unheld hc).run, (hm.unheld hc).lock, (hm.unheld hc).hold⟩,
    fun hc => ⟨(hm.right hc).configured, (hm.right hc).calibrating, (hm.right hc).locked, (hm.right hc).held⟩⟩
  composed := fun b r hr => by
    by_cases hb : b.val < (segCfg s i).bandCount
    · exact recompose_demanded i s b (by simp [bandsOf, bandsBelow, hb]) r hr
    · have := (recompose_exists i s (groupOf i b)).trans (he b)
      rw [groupExists, Option.mem_def.mp hr] at this
      simp [hb] at this

/-- A configured segment given its right mode and recomposed is settled. -/
theorem settled_remode {s : State} {i : SegId} {m : Mode} (he : ExistAt s i) (hc : configured s i = true)
    (hm : RightMode s i m) : Settled (recompose i (changeMode i m s)) i := by
  have q := quiet_changeMode i m s
  have hcfg : configured (changeMode i m s) i = configured s i := by simp only [configured, segCfg, q.layout]
  have hrun : inRun (changeMode i m s) i = inRun s i := by simp only [inRun, q.cal]
  have hlock : isLocked (changeMode i m s) i = isLocked s i := by simp only [isLocked, q.table]
  have hhold : isHeld (changeMode i m s) i = isHeld s i := by simp only [isHeld, q.table]
  refine settled_recompose (fun b => ?_) ⟨fun hf => ?_, fun _ => ?_⟩
  · have e : segCfg (changeMode i m s) i = segCfg s i := by simp only [segCfg, q.layout]
    rw [changeMode_lum, he b, hcfg, e]
  · rw [hcfg, hc] at hf; cases hf
  · obtain ⟨h1, h2, h3, h4⟩ := hm
    rw [modeOf_changeMode]
    exact ⟨h1, by rw [hrun]; exact h2, by rw [hrun, hlock]; exact h3, by rw [hrun, hlock, hhold]; exact h4⟩

/-- The mode by the coverage is the right one (R56). -/
theorem rightMode_modeByCoverage {s : State} {i : SegId} (h : Steady s i) (hc : configured s i = true) :
    RightMode s i (modeByCoverage (modeOf s i) (isLocked s i) (isHeld s i)) := by
  have h1 := h.moded hc
  have h2 := h.calibrating hc
  cases hm : modeOf s i with
  | unconfigured => exact absurd hm h1
  | calibrating =>
    have hr : inRun s i = true := h2.mp hm
    exact ⟨by simp [modeByCoverage], by simp [modeByCoverage, hr], by simp [modeByCoverage, hr], by simp [modeByCoverage, hr]⟩
  | _ =>
    have hr : inRun s i = false := by
      cases hr : inRun s i with
      | false => rfl
      | true => rw [h2.mpr hr] at hm; cases hm
    cases hl : isLocked s i <;> cases hh : isHeld s i <;> constructor <;> simp [modeByCoverage, hr, hl, hh]

/-- So is the mode in which a segment leaves CALIBRATING once the run is over (R58). -/
theorem rightMode_exitMode {s : State} {i : SegId} (hr : inRun s i = false) :
    RightMode s i (exitMode (isLocked s i) (isHeld s i)) := by
  cases hl : isLocked s i <;> cases hh : isHeld s i <;> constructor <;> simp [exitMode, hr, hl, hh]

/-- And CALIBRATING is the mode of a run's segment. -/
theorem rightMode_calibrating {s : State} {i : SegId} (hr : inRun s i = true) : RightMode s i .calibrating := by
  constructor <;> simp [hr]

/-! ## The end of a run (R58, R146, R147) -/

theorem leaveCalibrating_sameAt {i j : SegId} (h : j ≠ i) (s : State) : SameAt j s (leaveCalibrating s i) := by
  unfold leaveCalibrating
  split
  · exact remode_sameAt h _ s
  · exact .refl j s

/-- The end of a run settles the segments it involved and reaches no other. -/
theorem endRun_settles {r : CalRun} {res : CalResult} {s : State} (hr : ∀ i, inRun s i = maskHas r.segments i)
    (h : ∀ i, Steady s i) (i : SegId) :
    Steady (endRun r res s) i ∧ (Settled s i ∨ maskHas r.segments i = true → Settled (endRun r res s) i) := by
  obtain ⟨hoff, hon⟩ := foldl_segments (f := leaveCalibrating)
    (P := fun i s => ExistAt s i ∧ configured s i = true ∧ modeOf s i = .calibrating ∧ inRun s i = false)
    (Q := fun i s => Settled s i) (fun s i j hj => leaveCalibrating_sameAt hj s)
    (fun i s t k ⟨h1, h2, h3, h4⟩ => ⟨k.existAt h1, k.configured.trans h2, k.mode.trans h3, k.inRun.trans h4⟩)
    (fun i s t k => k.settled)
    (fun i s ⟨h1, h2, h3, h4⟩ => by
      rw [leaveCalibrating, if_pos h3]; exact settled_remode h1 h2 (rightMode_exitMode h4))
    (maskSegs r.segments) (s.setCal ⟨none, res⟩) (nodup_maskSegs _)
  have hend : SameAt i ((maskSegs r.segments).foldl leaveCalibrating (s.setCal ⟨none, res⟩)) (endRun r res s) :=
    ⟨rfl, rfl, rfl, fun _ => rfl, rfl, rfl, fun _ _ => rfl, fun _ => rfl⟩
  cases hi : maskHas r.segments i with
  | true =>
    have hrun : inRun s i = true := (hr i).trans hi
    have hcfg := (h i).configured_of_inRun hrun
    have := hend.settled (hon i (mem_maskSegs.mpr hi) ⟨(h i).exist, hcfg, ((h i).calibrating hcfg).mpr hrun, rfl⟩)
    exact ⟨this.steady, fun _ => this⟩
  | false =>
    have hrun : inRun s i = false := (hr i).trans hi
    have hcal : SameAt i s (s.setCal ⟨none, res⟩) :=
      ⟨rfl, rfl, rfl, fun _ => rfl, rfl, hrun.symm,
        fun hm => absurd ((h i).inRun_of_calibrating hm) (by simp [hrun]), fun _ => rfl⟩
    have k := (hcal.trans (hoff i (by simp [hi]))).trans hend
    exact ⟨k.steady (h i), fun hs => k.settled (hs.resolve_right (by simp))⟩

end Sys2Proof.Proofs
end

section
/-! PROOFS. Table changes (Section 5): what they leave alone, what they settle, and the entries that the requests leave. -/

namespace Sys2Proof.Proofs

open Sys2Proof Sys2Proof.Machine Sys2Proof.Safety Sys2Proof.Laws

/-! ## A table change (R91, R92) -/

/-- Everything the sequencer can do with an inserted or changed entry: go on, or abort the run. -/
theorem informSequencer_cases (e : Entry) (s : State) :
    (informSequencer e s = s ∧ ∀ r ∈ s.cal.run, abortReason r e = none) ∨
    ∃ r res, s.cal.run = some r ∧ informSequencer e s = endRun r res s := by
  unfold informSequencer
  cases hr : s.cal.run with
  | none => exact .inl ⟨rfl, fun r h => by cases h⟩
  | some r =>
    dsimp only
    cases ha : abortReason r e with
    | none => exact .inl ⟨rfl, fun r' h => by cases h; exact ha⟩
    | some why => exact .inr ⟨r, { s.cal.result with outcome := .aborted why }, rfl, by simp only [abortRun, hr]⟩

/-- A table change writes the entries, may end the run, and then informs the segments. -/
theorem tableChange_cases (entries : List Entry) (inserted : Option Entry) (informed : SegMask) (s : State) :
    ∃ u, tableChange entries inserted informed s = (maskSegs informed).foldl informSegment u ∧
      (u = setEntries entries s ∧ (∀ e ∈ inserted, ∀ r ∈ s.cal.run, abortReason r e = none) ∨
       ∃ r res, s.cal.run = some r ∧ u = endRun r res (setEntries entries s)) := by
  cases inserted with
  | none => exact ⟨_, rfl, .inl ⟨rfl, fun e h => by cases h⟩⟩
  | some e =>
    refine ⟨_, rfl, ?_⟩
    rcases informSequencer_cases e (setEntries entries s) with ⟨h, ha⟩ | ⟨r, res, hr, h⟩
    · exact .inl ⟨h, fun e' he => by cases he; exact ha⟩
    · exact .inr ⟨r, res, hr, h⟩

/-- What a table change leaves alone, and what becomes of the run. -/
theorem tableChange_frame (entries : List Entry) (inserted : Option Entry) (informed : SegMask) (s : State) :
    (tableChange entries inserted informed s).layout = s.layout ∧
    (tableChange entries inserted informed s).coupling = s.coupling ∧
    (tableChange entries inserted informed s).table = { s.table with entries := entries } ∧
    ((tableChange entries inserted informed s).cal.run = none ∨
      (tableChange entries inserted informed s).cal = s.cal ∧ ∀ e ∈ inserted, ∀ r ∈ s.cal.run, abortReason r e = none) := by
  obtain ⟨u, h, hu⟩ := tableChange_cases entries inserted informed s
  have q := Quiet.foldl quiet_informSegment (maskSegs informed) u
  rw [h, q.layout, q.coupling, q.table, q.cal]
  rcases hu with ⟨rfl, ha⟩ | ⟨r, res, _, rfl⟩
  · exact ⟨rfl, rfl, rfl, .inr ⟨rfl, ha⟩⟩
  · obtain ⟨h1, h2, _, h4, h5, _⟩ := endRun_frame r res (setEntries entries s)
    exact ⟨h2, h4, h5, .inl (by rw [h1])⟩

theorem informSegment_sameAt {i j : SegId} (h : j ≠ i) (s : State) : SameAt j s (informSegment s i) :=
  .of_quiet (quiet_informSegment s i) (informSegment_other s i j h.symm) fun g hg =>
    informSegment_groups s i g (by rw [hg]; exact h)

/-- A segment informed of a table change is settled (R56, R91). -/
theorem settled_informSegment {s : State} {i : SegId} (h : Steady s i) : Settled (informSegment s i) i := by
  unfold informSegment
  cases hc : configured s i with
  | true => exact settled_remode h.exist hc (rightMode_modeByCoverage h hc)
  | false => exact h.settled_of_unconfigured hc

/-- A table change settles every segment, where those not informed were settled under the new entries. -/
theorem tableChange_settles {entries : List Entry} {inserted : Option Entry} {informed : SegMask} {s : State}
    (hst : ∀ i, Steady (setEntries entries s) i)
    (hset : ∀ i, maskHas informed i = false → Settled (setEntries entries s) i) (i : SegId) :
    Settled (tableChange entries inserted informed s) i := by
  obtain ⟨u, h, hu⟩ := tableChange_cases entries inserted informed s
  have hu : Steady u i ∧ (Settled (setEntries entries s) i → Settled u i) := by
    rcases hu with ⟨rfl, _⟩ | ⟨r, res, hr, rfl⟩
    · exact ⟨hst i, id⟩
    · have hrun : ∀ j, inRun (setEntries entries s) j = maskHas r.segments j := fun j => by simp [inRun, hr]
      obtain ⟨h1, h2⟩ := endRun_settles (res := res) hrun hst i
      exact ⟨h1, fun hs => h2 (.inl hs)⟩
  obtain ⟨hoff, hon⟩ := foldl_segments (f := informSegment) (P := fun i s => Steady s i) (Q := fun i s => Settled s i)
    (fun s i j hj => informSegment_sameAt hj s) (fun i s t k => k.steady) (fun i s t k => k.settled)
    (fun i s => settled_informSegment) (maskSegs informed) u (nodup_maskSegs _)
  rw [h]
  cases hi : maskHas informed i with
  | true => exact hon i (mem_maskSegs.mpr hi) hu.1
  | false => exact (hoff i (by simp [hi])).settled (hu.2 (hset i hi))

/-- A table change keeps the joint law: the new entries are lawful, the segments not informed are covered as before, and
every cap is an old one or that of the entry the sequencer learns of. -/
theorem jointLaw_tableChange {entries : List Entry} {inserted : Option Entry} {informed : SegMask} {s : State}
    (h : JointLaw s) (ht : EntriesLaw (configuredMask s) entries)
    (hcov : ∀ i, maskHas informed i = false → covering entries i = covering s.table.entries i)
    (hcap : ∀ i, ∀ level ∈ capsOver entries i, level ∈ capsOver s.table.entries i ∨
      ∃ e ∈ inserted, maskHas e.mask i = true ∧ capLevel? e.ask = some level) :
    JointLaw (tableChange entries inserted informed s) := by
  obtain ⟨hset, _, hr, hn⟩ := jointLaw_iff.mp h
  have hst : ∀ i, Steady (setEntries entries s) i := fun i => by
    have k := (hset i).steady
    refine ⟨k.exist, fun hc => ?_, k.moded, k.calibrating⟩
    have hnone : covering entries i = [] := covering_unconfigured (s := setEntries entries s) ht hc
    exact ⟨(k.unheld hc).mode, (k.unheld hc).run, by simp [isLocked, lockOver_eq, hnone], by simp [isHeld, holdOver_eq, hnone]⟩
  have hsame : ∀ i, maskHas informed i = false → SameAt i s (setEntries entries s) := fun i hi =>
    ⟨rfl, rfl, rfl, fun _ => rfl, hcov i hi, rfl, fun _ _ => rfl, fun _ => rfl⟩
  have hfin := tableChange_settles (inserted := inserted) hst fun i hi => (hsame i hi).settled (hset i)
  obtain ⟨hlay, hcoup, htab, hrun⟩ := tableChange_frame entries inserted informed s
  have hex := groupExists_congr (fun i => (hset i).exist) (fun i => (hfin i).exist) (by rw [hlay])
  refine jointLaw_iff.mpr ⟨hfin, ?_, ?_, namingLaw_mono hn (by rw [hcoup]) fun g hg => (hex g).trans hg⟩
  · rw [tableLaw_iff, htab, configuredMask_congr (s := s) fun i => by simp only [configured, segCfg, hlay]]; exact ht
  · rcases hrun with hrun | ⟨hrun, hgo⟩
    · exact runLaw_idle hrun
    · refine runLaw_mono hr (by rw [hrun]) (fun g _ => hex g) fun r hr' i hi level hl => ?_
      rw [htab] at hl
      rcases hcap i level hl with hl | ⟨e, he, hm, hlev⟩
      · exact .inl hl
      · refine .inr ?_
        have hgo := hgo e he r hr'
        have hcut : e.mask &&& r.segments ≠ 0 := fun h0 => by
          have := mask_eq_zero.mp h0 i
          rw [maskHas_and, hm, hi] at this; cases this
        unfold abortReason at hgo
        rw [if_neg hcut] at hgo
        cases ha : e.ask with
        | cap id lv x =>
          rw [ha] at hgo hlev
          cases hlev
          simpa [runTop] using hgo
        | _ => rw [ha] at hlev; cases hlev

/-! ## Segments taken out of entries (R83, R85, R86, R9) -/

theorem mem_takeOut {sel : Entry → Bool} {m : SegMask} {t : List Entry} {e : Entry} :
    e ∈ takeOut sel m t ↔ ∃ e₀ ∈ t, sel e₀ = false ∧ e = e₀ ∨
      sel e₀ = true ∧ maskMinus e₀.mask m ≠ 0 ∧ e = { e₀ with mask := maskMinus e₀.mask m } := by
  simp only [takeOut, List.mem_filterMap]
  refine exists_congr fun e₀ => and_congr_right fun _ => ?_
  cases sel e₀ with
  | false => simp [eq_comm]
  | true =>
    by_cases h : maskMinus e₀.mask m = 0
    · simp [h]
    · simp [eq_comm]

/-- An entry that asks the same over no other segments. -/
def Within (e e₀ : Entry) : Prop := e.ask = e₀.ask ∧ ∀ i, maskHas e.mask i = true → maskHas e₀.mask i = true

/-- An entry left by `takeOut` lies within one that stood. -/
theorem within_of_mem_takeOut {sel : Entry → Bool} {m : SegMask} {t : List Entry} {e : Entry} (h : e ∈ takeOut sel m t) :
    ∃ e₀ ∈ t, Within e e₀ := by
  obtain ⟨e₀, he, ⟨_, rfl⟩ | ⟨_, _, rfl⟩⟩ := mem_takeOut.mp h
  · exact ⟨_, he, rfl, fun _ hi => hi⟩
  · exact ⟨_, he, rfl, fun i hi => by simp only [maskHas_minus, Bool.and_eq_true] at hi; exact hi.1⟩

/-- A segment that loses no entry of the test is covered as before. -/
theorem covering_takeOut {sel : Entry → Bool} {m : SegMask} {t : List Entry} {i : SegId}
    (h : ∀ e ∈ t, sel e = true → maskHas e.mask i = true → maskHas m i = false) :
    covering (takeOut sel m t) i = covering t i := by
  induction t with
  | nil => rfl
  | cons e t ih =>
    have ih := ih fun e' he' => h e' (List.mem_cons_of_mem _ he')
    have he := h e List.mem_cons_self
    unfold takeOut at ih ⊢
    rw [List.filterMap_cons, covering_cons]
    cases hs : sel e with
    | false => simp only [Bool.false_eq_true, if_false, covering_cons, ih]
    | true =>
      have hmask : maskHas (maskMinus e.mask m) i = maskHas e.mask i := by
        rw [maskHas_minus]
        cases hm : maskHas e.mask i with
        | false => rfl
        | true => rw [he hs hm]; rfl
      by_cases h0 : maskMinus e.mask m = 0
      · have hm : maskHas e.mask i = false := by rw [← hmask, h0]; exact maskHas_zero i
        simp only [if_true, h0, ih, hm, Bool.false_eq_true, if_false]
      · simp only [if_true, if_neg h0, covering_cons, hmask, ih]

/-- The segments of the altered entries (R91). -/
theorem maskHas_takenFrom (sel : Entry → Bool) (m : SegMask) (t : List Entry) (i : SegId) :
    maskHas (takenFrom sel m t) i = t.any fun e => sel e && (e.mask &&& m != 0) && maskHas e.mask i := by
  rw [takenFrom, maskHas_foldl, List.any_filter]
  simp

/-- A segment of no altered entry is covered as before. -/
theorem covering_takeOut_of_not_taken {sel : Entry → Bool} {m : SegMask} {t : List Entry} {i : SegId}
    (h : maskHas (takenFrom sel m t) i = false) : covering (takeOut sel m t) i = covering t i := by
  refine covering_takeOut fun e he hs hi => ?_
  rw [maskHas_takenFrom, List.any_eq_false] at h
  have h0 : e.mask &&& m = 0 := by simpa [hs, hi] using h e he
  have := mask_eq_zero.mp h0 i
  simpa [hi] using this

/-- No cap comes over a segment by `takeOut`. -/
theorem capsOver_takeOut {sel : Entry → Bool} {m : SegMask} {t : List Entry} {i : SegId} {level : Nat}
    (h : level ∈ capsOver (takeOut sel m t) i) : level ∈ capsOver t i := by
  obtain ⟨e, he, hi, hl⟩ := mem_capsOver.mp h
  obtain ⟨e₀, he₀, hask, hmask⟩ := within_of_mem_takeOut he
  exact mem_capsOver.mpr ⟨e₀, he₀, hmask i hi, by rw [← hask]; exact hl⟩

/-! ## Lawful entries (R75) -/

theorem and_eq_zero_iff {a b : SegMask} : a &&& b = 0 ↔ ∀ i, maskHas a i = true → maskHas b i = false := by
  rw [mask_eq_zero]
  refine forall_congr' fun i => ?_
  rw [maskHas_and]
  cases maskHas a i <;> simp

theorem compatible_within {a b a' b' : Entry} (h : compatible a b = true) (ha : Within a' a) (hb : Within b' b) :
    compatible a' b' = true := by
  obtain ⟨ha, hma⟩ := ha
  obtain ⟨hb, hmb⟩ := hb
  have hz : a.mask &&& b.mask = 0 → a'.mask &&& b'.mask = 0 := fun h0 => and_eq_zero_iff.mpr fun i hi => by
    cases hbi : maskHas b'.mask i with
    | false => rfl
    | true => exact absurd (and_eq_zero_iff.mp h0 i (hma i hi)) (by simp [hmb i hbi])
  unfold compatible at h ⊢
  rw [ha, hb]
  cases hx : a.ask <;> cases hy : b.ask <;> simp_all

theorem compatible_symm {a b : Entry} (h : compatible a b = true) : compatible b a = true := by
  unfold compatible at h ⊢
  cases hx : a.ask <;> cases hy : b.ask <;> simp_all [BitVec.and_comm b.mask, ne_comm]

/-- Taking segments out of entries keeps the table's law. -/
theorem entriesLaw_takeOut {c : SegMask} {t : List Entry} (h : EntriesLaw c t) (sel : Entry → Bool) (m : SegMask) :
    EntriesLaw c (takeOut sel m t) := by
  obtain ⟨hlen, hpair, hall⟩ := h
  refine ⟨(List.length_filterMap_le _ _).trans hlen, ?_, fun e he => ?_⟩
  · have within : ∀ e e₀, (if sel e₀ then (if maskMinus e₀.mask m = 0 then none
        else some { e₀ with mask := maskMinus e₀.mask m }) else some e₀) = some e → Within e e₀ := by
      intro e e₀ h
      obtain ⟨e₁, he₁, hw⟩ := within_of_mem_takeOut (sel := sel) (m := m) (t := [e₀]) (e := e)
        (List.mem_filterMap.mpr ⟨e₀, List.mem_singleton_self _, h⟩)
      rwa [List.mem_singleton.mp he₁] at hw
    exact List.Pairwise.filterMap _ (fun a b hab a' ha b' hb =>
      compatible_within hab (within a' a ha) (within b' b hb)) hpair
  · obtain ⟨e₀, he₀, ⟨_, rfl⟩ | ⟨_, hne, rfl⟩⟩ := mem_takeOut.mp he
    · exact hall _ he₀
    · obtain ⟨_, hsub, hr⟩ := hall e₀ he₀
      refine ⟨hne, mask_ext fun i => ?_, hr⟩
      have hi := congrArg (maskHas · i) hsub
      simp only [maskHas_and, maskHas_minus] at hi ⊢
      cases h1 : maskHas e₀.mask i <;> simp_all

/-- A lawful new entry appended where there is room. -/
theorem entriesLaw_append {c : SegMask} {t : List Entry} {new : Entry} (h : EntriesLaw c t)
    (hnew : new.mask ≠ 0 ∧ new.mask &&& c = new.mask ∧ askInRange new.ask = true)
    (hc : ∀ e ∈ t, compatible e new = true) (hfull : tableFull (t ++ [new]) = false) : EntriesLaw c (t ++ [new]) := by
  obtain ⟨_, hpair, hall⟩ := h
  refine ⟨by simpa [tableFull] using hfull, ?_, ?_⟩
  · rw [List.pairwise_append]
    exact ⟨hpair, List.pairwise_singleton _ _, fun a ha b hb => by rw [List.mem_singleton.mp hb]; exact hc a ha⟩
  · intro e he
    rcases List.mem_append.mp he with he | he
    · exact hall e he
    · rw [List.mem_singleton.mp he]; exact hnew

theorem entriesLaw_filter {c : SegMask} {t : List Entry} (h : EntriesLaw c t) (f : Entry → Bool) :
    EntriesLaw c (t.filter f) := by
  obtain ⟨hlen, hpair, hall⟩ := h
  exact ⟨(List.length_filter_le _ _).trans hlen, hpair.filter _, fun e he => hall e (List.mem_filter.mp he).1⟩

/-- Leaving out entries that do not cover a segment leaves its coverage. -/
theorem covering_filter {t : List Entry} {f : Entry → Bool} {i : SegId}
    (h : ∀ e ∈ t, f e = false → maskHas e.mask i = false) : covering (t.filter f) i = covering t i := by
  unfold covering
  rw [List.filter_filter]
  congr 1
  refine List.filter_congr fun e he => ?_
  cases hf : f e with
  | false => rw [h e he hf]; rfl
  | true => simp

theorem capsOver_filter {t : List Entry} {f : Entry → Bool} {i : SegId} {level : Nat}
    (h : level ∈ capsOver (t.filter f) i) : level ∈ capsOver t i := by
  obtain ⟨e, he, hi, hl⟩ := mem_capsOver.mp h
  exact mem_capsOver.mpr ⟨e, (List.mem_filter.mp he).1, hi, hl⟩

/-! ## The set and release requests -/

/-- The request's kept mask names configured segments only (R81). -/
theorem keptMask_sub (m : SegMask) (s : State) : keptMask m s &&& configuredMask s = keptMask m s := by
  rw [keptMask, BitVec.and_assoc, BitVec.and_self]

/-- Entries of the kind of an OVERRIDE, HOLD or LOCK, cut free of its mask, may stand beside it. -/
theorem compatible_takeOut {sel : Entry → Bool} {t : List Entry} {new : Entry}
    (hsel : ∀ e, sel e = false → compatible e new = true)
    (hfree : ∀ e, e.mask &&& new.mask = 0 → compatible e new = true) :
    ∀ e ∈ takeOut sel new.mask t, compatible e new = true := by
  intro e he
  obtain ⟨e₀, _, ⟨hs, rfl⟩ | ⟨_, _, rfl⟩⟩ := mem_takeOut.mp he
  · exact hsel _ hs
  · refine hfree _ (and_eq_zero_iff.mpr fun i hi => ?_)
    rw [maskHas_minus, Bool.and_eq_true] at hi
    simpa using hi.2

/-- A request that puts a new entry over its segments keeps the joint law. -/
theorem jointLaw_replaceOver {sel : Entry → Bool} {new : Entry} {clamped : Bool} {s : State} (h : JointLaw s)
    (hnew : new.mask ≠ 0 ∧ new.mask &&& configuredMask s = new.mask ∧ askInRange new.ask = true)
    (hcap : capLevel? new.ask = none) (hsel : ∀ e, sel e = false → compatible e new = true)
    (hfree : ∀ e, e.mask &&& new.mask = 0 → compatible e new = true) :
    JointLaw (replaceOver sel new.mask new clamped s).state := by
  have ht : EntriesLaw (configuredMask s) s.table.entries := (jointLaw_iff.mp h).2.1
  unfold replaceOver
  dsimp only
  cases hfull : tableFull (takeOut sel new.mask s.table.entries ++ [new]) with
  | true => exact h
  | false =>
    refine jointLaw_tableChange h
      (entriesLaw_append (entriesLaw_takeOut ht sel _) hnew (compatible_takeOut hsel hfree) hfull)
      (fun i hi => ?_) (fun i level hl => ?_)
    · rw [maskHas_or, Bool.or_eq_false_iff] at hi
      rw [covering_append, covering_takeOut_of_not_taken hi.1, covering_cons, hi.2]
      simp
    · obtain ⟨e, he, hm, hlev⟩ := mem_capsOver.mp hl
      rcases List.mem_append.mp he with he | he
      · exact .inl (capsOver_takeOut (mem_capsOver.mpr ⟨e, he, hm, hlev⟩))
      · rw [List.mem_singleton.mp he, hcap] at hlev; cases hlev

/-- A request that takes segments out of entries keeps the joint law. -/
theorem jointLaw_releaseOver {s : State} (h : JointLaw s) (sel : Entry → Bool) (m : SegMask) (clamped : Bool) :
    JointLaw (releaseOver sel m clamped s).state :=
  jointLaw_tableChange h (entriesLaw_takeOut (jointLaw_iff.mp h).2.1 sel m)
    (fun _ hi => covering_takeOut_of_not_taken hi) fun _ _ hl => .inl (capsOver_takeOut hl)

theorem clampTo_le {lo hi : Nat} (h : lo ≤ hi) (n : Nat) : clampTo lo hi n ≤ hi := by
  rw [clampTo_eq h]; omega

theorem jointLaw_overrideSet {s : State} (h : JointLaw s) (mask : SegMask) (level minutes : Nat) :
    JointLaw (overrideSet mask level minutes s).state := by
  unfold overrideSet
  dsimp only
  split
  · exact h
  · next h0 =>
    refine jointLaw_replaceOver (new := ⟨_, _⟩) h ⟨h0, keptMask_sub mask s, ?_⟩ rfl (fun e he => ?_) fun e he => ?_
    · simpa [askInRange] using clampTo_le (Nat.zero_le 1000) level
    · cases ha : e.ask <;> simp_all [isOverride, compatible]
    · cases ha : e.ask <;> simp_all [compatible]

theorem jointLaw_lockSet {s : State} (h : JointLaw s) (mask : SegMask) (level : Nat) :
    JointLaw (lockSet mask level s).state := by
  unfold lockSet
  dsimp only
  split
  · exact h
  · next h0 =>
    refine jointLaw_replaceOver (new := ⟨_, _⟩) h ⟨h0, keptMask_sub mask s, ?_⟩ rfl (fun e he => ?_) fun e he => ?_
    · simpa [askInRange] using clampTo_le (Nat.zero_le 1000) level
    · cases ha : e.ask <;> simp_all [isLock, compatible]
    · cases ha : e.ask <;> simp_all [compatible]

/-- A HOLD put over configured segments. -/
theorem jointLaw_replaceHold {s : State} (h : JointLaw s) {m : SegMask} (h0 : m ≠ 0) (hm : m &&& configuredMask s = m)
    (x : Nat) (settling clamped : Bool) :
    JointLaw (replaceOver isHold m ⟨m, .hold x settling⟩ clamped s).state := by
  refine jointLaw_replaceOver (new := ⟨m, .hold x settling⟩) h ⟨h0, hm, rfl⟩ rfl (fun e he => ?_) fun e he => ?_
  · cases ha : e.ask <;> simp_all [isHold, compatible]
  · cases ha : e.ask <;> simp_all [compatible]

theorem jointLaw_holdSet {s : State} (h : JointLaw s) (mask : SegMask) (seconds : Nat) :
    JointLaw (holdSet mask seconds s).state := by
  unfold holdSet
  dsimp only
  split
  · exact h
  · next h0 => exact jointLaw_replaceHold h h0 (keptMask_sub mask s) _ _ _

/-- The held segments of a kept mask are configured. -/
theorem heldMask_sub (mask : SegMask) (s : State) :
    heldMask (keptMask mask s) s.table.entries &&& configuredMask s = heldMask (keptMask mask s) s.table.entries :=
  mask_ext fun i => by
    simp only [heldMask, keptMask, maskHas_and, maskHas_maskWhere, maskHas_configuredMask]
    cases configured s i <;> simp

theorem jointLaw_holdSettled {s : State} (h : JointLaw s) (mask : SegMask) : JointLaw (holdSettled mask s).state := by
  unfold holdSettled
  dsimp only
  split
  · exact h
  · split
    · exact h
    · next h0 =>
      split
      · exact jointLaw_releaseOver h _ _ _
      · exact jointLaw_replaceHold h h0 (heldMask_sub mask s) _ _ _

theorem jointLaw_overrideCancel {s : State} (h : JointLaw s) (mask : SegMask) : JointLaw (overrideCancel mask s).state := by
  unfold overrideCancel
  dsimp only
  split
  · exact h
  · exact jointLaw_releaseOver h _ _ _

theorem jointLaw_lockRelease {s : State} (h : JointLaw s) (mask : SegMask) : JointLaw (lockRelease mask s).state := by
  unfold lockRelease
  dsimp only
  split
  · exact h
  · exact jointLaw_releaseOver h _ _ _

/-! ## Caps (R89, R90) -/

theorem isCap_iff {id : Nat} {e : Entry} : isCap id e = true ↔ ∃ level x, e.ask = .cap id level x := by
  unfold isCap
  cases e.ask <;> simp

/-- A lawful table holds one CAP entry of an id. -/
theorem cap_unique {c : SegMask} {t : List Entry} (h : EntriesLaw c t) {id : Nat} {a b : Entry} (ha : a ∈ t) (hb : b ∈ t)
    (hia : isCap id a = true) (hib : isCap id b = true) : a = b := by
  by_contra hne
  obtain ⟨la, xa, ea⟩ := isCap_iff.mp hia
  obtain ⟨lb, xb, eb⟩ := isCap_iff.mp hib
  have : Std.Symm fun a b => compatible a b = true := ⟨fun _ _ => compatible_symm⟩
  have := h.2.1.forall ha hb hne
  simp [compatible, ea, eb] at this

/-- The CAP entry of an id replaced by a lawful one of the same id. -/
theorem entriesLaw_replaceCap {c : SegMask} {t : List Entry} (h : EntriesLaw c t) {id : Nat} {new : Entry}
    (hid : isCap id new = true) (hnew : new.mask ≠ 0 ∧ new.mask &&& c = new.mask ∧ askInRange new.ask = true) :
    EntriesLaw c (t.map fun e => if isCap id e then new else e) := by
  obtain ⟨ln, xn, en⟩ := isCap_iff.mp hid
  have other : ∀ e, isCap id e = false → compatible e new = true := fun e he => by
    unfold isCap at he
    unfold compatible
    rw [en]
    cases ha : e.ask <;> simp_all
  obtain ⟨hlen, hpair, hall⟩ := h
  refine ⟨by simpa using hlen, ?_, fun e he => ?_⟩
  · refine hpair.map _ fun a b hab => ?_
    cases ha : isCap id a <;> cases hb : isCap id b <;> simp only [Bool.false_eq_true, if_false, if_true]
    · exact hab
    · exact other a ha
    · exact compatible_symm (other b hb)
    · obtain ⟨la, xa, ea⟩ := isCap_iff.mp ha
      obtain ⟨lb, xb, eb⟩ := isCap_iff.mp hb
      simp [compatible, ea, eb] at hab
  · obtain ⟨e₀, he₀, rfl⟩ := List.mem_map.mp he
    split
    · exact hnew
    · exact hall e₀ he₀

theorem covering_replaceCap {t : List Entry} {id : Nat} {new : Entry} {i : SegId} (hn : maskHas new.mask i = false)
    (h : ∀ e ∈ t, isCap id e = true → maskHas e.mask i = false) :
    covering (t.map fun e => if isCap id e then new else e) i = covering t i := by
  induction t with
  | nil => rfl
  | cons e t ih =>
    rw [List.map_cons, covering_cons, covering_cons, ih fun e' he' => h e' (List.mem_cons_of_mem _ he')]
    cases he : isCap id e with
    | false => simp only [Bool.false_eq_true, if_false]
    | true => simp [hn, h e List.mem_cons_self he]

theorem jointLaw_capSet {s : State} (h : JointLaw s) (id : Nat) (mask : SegMask) (level minutes : Nat) :
    JointLaw (capSet id mask level minutes s).state := by
  have ht : EntriesLaw (configuredMask s) s.table.entries := (jointLaw_iff.mp h).2.1
  unfold capSet
  dsimp only
  split
  · exact h
  next hid =>
  split
  · exact h
  next h0 =>
  generalize hn : (⟨keptMask mask s, Ask.cap id (clampTo 0 1000 level)
    ((capMinutes minutes).map fun n => s.table.uptime + n * 60)⟩ : Entry) = new
  have hmask : new.mask = keptMask mask s := by rw [← hn]
  have hcap : isCap id new = true := by rw [← hn]; simp [isCap]
  have hnew : new.mask ≠ 0 ∧ new.mask &&& configuredMask s = new.mask ∧ askInRange new.ask = true := by
    rw [← hn]
    have := clampTo_le (Nat.zero_le 1000) level
    exact ⟨h0, keptMask_sub mask s, by simp [askInRange]; omega⟩
  split
  · next old hold =>
    have hold' := List.find?_some hold
    have hmem := List.mem_of_find?_eq_some hold
    refine jointLaw_tableChange h (entriesLaw_replaceCap ht hcap hnew) (fun i hi => ?_) fun i lv hl => ?_
    · rw [maskHas_or, Bool.or_eq_false_iff] at hi
      exact covering_replaceCap (hmask ▸ hi.2) fun e he hc => by rw [cap_unique ht he hmem hc hold']; exact hi.1
    · obtain ⟨e, he, hm, hlev⟩ := mem_capsOver.mp hl
      obtain ⟨e₀, he₀, rfl⟩ := List.mem_map.mp he
      split at hm
      · next hc => rw [if_pos hc] at hlev; exact .inr ⟨new, rfl, hm, hlev⟩
      · next hc => rw [if_neg hc] at hlev; exact .inl (mem_capsOver.mpr ⟨e₀, he₀, hm, hlev⟩)
  · next hnone =>
    have hnone := List.find?_eq_none.mp hnone
    cases hfull : tableFull (s.table.entries ++ [new]) with
    | true => exact h
    | false =>
      refine jointLaw_tableChange h (entriesLaw_append ht hnew (fun e he => ?_) hfull) (fun i hi => ?_) fun i lv hl => ?_
      · have hne := hnone e he
        rw [← hn]
        unfold isCap at hne
        unfold compatible
        cases ha : e.ask <;> simp_all
      · rw [← hmask] at hi
        rw [covering_append, covering_cons, hi]; simp
      · obtain ⟨e, he, hm, hlev⟩ := mem_capsOver.mp hl
        rcases List.mem_append.mp he with he | he
        · exact .inl (mem_capsOver.mpr ⟨e, he, hm, hlev⟩)
        · rw [List.mem_singleton.mp he] at hm hlev
          exact .inr ⟨new, rfl, hm, hlev⟩

theorem jointLaw_capCancel {s : State} (h : JointLaw s) (id : Nat) : JointLaw (capCancel id s).state := by
  have ht : EntriesLaw (configuredMask s) s.table.entries := (jointLaw_iff.mp h).2.1
  unfold capCancel
  split
  · exact h
  · split
    · exact h
    · next old hold =>
      refine jointLaw_tableChange h (entriesLaw_filter ht _) (fun i hi => covering_filter fun e he hc => ?_)
        fun i lv hl => .inl (capsOver_filter hl)
      rw [cap_unique ht he (List.mem_of_find?_eq_some hold) (by simpa using hc) (List.find?_some hold)]
      exact hi

/-! ## Expiry (R79) -/

theorem jointLaw_departDue {s : State} (h : JointLaw s) : JointLaw (departDue s) := by
  unfold departDue
  dsimp only
  have hp := (neutral_setPorts (Neutral.refl s)
    ((s.table.entries.filter (dueAt s.table.uptime)).foldl raiseExpiry s.ports)).jointLaw h
  refine jointLaw_tableChange hp (entriesLaw_filter (jointLaw_iff.mp hp).2.1 _)
    (fun i hi => covering_filter fun e he hc => ?_) fun i lv hl => .inl (capsOver_filter hl)
  rw [maskHas_foldl, List.any_filter, Bool.or_eq_false_iff, List.any_eq_false] at hi
  have hdue : dueAt s.table.uptime e = true := by simpa using hc
  simpa [hdue] using hi.2 e he

end Sys2Proof.Proofs
end

section
/-! PROOFS. The joint law over calibration, passes, the warm restart and the layout requests, and over every step. -/

namespace Sys2Proof.Proofs

open Sys2Proof Sys2Proof.Machine Sys2Proof.Safety Sys2Proof.Laws

/-! ## Calibration (Section 8) -/

/-- The end of a run keeps the joint law (R146, R147). -/
theorem jointLaw_endRun {r : CalRun} {res : CalResult} {s : State} (h : JointLaw s)
    (hr : ∀ i, inRun s i = maskHas r.segments i) : JointLaw (endRun r res s) := by
  obtain ⟨hset, ht, _, hn⟩ := jointLaw_iff.mp h
  obtain ⟨hcal, hlay, _, hcoup, htab, _⟩ := endRun_frame r res s
  have hfin : ∀ i, Settled (endRun r res s) i := fun i =>
    (endRun_settles hr (fun j => (hset j).steady) i).2 (.inl (hset i))
  have hex := groupExists_congr (fun i => (hset i).exist) (fun i => (hfin i).exist) (by rw [hlay])
  exact jointLaw_iff.mpr ⟨hfin, tableLaw_congr ht (by rw [htab]) fun i => by simp only [configured, segCfg, hlay],
    runLaw_idle (by rw [hcal]), namingLaw_mono hn (by rw [hcoup]) fun g hg => (hex g).trans hg⟩

theorem jointLaw_abortRun {s : State} (h : JointLaw s) (why : AbortReason) : JointLaw (abortRun why s) := by
  unfold abortRun
  split
  · exact h
  · next r hr => exact jointLaw_endRun h fun i => by simp [inRun, hr]

theorem enterCalibrating_sameAt {i j : SegId} (h : j ≠ i) (s : State) : SameAt j s (enterCalibrating s i) :=
  remode_sameAt h _ s

/-- Groups of a run outside its segments' existing groups are assigned nothing by any phase (R137). -/
theorem phaseLevels_get (f : Phase) (q : CalParams) (groups : List GroupId) (probe : Nat) (g : GroupId) :
    (phaseLevels f q groups probe)[g] =
      if groups.contains g then phaseLevel f q (probeGroup groups probe == some g) else 0 := by
  simp [phaseLevels]

/-- No phase assigns a level above the run's top (R148). -/
theorem phaseLevels_le (f : Phase) {q : CalParams} (h : q.low ≤ q.highEff) (groups : List GroupId) (probe : Nat)
    (g : GroupId) : (phaseLevels f q groups probe)[g] ≤ max q.highEff q.base := by
  rw [phaseLevels_get]
  split
  · unfold phaseLevel; split <;> (try split) <;> omega
  · omega

/-- The lowest cap over a mask is no higher than any cap over one of its segments (R135). -/
theorem capMin_le {t : List Entry} {m : SegMask} {i : SegId} (hi : maskHas m i = true) {level : Nat}
    (hl : level ∈ capsOver t i) : capMin t m ≤ level := by
  have hne : capsOver t i ≠ [] := List.ne_nil_of_mem hl
  obtain ⟨low, hlow⟩ : ∃ low, lowestCap t i = some low := by
    unfold lowestCap
    cases hc : (capsOver t i).min? with
    | none => exact absurd (List.min?_eq_none_iff.mp hc) hne
    | some low => exact ⟨low, rfl⟩
  have h1 : low ≤ level := (List.le_min?_iff hlow).mp le_rfl level hl
  have hmem : low ∈ (maskSegs m).filterMap (lowestCap t) := List.mem_filterMap.mpr ⟨i, mem_maskSegs.mpr hi, hlow⟩
  unfold capMin
  cases hc : ((maskSegs m).filterMap (lowestCap t)).min? with
  | none => rw [List.min?_eq_none_iff.mp hc] at hmem; cases hmem
  | some c => exact ((List.le_min?_iff hc).mp le_rfl low hmem).trans h1

/-- Parameters that pass the level checks (R135). -/
theorem levelCheck_none {cap : Nat} {q : CalParams} (h : levelCheck cap q = none) :
    q.base ≤ cap ∧ q.low + 100 ≤ q.highEff := by
  unfold levelCheck at h
  split at h
  · cases h
  · split at h
    · cases h
    · split at h
      · cases h
      · omega

/-- The start of a run over configured segments that neither lock nor hold claims keeps the joint law (R136). -/
theorem jointLaw_beginRun {m : SegMask} {q : CalParams} {clamped : Bool} {s : State} (h : JointLaw s)
    (hidle : s.cal.run = none) (hm : ∀ i, maskHas m i = true → configured s i = true)
    (hlow : q.low ≤ q.highEff)
    (hcap : ∀ i, maskHas m i = true → ∀ level ∈ capsOver s.table.entries i, max q.highEff q.base ≤ level) :
    JointLaw (beginRun m q clamped s) := by
  obtain ⟨hset, ht, _, hn⟩ := jointLaw_iff.mp h
  unfold beginRun
  dsimp only
  generalize (⟨CalOutcome.running, m, q, clamped, Vector.replicate 32 SensorStatus.notInvolved⟩ : CalResult) = res
  refine (neutral_testFadeWait (Neutral.refl _)).jointLaw ?_
  have hold : ∀ i, inRun s i = false := fun i => by simp [inRun, hidle]
  have hnew : ∀ i, inRun (s.setCal ⟨some (newRun m q s), res⟩) i = maskHas m i := fun i => rfl
  obtain ⟨hoff, hon⟩ := foldl_segments (f := enterCalibrating)
    (P := fun i s => ExistAt s i ∧ configured s i = true ∧ inRun s i = true) (Q := fun i s => Settled s i)
    (fun s i j hj => enterCalibrating_sameAt hj s)
    (fun i s t k ⟨h1, h2, h3⟩ => ⟨k.existAt h1, k.configured.trans h2, k.inRun.trans h3⟩)
    (fun i s t k => k.settled) (fun i s ⟨h1, h2, h3⟩ => settled_remode h1 h2 (rightMode_calibrating h3))
    (maskSegs m) (s.setCal ⟨some (newRun m q s), res⟩) (nodup_maskSegs _)
  have hfin : ∀ i, Settled ((maskSegs m).foldl enterCalibrating (s.setCal ⟨some (newRun m q s), res⟩)) i := fun i => by
    cases hi : maskHas m i with
    | true => exact hon i (mem_maskSegs.mpr hi) ⟨(hset i).exist, hm i hi, hi⟩
    | false =>
      have hcal : SameAt i s (s.setCal ⟨some (newRun m q s), res⟩) :=
        ⟨rfl, rfl, rfl, fun _ => rfl, rfl, hi.trans (hold i).symm,
          fun hc => absurd ((hset i).steady.inRun_of_calibrating hc) (by simp [hold i]), fun _ => rfl⟩
      exact (hcal.trans (hoff i (by simp [hi]))).settled (hset i)
  have hq : Quiet (s.setCal ⟨some (newRun m q s), res⟩)
      ((maskSegs m).foldl enterCalibrating (s.setCal ⟨some (newRun m q s), res⟩)) :=
    Quiet.foldl (fun s i => quiet_remode i .calibrating s) _ _
  have hex := groupExists_congr (fun i => (hset i).exist) (fun i => (hfin i).exist) (by rw [hq.layout]; rfl)
  refine jointLaw_iff.mpr ⟨hfin, tableLaw_congr ht (by rw [hq.table]; rfl) fun i => by
      simp only [configured, segCfg, hq.layout]; rfl, ?_, namingLaw_mono hn (by rw [hq.coupling]; rfl) fun g hg => (hex g).trans hg⟩
  intro r hr
  rw [hq.cal] at hr
  cases hr
  have hgroups : ∀ g, (newRun m q s).groups.contains g = (maskHas m (segOf g) && groupExists s.lum g) := fun g => by
    rw [Bool.eq_iff_iff]; simp [newRun]
  refine ⟨fun g => ?_, fun g hg => ?_, fun g => phaseLevels_le _ hlow _ _ g, hlow, fun i hi level hl => ?_⟩
  · rw [hgroups, hex g]; rfl
  · exact (phaseLevels_get ..).trans (if_neg (by rw [Bool.not_eq_true]; exact hg))
  · rw [hq.table] at hl; exact hcap i hi level hl

theorem jointLaw_calStart {s : State} (h : JointLaw s) (mask : SegMask) (base high low half su opt : Nat) :
    JointLaw (calStart mask base high low half su opt s).state := by
  unfold calStart
  dsimp only
  split
  · exact h
  next hrun =>
  split
  · exact h
  split
  · exact h
  split
  · exact h
  split
  · exact h
  · exact h
  · exact h
  split
  · exact h
  split
  · exact h
  next hl =>
  obtain ⟨hb, hlow⟩ := levelCheck_none hl
  refine jointLaw_beginRun h (by simpa using hrun) (fun i hi => ?_) (by omega) fun i hi level hlev => ?_
  · simp only [maskHas_and, maskHas_configuredMask, Bool.and_eq_true] at hi; exact hi.2
  · have := capMin_le hi hlev
    have hcapped : ∀ d, (takeParams (capMin s.table.entries (mask &&& configuredMask s)) base high low half (su * 50) (opt % 16) d).highEff
        ≤ capMin s.table.entries (mask &&& configuredMask s) := fun d => Nat.min_le_right _ _
    exact max_le ((hcapped _).trans this) (hb.trans this)

/-- Entry to a phase of the run keeps the joint law (R137). -/
theorem jointLaw_enterPhase {r : CalRun} {s : State} (h : JointLaw s) (hk : s.cal.run.map runKey = some (runKey r))
    (f : Phase) (probe cycle : Nat) : JointLaw (enterPhase f probe cycle r s) := by
  obtain ⟨hset, ht, hr, hn⟩ := jointLaw_iff.mp h
  obtain ⟨r₀, hr₀, hkey⟩ := Option.map_eq_some_iff.mp hk
  obtain ⟨hseg, hgrp, hass, hpar⟩ : r₀.segments = r.segments ∧ r₀.groups = r.groups ∧ r₀.assigned = r.assigned ∧
      r₀.params = r.params := by simpa [runKey] using hkey
  obtain ⟨h1, h2, _, h4, h5⟩ := hr r₀ hr₀
  unfold enterPhase
  dsimp only
  refine (neutral_testFadeWait (Neutral.refl _)).jointLaw ?_
  generalize hnew : phaseLevels f r.params r.groups probe = new
  generalize hrun : ({ r with phase := f, stage := .fadeWait, timer := none, probe := probe, cycle := cycle, assigned := new } : CalRun) = r'
  have hsegs' : r'.segments = r.segments := by rw [← hrun]
  have hgroups' : r'.groups = r.groups := by rw [← hrun]
  have hassigned' : r'.assigned = new := by rw [← hrun]
  have hparams' : r'.params = r.params := by rw [← hrun]
  have hin : ∀ i, inRun s i = inRun (setRun r' s) i := fun i => by simp [inRun, hr₀, hseg, hsegs']
  have hmodes : ∀ i, ModeAt (setRun r' s) i := fun i =>
    ⟨fun hc => ⟨((hset i).mode.unheld hc).mode, (hin i) ▸ ((hset i).mode.unheld hc).run, ((hset i).mode.unheld hc).lock,
      ((hset i).mode.unheld hc).hold⟩,
     fun hc => by
      obtain ⟨a, b, c, d⟩ := (hset i).mode.right hc
      rw [hin i] at b c d
      exact ⟨a, b, c, d⟩⟩
  have hkeep : ∀ i, i ∉ changedSegs r new → SameAt i s (setRun r' s) := fun i hi => by
    refine ⟨rfl, rfl, rfl, fun _ => rfl, rfl, (hin i).symm, fun hc b => ?_, fun _ => rfl⟩
    have hi' : maskHas r.segments i = true := by
      have := (hset i).steady.inRun_of_calibrating hc
      simpa [inRun, hr₀, hseg] using this
    simp only [setRun_cal, Option.map_some, hr₀, hass, hassigned']
    congr 1
    by_cases hg : r.groups.contains (groupOf i b) = true
    · by_contra hne
      refine hi (List.mem_filter.mpr ⟨mem_maskSegs.mpr hi', List.any_eq_true.mpr ⟨_, List.contains_iff_mem.mp hg, ?_⟩⟩)
      rw [segOf_groupOf, beq_self_eq_true, Bool.true_and, bne_iff_ne]
      exact fun e => hne e.symm
    · rw [Bool.not_eq_true] at hg
      have hnone : r.assigned[groupOf i b] = 0 := hass ▸ h2 (groupOf i b) (by rw [hgrp]; exact hg)
      have hzero : new[groupOf i b] = 0 := by rw [← hnew, phaseLevels_get, hg]; rfl
      exact hzero.trans hnone.symm
  obtain ⟨hoff, hon⟩ := foldl_segments (f := fun s i => recompose i s)
    (P := fun i s => ExistAt s i ∧ ModeAt s i) (Q := fun i s => Settled s i)
    (fun s i j hj => recompose_sameAt hj s) (fun i s t k ⟨h1, h2⟩ => ⟨k.existAt h1, k.modeAt h2⟩)
    (fun i s t k => k.settled) (fun i s ⟨h1, h2⟩ => settled_recompose h1 h2)
    (changedSegs r new) (setRun r' s) ((nodup_maskSegs _).filter _)
  have hfin : ∀ i, Settled ((changedSegs r new).foldl (fun s i => recompose i s) (setRun r' s)) i := fun i => by
    by_cases hi : i ∈ changedSegs r new
    · exact hon i hi ⟨(hset i).exist, hmodes i⟩
    · exact ((hkeep i hi).trans (hoff i hi)).settled (hset i)
  have hq : Quiet (setRun r' s) ((changedSegs r new).foldl (fun s i => recompose i s) (setRun r' s)) :=
    Quiet.foldl (fun s i => quiet_recompose i s) _ _
  have hex := groupExists_congr (fun i => (hset i).exist) (fun i => (hfin i).exist) (by rw [hq.layout]; rfl)
  refine jointLaw_iff.mpr ⟨hfin, tableLaw_congr ht (by rw [hq.table]; rfl) fun i => by
      simp only [configured, segCfg, hq.layout]; rfl, ?_, namingLaw_mono hn (by rw [hq.coupling]; rfl) fun g hg => (hex g).trans hg⟩
  intro r'' hr''
  rw [hq.cal] at hr''
  cases hr''
  rw [hpar] at h4
  have htop : runTop r' = runTop r₀ := by rw [runTop, runTop, hparams', hpar]
  refine ⟨fun g => ?_, fun g hg => ?_, fun g => ?_, by rw [hparams']; exact h4, fun i hi level hl => ?_⟩
  · rw [hgroups', hsegs', hex g, ← hgrp, ← hseg]; exact h1 g
  · rw [hassigned', ← hnew, phaseLevels_get, ← hgroups', hg]; rfl
  · rw [hassigned', ← hnew, runTop, hparams']; exact phaseLevels_le f h4 _ _ g
  · rw [hq.table] at hl; rw [htop]; exact h5 i (by rw [hseg, ← hsegs']; exact hi) level hl

/-- A list that a commit computes names groups of the run or of the old list (R145). -/
theorem mem_newList {r : CalRun} {a : CalSensor} {old : List Coupling} {e : Coupling} (h : e ∈ newList r a old) :
    r.groups.contains e.group = true ∨ ∃ o ∈ old, o.group = e.group := by
  have h := (List.mem_filter.mp h).1
  obtain ⟨g, _, hg⟩ := List.mem_filterMap.mp h
  unfold candidate at hg
  split at hg
  · next c hc =>
    split at hg
    · cases hg
      refine .inl ?_
      by_contra hn
      rw [if_neg hn] at hc; cases hc
    · cases hg
  · obtain ⟨c, hc, rfl⟩ := Option.map_eq_some_iff.mp hg
    obtain ⟨o, ho, _⟩ := Option.map_eq_some_iff.mp hc
    exact .inr ⟨o, List.mem_of_find?_eq_some ho, by simpa using List.find?_some ho⟩

/-- Other coupling lists that name existing groups keep the joint law. -/
theorem jointLaw_setCoupling {s : State} (h : JointLaw s) {x : CouplingStore}
    (hx : ∀ k : SensorId, ∀ e ∈ x.lists[k], groupExists s.lum e.group = true) : JointLaw (s.setCoupling x) := by
  obtain ⟨h1, h2, h3, h4, _, h6⟩ := h
  exact ⟨h1, h2, h3, h4, hx, h6⟩

theorem jointLaw_commit {r : CalRun} {s : State} (h : JointLaw s) (hk : s.cal.run.map runKey = some (runKey r)) :
    JointLaw (commit r s) := by
  obtain ⟨_, _, hr, hn⟩ := jointLaw_iff.mp h
  obtain ⟨r₀, hr₀, hkey⟩ := Option.map_eq_some_iff.mp hk
  obtain ⟨hseg, hgrp⟩ : r₀.segments = r.segments ∧ r₀.groups = r.groups := by
    simp only [runKey, Prod.mk.injEq] at hkey; exact ⟨hkey.1, hkey.2.1⟩
  refine jointLaw_endRun (jointLaw_setCoupling h fun k e he => ?_) fun i => by simp [inRun, hr₀, hseg]
  simp only [commitStore, Fin.getElem_fin, Vector.getElem_ofFn] at he
  split at he
  · rcases mem_newList he with hg | ⟨o, ho, hog⟩
    · rw [← hgrp, (hr r₀ hr₀).1, Bool.and_eq_true] at hg; exact hg.2
    · rw [← hog]; exact hn k o ho
  · exact hn k e he

/-- What a run gathers is no part of its key. -/
theorem runKey_mapInvolved (r : CalRun) (f : CalSensor → CalSensor) : runKey (mapInvolved r f) = runKey r := by
  simp only [runKey, mapInvolved]

/-- What follows the last cycle of a probe position: the next position, the DARK phase, or the commit (R141). -/
theorem jointLaw_probesOver {x : CalRun} {s : State} (h : JointLaw s) (hk : s.cal.run.map runKey = some (runKey x)) :
    JointLaw (if x.probe + 1 < x.groups.length then enterPhase .probeHigh (x.probe + 1) 1 x s
      else if x.params.dark = .last then enterPhase .dark x.probe x.cycle x s else commit x s) := by
  split
  · exact jointLaw_enterPhase h hk _ _ _
  · split
    · exact jointLaw_enterPhase h hk _ _ _
    · exact jointLaw_commit h hk

/-- What follows a phase keeps the joint law (R139 to R141, R145). -/
theorem jointLaw_nextPhase {r : CalRun} {s : State} (h : JointLaw s) (hr : s.cal.run = some r) :
    JointLaw (nextPhase r s) := by
  have hk : s.cal.run.map runKey = some (runKey r) := by rw [hr]; rfl
  have hmap : ∀ f, s.cal.run.map runKey = some (runKey (mapInvolved r f)) := fun f => by rw [hk, runKey_mapInvolved]
  unfold nextPhase
  split
  · split <;> exact jointLaw_enterPhase h hk _ _ _
  · dsimp only
    split
    · exact jointLaw_enterPhase h (hmap _) _ _ _
    · exact jointLaw_commit h (hmap _)
  · exact jointLaw_enterPhase h hk _ _ _
  · split
    · exact jointLaw_enterPhase h hk _ _ _
    · exact jointLaw_probesOver h (by split <;> [exact hk; exact hmap _])

theorem jointLaw_calStageTimerExpiry {s : State} (h : JointLaw s) : JointLaw (calStageTimerExpiry s) := by
  unfold calStageTimerExpiry
  split
  · exact h
  next r hr =>
  split
  · unfold stageExpiry
    split
    · exact h
    · exact (neutral_setCal (Neutral.refl s) (by rw [hr]; rfl)).jointLaw h
    · exact jointLaw_nextPhase h hr
    · exact jointLaw_nextPhase h hr
  · exact h

end Sys2Proof.Proofs
end

section
/-! PROOFS. The joint law over passes, the resets and the layout requests, and over every step. -/

namespace Sys2Proof.Proofs

open Sys2Proof Sys2Proof.Machine Sys2Proof.Safety Sys2Proof.Laws

/-! ## The pass (R61) -/

/-- One controller and event sets change alone. -/
structure OnCtrl (i : SegId) (s t : State) : Prop where
  quiet : Quiet s t
  lum : t.lum = s.lum
  others : ∀ j : SegId, j ≠ i → t.ctrls[j] = s.ctrls[j]

theorem OnCtrl.refl (i : SegId) (s : State) : OnCtrl i s s := ⟨Quiet.refl s, rfl, fun _ _ => rfl⟩

theorem OnCtrl.trans {i : SegId} {s t u : State} (h : OnCtrl i s t) (k : OnCtrl i t u) : OnCtrl i s u :=
  ⟨h.quiet.trans k.quiet, k.lum.trans h.lum, fun j hj => (k.others j hj).trans (h.others j hj)⟩

theorem onCtrl_updCtrl (i : SegId) (f : Ctrl → Ctrl) (s : State) : OnCtrl i s (updCtrl i f s) :=
  ⟨quiet_updCtrl i f s, rfl, fun j hj => by rw [updCtrl_ctrls, updAt_get, if_neg hj.symm]⟩

theorem onCtrl_raiseEvent (i j : SegId) (e : SegEvent) (s : State) : OnCtrl i s (raiseEvent j e s) :=
  ⟨quiet_raiseEvent j e s, rfl, fun _ _ => rfl⟩

theorem onCtrl_changeMode (i : SegId) (m : Mode) (s : State) : OnCtrl i s (changeMode i m s) :=
  ⟨quiet_changeMode i m s, changeMode_lum i m s, fun j hj => changeMode_other i j m s hj.symm⟩

theorem onCtrl_glareEvent (i : SegId) (was is : Bool) (s : State) : OnCtrl i s (glareEvent i was is s) := by
  unfold glareEvent
  split
  · exact .refl i s
  · exact onCtrl_raiseEvent i i _ s

theorem onCtrl_setGlare (i : SegId) (on : Bool) (s : State) : OnCtrl i s (setGlare i on s) :=
  (onCtrl_updCtrl i _ s).trans (onCtrl_glareEvent i _ _ _)

theorem onCtrl_passMode (i : SegId) (data : Bool) (s : State) : OnCtrl i s (passMode i data s) := by
  have h := fun m => (onCtrl_updCtrl i (countPass data) s).trans (onCtrl_changeMode i m _)
  unfold passMode
  dsimp only
  split
  · exact (h _).trans (onCtrl_raiseEvent i i _ _)
  · exact h _

theorem onCtrl_passRaw (i : SegId) (raw : Option Nat) (s : State) : OnCtrl i s (passRaw i raw s) := by
  have h := onCtrl_updCtrl i (fun c => { c with lastRaw := raw }) s
  unfold passRaw
  cases raw with
  | none => exact h
  | some d => exact h.trans (onCtrl_setGlare i _ _)

/-- A change of the record that keeps its mode. -/
theorem modeOf_updCtrl {i : SegId} {f : Ctrl → Ctrl} (hf : ∀ c, (f c).mode = c.mode) (j : SegId) (s : State) :
    modeOf (updCtrl i f s) j = modeOf s j := by
  rw [modeOf, updCtrl_ctrls, updAt_get]
  split
  · exact hf _
  · rfl

theorem glareEvent_ctrls (i : SegId) (was is : Bool) (s : State) : (glareEvent i was is s).ctrls = s.ctrls := by
  unfold glareEvent; split <;> rfl

theorem setGlare_ctrls (i : SegId) (on : Bool) (s : State) :
    (setGlare i on s).ctrls = updAt s.ctrls i fun c => { c with glare := on } := glareEvent_ctrls _ _ _ _

theorem modeOf_setGlare (i j : SegId) (on : Bool) (s : State) : modeOf (setGlare i on s) j = modeOf s j := by
  rw [modeOf, setGlare_ctrls]
  exact modeOf_updCtrl (f := fun c => { c with glare := on }) (fun _ => rfl) j s

theorem modeOf_passRaw (i : SegId) (raw : Option Nat) (s : State) : modeOf (passRaw i raw s) i = modeOf s i := by
  have h := modeOf_updCtrl (i := i) (f := fun c => { c with lastRaw := raw }) (fun _ => rfl) i s
  unfold passRaw
  cases raw with
  | none => exact h
  | some d => exact (modeOf_setGlare i i _ _).trans h

/-- The mode after steps 1 and 2 of a pass (R55). -/
theorem modeOf_passMode (i : SegId) (data : Bool) (s : State) :
    modeOf (passMode i data s) i = modeByPass data (countPass data s.ctrls[i]) := by
  have h : (updCtrl i (countPass data) s).ctrls[i] = countPass data s.ctrls[i] := by
    rw [updCtrl_ctrls, updAt_get, if_pos rfl]
  unfold passMode
  dsimp only
  rw [h]
  split
  · exact modeOf_changeMode i _ _
  · exact modeOf_changeMode i _ _

/-- Step 3 of a pass: outside CALIBRATING the raw daylight and glare (R61). -/
def passDaylight (i : SegId) (raw : Option Nat) (s : State) : State :=
  if modeOf s i = .calibrating then s else passRaw i raw s

/-- Step 4 of a pass: the control arithmetic of an ACTIVE pass with data (R61). -/
def passControl (i : SegId) (cfg : SegConfig) (seed : Bool) (raw : Option Nat) (s : State) : State :=
  match raw with
  | some d => if modeOf s i = .active then updCtrl i (controlStep cfg seed d) s else s
  | none => s

/-- The pass timer rearmed (R60). -/
def rearm (n : Nat) (c : Ctrl) : Ctrl := { c with passTimer := some n }

/-- A pass has usable data (R41). -/
def passData (i : SegId) (s : State) : Bool :=
  sensorUsable s.sensors (segCfg s i).primary || sensorUsable s.sensors (segCfg s i).secondary

/-- A segment as its pass leaves it to recomposition. -/
def passed (i : SegId) (s : State) : State :=
  updCtrl i (rearm (segCfg s i).passPeriod) (passControl i (segCfg s i) (modeOf s i != .active) (rawDaylight s i)
    (passDaylight i (rawDaylight s i) (passMode i (passData i s) s)))

theorem passSegment_eq (i : SegId) (s : State) : passSegment i s = recompose i (passed i s) := rfl

theorem onCtrl_passDaylight (i : SegId) (raw : Option Nat) (s : State) : OnCtrl i s (passDaylight i raw s) := by
  unfold passDaylight
  split
  · exact .refl i s
  · exact onCtrl_passRaw i raw s

theorem onCtrl_passControl (i : SegId) (cfg : SegConfig) (seed : Bool) (raw : Option Nat) (s : State) :
    OnCtrl i s (passControl i cfg seed raw s) := by
  unfold passControl
  split
  · split
    · exact onCtrl_updCtrl i _ s
    · exact .refl i s
  · exact .refl i s

/-- A pass changes its segment's controller and event sets before it recomposes. -/
theorem onCtrl_passed (i : SegId) (s : State) : OnCtrl i s (passed i s) :=
  (((onCtrl_passMode i _ s).trans (onCtrl_passDaylight i _ _)).trans (onCtrl_passControl i _ _ _ _)).trans
    (onCtrl_updCtrl i _ _)

theorem modeOf_passDaylight (i : SegId) (raw : Option Nat) (s : State) : modeOf (passDaylight i raw s) i = modeOf s i := by
  unfold passDaylight
  split
  · rfl
  · exact modeOf_passRaw i raw s

theorem modeOf_passControl (i : SegId) (cfg : SegConfig) (seed : Bool) (raw : Option Nat) (s : State) :
    modeOf (passControl i cfg seed raw s) i = modeOf s i := by
  unfold passControl
  split
  · split
    · exact modeOf_updCtrl (f := controlStep _ _ _) (fun _ => rfl) i s
    · rfl
  · rfl

/-- The mode a pass leaves (R55). -/
theorem modeOf_passed (i : SegId) (s : State) :
    modeOf (passed i s) i = modeByPass (passData i s) (countPass (passData i s) s.ctrls[i]) := by
  rw [passed, modeOf_updCtrl (f := rearm _) fun _ => rfl, modeOf_passControl, modeOf_passDaylight, modeOf_passMode]

/-- START, ACTIVE and DEGRADED are right in the same states (R52). -/
theorem rightMode_free {s : State} {i : SegId} {m m' : Mode} (h : RightMode s i m)
    (hm : m = .start ∨ m = .active ∨ m = .degraded) (hm' : m' = .start ∨ m' = .active ∨ m' = .degraded) :
    RightMode s i m' := by
  obtain ⟨_, h2, h3, h4⟩ := h
  rcases hm with rfl | rfl | rfl <;> rcases hm' with rfl | rfl | rfl <;> constructor <;> simp_all

/-- A pass keeps the precedence of modes: only START, ACTIVE and DEGRADED change, among each other (R55). -/
theorem rightMode_modeByPass {s : State} {i : SegId} {c : Ctrl} (h : RightMode s i c.mode) (data : Bool) :
    RightMode s i (modeByPass data c) := by
  have hfree : c.mode = .start ∨ c.mode = .active ∨ c.mode = .degraded →
      modeByPass data c = .start ∨ modeByPass data c = .active ∨ modeByPass data c = .degraded := by
    rintro (hc | hc | hc) <;> simp only [modeByPass, hc] <;> repeat' split
    all_goals simp
  cases hc : c.mode with
  | start => exact rightMode_free h (by simp [hc]) (hfree (by simp [hc]))
  | active => exact rightMode_free h (by simp [hc]) (hfree (by simp [hc]))
  | degraded => exact rightMode_free h (by simp [hc]) (hfree (by simp [hc]))
  | _ => simp only [modeByPass, hc]; rw [← hc]; exact h

theorem countPass_mode (data : Bool) (c : Ctrl) : (countPass data c).mode = c.mode := by
  unfold countPass; split <;> rfl

/-- Changes at one segment that leave it settled keep the joint law. -/
theorem jointLaw_of_quiet {i : SegId} {s t : State} (h : JointLaw s) (hq : Quiet s t) (hset : Settled t i)
    (hsame : ∀ j, j ≠ i → SameAt j s t) : JointLaw t := by
  obtain ⟨hs, ht, hr, hn⟩ := jointLaw_iff.mp h
  have hfin : ∀ j, Settled t j := fun j => by
    by_cases hj : j = i
    · subst hj; exact hset
    · exact (hsame j hj).settled (hs j)
  have hex := groupExists_congr (fun i => (hs i).exist) (fun i => (hfin i).exist) (by rw [hq.layout])
  exact jointLaw_iff.mpr ⟨hfin, tableLaw_congr ht (by rw [hq.table]) fun j => by simp only [configured, segCfg, hq.layout],
    runLaw_mono hr (by rw [hq.cal]) (fun g _ => hex g) (fun r _ j _ level hl => .inl (by rwa [hq.table] at hl)),
    namingLaw_mono hn (by rw [hq.coupling]) fun g hg => (hex g).trans hg⟩

theorem jointLaw_passSegment {i : SegId} {s : State} (h : JointLaw s) (hc : configured s i = true) :
    JointLaw (passSegment i s) := by
  rw [passSegment_eq]
  obtain ⟨hq, hlum, hoth⟩ := onCtrl_passed i s
  have hmode := modeOf_passed i s
  generalize passed i s = u at hq hlum hoth hmode ⊢
  have hs := (jointLaw_iff.mp h).1
  have hcfg : segCfg u i = segCfg s i := by simp only [segCfg, hq.layout]
  have hright : RightMode s i (modeOf u i) := by
    rw [hmode]
    exact rightMode_modeByPass (by rw [countPass_mode]; exact (hs i).mode.right hc) _
  refine jointLaw_of_quiet h (hq.trans (quiet_recompose i u)) (settled_recompose (fun b => ?_) ⟨fun hn => ?_, fun _ => ?_⟩)
    fun j hj => SameAt.trans (.of_quiet hq (hoth j hj) fun g _ => by rw [hlum]) (recompose_sameAt hj u)
  · rw [hlum, (hs i).exist b, configured, configured, hcfg]
  · rw [configured, hcfg, ← configured, hc] at hn; cases hn
  · have hrun : inRun u i = inRun s i := by simp only [inRun, hq.cal]
    have hlock : isLocked u i = isLocked s i := by simp only [isLocked, hq.table]
    have hhold : isHeld u i = isHeld s i := by simp only [isHeld, hq.table]
    obtain ⟨h1, h2, h3, h4⟩ := hright
    exact ⟨h1, by rw [hrun]; exact h2, by rw [hrun, hlock]; exact h3, by rw [hrun, hlock, hhold]; exact h4⟩

/-! ## Settings and the coupling store -/

/-- The list of COUPLING_WRITE names the groups of its positions, which exist (R36, R37). -/
theorem buildList_exists {l : Lum} {ps : List (Nat × Nat)} (h : (ps.any fun q => !positionExists l q) = false)
    {e : Coupling} (he : e ∈ buildList ps) : groupExists l e.group = true := by
  obtain ⟨g, _, hg⟩ := List.mem_filterMap.mp he
  unfold positionEntry at hg
  split at hg
  · cases hg
  · next q hq =>
    split at hg
    · cases hg
    · cases hg
      have hval : q.1 = g.val := by simpa using List.find?_some hq
      have := List.any_eq_false.mp h q (List.mem_of_find?_eq_some hq)
      simpa [positionExists, hval] using this

theorem jointLaw_couplingWrite {s : State} (h : JointLaw s) (sensor dark count : Nat) (ps : List (Nat × Nat)) :
    JointLaw (couplingWrite sensor dark count ps s).state := by
  unfold couplingWrite
  dsimp only
  split
  · exact h
  next k _ =>
  split
  · exact h
  split
  · exact h
  next hall =>
  split
  · exact h
  split
  · exact h
  refine jointLaw_setCoupling h fun j e he => ?_
  simp only [writeCoupling, set_get] at he
  split at he
  · exact buildList_exists (by simpa using hall) he
  · exact (jointLaw_iff.mp h).2.2.2 j e he

/-- A threshold and a glare flag are read by no joint law (R72). -/
theorem jointLaw_writeThreshold {s : State} (h : JointLaw s) (n : Nat) (i : SegId) : JointLaw (writeThreshold n s i) := by
  have hseg : ∀ j, SameAt j s (updSeg i (fun c => { c with glareThreshold := n }) s) := fun j => by
    have hcfg : segCfg (updSeg i (fun c => { c with glareThreshold := n }) s) j =
        if i = j then { segCfg s j with glareThreshold := n } else segCfg s j := by
      rw [segCfg, updSeg_layout]; exact updAt_get _ _ _ _
    refine ⟨?_, ?_, rfl, fun b => ?_, rfl, rfl, fun _ _ => rfl, fun _ => rfl⟩
    · rw [configured, hcfg]; split <;> rfl
    · rw [hcfg]; split <;> rfl
    · rw [hcfg]; split <;> rfl
  have hglare : ∀ u : State, ∀ j, SameAt j u (setGlare i false u) := fun u j => by
    have k := onCtrl_setGlare i false u
    refine ⟨by simp only [configured, segCfg, k.quiet.layout], by simp only [segCfg, k.quiet.layout], modeOf_setGlare ..,
      fun b => ?_, by rw [k.quiet.table], by simp only [inRun, k.quiet.cal], fun _ b => by rw [k.quiet.cal], fun b => by rw [k.lum]⟩
    rw [segCfg, k.quiet.layout, ← segCfg, setGlare_ctrls, updAt_get]
    split <;> rfl
  have h1 := jointLaw_of_sameAt h hseg rfl rfl rfl
  unfold writeThreshold
  dsimp only
  split
  · have k := onCtrl_setGlare i false (updSeg i (fun c => { c with glareThreshold := n }) s)
    exact jointLaw_of_sameAt h1 (hglare _) (by rw [k.quiet.table]) (by rw [k.quiet.cal]) (by rw [k.quiet.coupling])
  · exact h1

theorem jointLaw_glareSet {s : State} (h : JointLaw s) (mask : SegMask) (n : Nat) : JointLaw (glareSet mask n s).state := by
  unfold glareSet
  dsimp only
  split
  · exact h
  · exact List.foldlRecOn _ _ h fun u hu i _ => jointLaw_writeThreshold hu _ i

/-! ## The layout requests (Section 1) -/

/-- A written record with invalid outputs and its segment recomposed (R12). -/
theorem jointLaw_retune {i : SegId} {f : SegConfig → SegConfig} {s : State} (h : JointLaw s)
    (hc : ∀ c, (f c).configured = c.configured) (hn : ∀ c, (f c).bandCount = c.bandCount) : JointLaw (retune i f s) := by
  obtain ⟨hs, ht, hr, hnm⟩ := jointLaw_iff.mp h
  have hcfg : ∀ j, segCfg (updCtrl i invalidate (updSeg i f s)) j = if i = j then f (segCfg s j) else segCfg s j :=
    fun j => by rw [segCfg, updCtrl_layout, updSeg_layout]; exact updAt_get _ _ _ _
  have hconf : ∀ j, configured (updCtrl i invalidate (updSeg i f s)) j = configured s j := fun j => by
    rw [configured, hcfg]; split
    · exact hc _
    · rfl
  have hband : ∀ j, (segCfg (updCtrl i invalidate (updSeg i f s)) j).bandCount = (segCfg s j).bandCount := fun j => by
    rw [hcfg]; split
    · exact hn _
    · rfl
  have hmode : ∀ j, modeOf (updCtrl i invalidate (updSeg i f s)) j = modeOf s j :=
    fun j => modeOf_updCtrl (f := invalidate) (fun _ => rfl) j _
  have hfin : ∀ j, Settled (retune i f s) j := fun j => by
    by_cases hj : j = i
    · subst hj
      refine settled_recompose (fun b => by rw [hconf, hband]; exact (hs j).exist b) ⟨fun hu => ?_, fun hu => ?_⟩
      · obtain ⟨a, b, c, d⟩ := (hs j).mode.unheld ((hconf j) ▸ hu)
        exact ⟨(hmode j).trans a, b, c, d⟩
      · obtain ⟨a, b, c, d⟩ := (hs j).mode.right ((hconf j) ▸ hu)
        rw [hmode]
        exact ⟨a, b, c, d⟩
    · have hstay : SameAt j s (updCtrl i invalidate (updSeg i f s)) := by
        refine ⟨hconf j, hband j, hmode j, fun b => ?_, rfl, rfl, fun _ _ => rfl, fun _ => rfl⟩
        rw [hcfg, if_neg (Ne.symm hj), updCtrl_ctrls, updAt_get, if_neg (Ne.symm hj)]; rfl
      exact (hstay.trans (recompose_sameAt hj _)).settled (hs j)
  have hex : ∀ g, groupExists (retune i f s).lum g = groupExists s.lum g := fun g => recompose_exists i _ g
  exact jointLaw_iff.mpr ⟨hfin, tableLaw_congr ht rfl hconf,
    runLaw_mono hr rfl (fun g _ => hex g) (fun r _ j _ level hl => .inl hl),
    namingLaw_mono hnm rfl fun g hg => (hex g).trans hg⟩

theorem jointLaw_segTune {s : State} (h : JointLaw s) (n : Nat) (x : Tuning) : JointLaw (segTune n x s).state := by
  unfold segTune
  split
  · exact h
  · split
    · exact h
    · split
      · exact h
      · exact jointLaw_retune h (fun _ => rfl) fun _ => rfl

theorem jointLaw_bandSet {s : State} (h : JointLaw s) (n b : Nat) (q : BandConfig) : JointLaw (bandSet n b q s).state := by
  unfold bandSet
  split
  · exact h
  · repeat' split
    all_goals first | exact h | exact jointLaw_retune h (fun _ => rfl) fun _ => rfl

/-- What a new group starts as, once its level is handed to the link (R6, R97, R115). -/
theorem createGroup_groups (level : Nat) (l : Lum) (g : GroupId) :
    (createGroup level l g).groups = l.groups.set g (some { newGroup level with
      unsent := !queued l.link g && (l.link.state == .draining || l.link.state == .paused) }) := by
  rw [createGroup, placeLevel_groups]
  apply vector_ext; intro j
  rw [updAt_get, set_get, set_get]
  split <;> rfl

/-- New groups have the one demanded level; the others keep theirs. -/
theorem demanded_foldl_createGroup (level : Nat) (g : GroupId) : ∀ (gs : List GroupId) (l : Lum),
    (gs.foldl (createGroup level) l).groups[g].map (·.demanded) =
      if g ∈ gs then some level else l.groups[g].map (·.demanded) := by
  intro gs
  induction gs with
  | nil => intro l; simp
  | cons a gs ih =>
    intro l
    rw [List.foldl_cons, ih, createGroup_groups, set_get]
    by_cases hg : g ∈ gs
    · simp [hg]
    · by_cases ha : a = g
      · subst ha; simp [newGroup]
      · simp [hg, ha, Ne.symm ha]

theorem mem_bandsBelow {n : Nat} {b : BandId} : b ∈ bandsBelow n ↔ b.val < n := by simp [bandsBelow]

theorem groupOf_injective (i : SegId) : Function.Injective (groupOf i) := fun a b h => by
  have := congrArg bandOf h
  rwa [bandOf_groupOf, bandOf_groupOf] at this

theorem mem_map_groupOf {i j : SegId} {b : BandId} {n : Nat} :
    groupOf j b ∈ (bandsBelow n).map (groupOf i) ↔ j = i ∧ b.val < n := by
  rw [List.mem_map]
  constructor
  · rintro ⟨b', hb', e⟩
    have hij := congrArg segOf e
    rw [segOf_groupOf, segOf_groupOf] at hij
    subst hij
    rw [groupOf_injective _ e] at hb'
    exact ⟨rfl, mem_bandsBelow.mp hb'⟩
  · rintro ⟨rfl, hb⟩; exact ⟨b, mem_bandsBelow.mpr hb, rfl⟩

/-- SEG_DEFINE of an unconfigured segment keeps the joint law (R5, R6). -/
theorem jointLaw_defineSegment {i : SegId} {cfg : SegConfig} {s : State} (h : JointLaw s) (hi : configured s i = false)
    (hcfg : cfg.configured = true) : JointLaw (defineSegment i cfg s) := by
  obtain ⟨hs, ht, hr, hn⟩ := jointLaw_iff.mp h
  have hseg : ∀ j, segCfg (defineSegment i cfg s) j = if i = j then cfg else segCfg s j := fun j => updAt_get _ _ _ _
  have hctrl : ∀ j : SegId, (defineSegment i cfg s).ctrls[j] = if i = j then definedCtrl cfg else s.ctrls[j] :=
    fun j => updAt_get _ _ _ _
  have hdem : ∀ j b, (defineSegment i cfg s).lum.groups[groupOf j b].map (·.demanded) =
      if j = i ∧ b.val < cfg.bandCount then some cfg.fallback else s.lum.groups[groupOf j b].map (·.demanded) := fun j b =>
    (demanded_foldl_createGroup _ _ _ _).trans (by simp only [mem_map_groupOf]; rfl)
  have hunheld := (hs i).mode.unheld hi
  have hcover : covering s.table.entries i = [] := covering_unconfigured ht hi
  have hconf : configured (defineSegment i cfg s) i = true := by rw [configured, hseg, if_pos rfl, hcfg]
  have hother : ∀ j, j ≠ i → SameAt j s (defineSegment i cfg s) := fun j hj =>
    ⟨by rw [configured, hseg, if_neg hj.symm, configured], by rw [hseg, if_neg hj.symm],
     by rw [modeOf, hctrl, if_neg hj.symm, modeOf],
     fun b => by rw [hseg, if_neg hj.symm, hctrl, if_neg hj.symm], rfl, rfl, fun _ _ => rfl,
     fun b => by rw [hdem, if_neg fun e => hj e.1]⟩
  have hsettled : Settled (defineSegment i cfg s) i := by
    have hm : modeOf (defineSegment i cfg s) i = .start := by rw [modeOf, hctrl, if_pos rfl]; rfl
    refine ⟨fun b => ?_, ⟨fun hc => absurd (hconf.symm.trans hc) (by simp), fun _ => ?_⟩, fun b r hr => ?_⟩
    · have hd := congrArg Option.isSome (hdem i b)
      rw [Option.isSome_map] at hd
      rw [groupExists, hd, hconf, hseg, if_pos rfl]
      by_cases hb : b.val < cfg.bandCount
      · simp [hb]
      · simp [hb, (hs i).exist.none_of_unconfigured hi b]
    · have hrun : inRun (defineSegment i cfg s) i = false := hunheld.run
      have hlock : isLocked (defineSegment i cfg s) i = false := hunheld.lock
      have hhold : isHeld (defineSegment i cfg s) i = false := hunheld.hold
      rw [hm]
      constructor <;> simp [hrun, hlock, hhold]
    · have hd := hdem i b
      rw [Option.mem_def.mp hr, Option.map_some] at hd
      have htab : (defineSegment i cfg s).table.entries = s.table.entries := rfl
      by_cases hb : b.val < cfg.bandCount
      · rw [if_pos ⟨rfl, hb⟩] at hd
        rw [Option.some.inj hd, demandLevel, hm, htab, lowestCap, capsOver_eq, overrideOver_eq, hcover, hctrl, if_pos rfl]
        simp [capped, baseLevel, definedCtrl, perBand, hb]
      · rw [if_neg fun e => hb e.2, (hs i).exist.none_of_unconfigured hi b] at hd
        cases hd
  have hex : ∀ j, j ≠ i → ∀ b, groupExists (defineSegment i cfg s).lum (groupOf j b) = groupExists s.lum (groupOf j b) :=
    fun j hj => (hother j hj).exists
  have hex' : ∀ g, segOf g ≠ i → groupExists (defineSegment i cfg s).lum g = groupExists s.lum g := fun g hg => by
    have := hex (segOf g) hg (bandOf g); rwa [groupOf_segOf] at this
  have hold : ∀ g, groupExists s.lum g = true → segOf g ≠ i := fun g hg e => by
    have := (hs i).exist (bandOf g)
    rw [← e, groupOf_segOf, hg, e, hi] at this; cases this
  refine jointLaw_iff.mpr ⟨fun j => ?_, ?_, runLaw_mono hr rfl (fun g hg => hex' g fun e => ?_) (fun r _ j _ level hl => .inl hl),
    namingLaw_mono hn rfl fun g hg => (hex' g (hold g hg)).trans hg⟩
  · by_cases hj : j = i
    · subst hj; exact hsettled
    · exact (hother j hj).settled (hs j)
  · obtain ⟨h1, h2, h3⟩ := ht
    refine ⟨h1, h2, fun e he => ?_⟩
    obtain ⟨h4, h5, h6⟩ := h3 e he
    refine ⟨h4, mask_ext fun j => ?_, h6⟩
    have hj := congrArg (maskHas · j) h5
    simp only [maskHas_and, maskHas_configuredMask] at hj ⊢
    by_cases hji : j = i
    · subst hji; rw [hconf, Bool.and_true]
    · rw [(hother j hji).configured]; exact hj
  · rw [e, hunheld.run] at hg; cases hg

theorem jointLaw_segDefine {s : State} (h : JointLaw s) (n b p q : Nat) : JointLaw (segDefine n b p q s).state := by
  unfold segDefine
  split
  · exact h
  · split
    · split
      · exact h
      · next hc => exact jointLaw_defineSegment h (by simpa using hc) rfl
    · exact h

/-! ### SEG_REMOVE (R8, R9) -/

/-- The state in which a removal changes the table: the record, groups, controller, names and holders are gone. -/
def removedUntabled (i : SegId) (s : State) : State :=
  let u := raiseEvent i .modeChange
    (updCtrl i (fun _ => Ctrl.blank) ((updSeg i removedConfig s).setLum (dropGroups (ownsGroup i) s.lum)))
  (u.setCoupling (purgeLists (ownsGroup i) u.coupling)).setSensors (reassign s.layout u.layout u.sensors)

theorem removeSegment_eq (i : SegId) (s : State) : removeSegment i s =
    let u := tableChange (takeOut (fun _ => true) (maskOf i) s.table.entries) none
      (takenFrom (fun _ => true) (maskOf i) s.table.entries) (removedUntabled i s)
    u.setPorts (u.ports.map (clearEventsAt i)) := rfl

section
variable (i : SegId) (s : State)

theorem removedUntabled_segCfg (j : SegId) :
    segCfg (removedUntabled i s) j = if i = j then removedConfig (segCfg s j) else segCfg s j := updAt_get _ _ _ _

theorem removedUntabled_ctrls (j : SegId) :
    (removedUntabled i s).ctrls[j] = if i = j then Ctrl.blank else s.ctrls[j] := updAt_get _ _ _ _

theorem removedUntabled_groups (g : GroupId) :
    (removedUntabled i s).lum.groups[g] = if segOf g = i then none else s.lum.groups[g] := by
  refine (ofFn_get _ _).trans ?_
  simp only [ownsGroup, beq_iff_eq]

/-- A segment other than the one taken out is covered as before. -/
theorem covering_removed {j : SegId} (h : j ≠ i) (t : List Entry) :
    covering (takeOut (fun _ => true) (maskOf i) t) j = covering t j :=
  covering_takeOut fun e _ _ _ => by simpa using h.symm

/-- Nothing covers the segment taken out. -/
theorem covering_removed_self (t : List Entry) : covering (takeOut (fun _ => true) (maskOf i) t) i = [] := by
  simp only [covering, List.map_eq_nil_iff, List.filter_eq_nil_iff]
  intro e he
  obtain ⟨e₀, _, ⟨hf, _⟩ | ⟨_, _, rfl⟩⟩ := mem_takeOut.mp he
  · cases hf
  · simp

end

/-- Every segment is settled before the segments are informed of a removal. -/
theorem settled_removed {i : SegId} {s : State} (h : JointLaw s) (hm : modeOf s i ≠ .calibrating)
    (j : SegId) : Settled (setEntries (takeOut (fun _ => true) (maskOf i) s.table.entries) (removedUntabled i s)) j := by
  obtain ⟨hs, _, _, _⟩ := jointLaw_iff.mp h
  have hgrp := removedUntabled_groups i s
  by_cases hj : j = i
  · subst hj
    have hrun : inRun s j = false := by
      cases hr : inRun s j with
      | false => rfl
      | true =>
        have k := (hs j).steady
        exact absurd ((k.calibrating (k.configured_of_inRun hr)).mpr hr) hm
    have hcfg : configured (removedUntabled j s) j = false := by
      rw [configured, removedUntabled_segCfg, if_pos rfl]; rfl
    have hnone : ∀ b, (removedUntabled j s).lum.groups[groupOf j b] = none := fun b => by
      rw [hgrp, if_pos (segOf_groupOf j b)]
    refine Steady.settled_of_unconfigured (i := j) ⟨fun b => ?_, fun _ => ⟨?_, hrun, ?_, ?_⟩, fun hc => ?_, fun hc => ?_⟩ hcfg
    · rw [setEntries_lum, groupExists, hnone]
      exact (congrArg (· && _) hcfg).symm
    · exact congrArg Ctrl.mode ((removedUntabled_ctrls j s j).trans (if_pos rfl))
    · rw [isLocked, lockOver_eq]; exact congrArg (fun l => (List.findSome? lockLevel? l).isSome) (covering_removed_self j _)
    · rw [isHeld, holdOver_eq]; exact congrArg (fun l => List.any l asksHold) (covering_removed_self j _)
    · exact absurd (hcfg.symm.trans hc) (by simp)
    · exact absurd (hcfg.symm.trans hc) (by simp)
  · have hcfg := (removedUntabled_segCfg i s j).trans (if_neg (Ne.symm hj))
    have hctrl := (removedUntabled_ctrls i s j).trans (if_neg (Ne.symm hj))
    have hsame : SameAt j s (setEntries (takeOut (fun _ => true) (maskOf i) s.table.entries) (removedUntabled i s)) :=
      ⟨congrArg SegConfig.configured hcfg, congrArg SegConfig.bandCount hcfg, congrArg Ctrl.mode hctrl,
        fun b => congrArg₂ (fun x y => baseLevel x y b) hcfg hctrl, covering_removed i hj _, rfl, fun _ _ => rfl,
        fun b => congrArg (Option.map _) ((hgrp (groupOf j b)).trans (if_neg (by rw [segOf_groupOf]; exact hj)))⟩
    exact hsame.settled (hs j)

/-- A removal changes no joint store after its table change but event sets. -/
theorem jointLaw_removeSegment {i : SegId} {s : State} (h : JointLaw s) (hm : modeOf s i ≠ .calibrating) :
    JointLaw (removeSegment i s) := by
  obtain ⟨hs, ht, hr, hn⟩ := jointLaw_iff.mp h
  have hset := settled_removed h hm
  have hgrp := removedUntabled_groups i s
  have hfin := tableChange_settles (inserted := none) (informed := takenFrom (fun _ => true) (maskOf i) s.table.entries)
    (fun j => (hset j).steady) fun j _ => hset j
  obtain ⟨hlay, hcoup, htab, hrun⟩ := tableChange_frame (takeOut (fun _ => true) (maskOf i) s.table.entries) none
    (takenFrom (fun _ => true) (maskOf i) s.table.entries) (removedUntabled i s)
  have hex := groupExists_congr (fun j => (hset j).exist) (fun j => (hfin j).exist) (by rw [hlay]; rfl)
  have hex' : ∀ g, segOf g ≠ i → groupExists (removedUntabled i s).lum g = groupExists s.lum g := fun g hg => by
    rw [groupExists, groupExists, hgrp, if_neg hg]
  have hconf : ∀ j, configured (removedUntabled i s) j = (configured s j && decide (i ≠ j)) := fun j => by
    rw [configured, removedUntabled_segCfg]
    by_cases e : i = j
    · subst e; simp [removedConfig]
    · simp [e, configured]
  rw [removeSegment_eq]
  refine (neutral_setPorts (Neutral.refl _) _).jointLaw (jointLaw_iff.mpr ⟨hfin, ?_, ?_, fun k e he => ?_⟩)
  · rw [tableLaw_iff, htab, configuredMask_congr (s := removedUntabled i s) fun j => by simp only [configured, segCfg, hlay]]
    obtain ⟨h1, h2, h3⟩ := entriesLaw_takeOut ht (fun _ => true) (maskOf i)
    refine ⟨h1, h2, fun e he => ?_⟩
    obtain ⟨h4, h5, h6⟩ := h3 e he
    refine ⟨h4, mask_ext fun j => ?_, h6⟩
    have hj := congrArg (maskHas · j) h5
    simp only [maskHas_and, maskHas_configuredMask, hconf] at hj ⊢
    by_cases e' : i = j
    · subst e'
      have := covering_removed_self i s.table.entries
      simp only [covering, List.map_eq_nil_iff, List.filter_eq_nil_iff] at this
      simp [this e he]
    · simpa [e'] using hj
  · rcases hrun with hrun | ⟨hrun, _⟩
    · exact runLaw_idle hrun
    · refine runLaw_mono hr (by rw [hrun]; rfl) (fun g hg => (hex g).trans (hex' g fun e => ?_)) fun r _ j _ level hl => ?_
      · have k := (hs i).steady
        rw [e] at hg
        exact hm ((k.calibrating (k.configured_of_inRun hg)).mpr hg)
      · rw [htab] at hl; exact .inl (capsOver_takeOut hl)
  · rw [hcoup] at he
    have he : e ∈ (s.coupling.lists.map fun l => l.filter fun e => !ownsGroup i e.group)[k] := he
    simp only [Fin.getElem_fin, Vector.getElem_map, List.mem_filter] at he
    have hg : segOf e.group ≠ i := by simpa [ownsGroup] using he.2
    exact (hex e.group).trans ((hex' _ hg).trans (hn k e he.1))

theorem jointLaw_segRemove {s : State} (h : JointLaw s) (n : Nat) : JointLaw (segRemove n s).state := by
  unfold segRemove
  split
  · exact h
  · split
    · exact h
    · split
      · exact h
      · split
        · exact h
        · next hm => exact jointLaw_removeSegment h hm

/-! ## The resets -/

theorem jointLaw_initial (strap role : Vector Role 3) : JointLaw (State.initial strap role) := by
  have hg : ∀ g : GroupId, (State.initial strap role).lum.groups[g] = none := fun g => by simp [State.initial]
  have hc : ∀ i, segCfg (State.initial strap role) i = SegConfig.initial := fun i => by simp [State.initial, segCfg]
  have hm : ∀ i, modeOf (State.initial strap role) i = .unconfigured := fun i => by simp [State.initial, modeOf, Ctrl.blank]
  have hf : ∀ i, configured (State.initial strap role) i = false := fun i => by rw [configured, hc]; rfl
  refine jointLaw_iff.mpr ⟨fun i => ?_, ?_, runLaw_idle rfl, fun k e he => ?_⟩
  · refine Steady.settled_of_unconfigured ⟨fun b => ?_, fun _ => ⟨hm i, rfl, rfl, rfl⟩, fun h => ?_, fun h => ?_⟩ (hf i)
    · rw [groupExists, hg, hf]; rfl
    · rw [hf] at h; cases h
    · rw [hf] at h; cases h
  · exact ⟨Nat.zero_le _, List.Pairwise.nil, fun e he => by cases he⟩
  · simp [State.initial] at he

theorem jointLaw_powerOn (a b c : StrapPins) (s : State) : JointLaw (powerOn a b c s) :=
  have h := jointLaw_initial #v[strapRole a, strapRole b, strapRole c]
    (rolesOf (strapRole a) (strapRole b) (strapRole c))
  Neutral.jointLaw ⟨rfl, rfl, rfl, rfl, rfl, fun _ => rfl⟩ h

theorem presentLevels_get (l : Lum) (i : SegId) (b : BandId) : (presentLevels l i)[b] = presentOf l (groupOf i b) := by
  simp [presentLevels]

/-- The groups after a warm restart (R15, R102, R130). -/
theorem restartLum_groups (l : Lum) (g : GroupId) : (restartLum l).groups[g] = l.groups[g].map restartGroup := by
  simp [restartLum]

/-- The warm restart keeps the joint law: every configured segment is in START on its present levels (R15). -/
theorem jointLaw_warmRestart {s : State} (h : JointLaw s) (p : PortId) : JointLaw (warmRestart p s) := by
  obtain ⟨hs, ht, hr, hn⟩ := jointLaw_iff.mp h
  have hidle : (warmRestart p s).cal.run = none := by
    simp only [warmRestart, restartCal]
    cases hrun : s.cal.run with
    | none => exact hrun
    | some r => rfl
  have hrun : ∀ i, inRun (warmRestart p s) i = false := fun i => by rw [inRun, hidle]; rfl
  have hgrp : ∀ g : GroupId, (warmRestart p s).lum.groups[g] = s.lum.groups[g].map restartGroup := restartLum_groups s.lum
  have hctrl : ∀ i : SegId, (warmRestart p s).ctrls[i] =
      if configured s i then restartCtrl (segCfg s i) (presentLevels s.lum i) s.ctrls[i] else s.ctrls[i] := fun i =>
    ofFn_get _ i
  have hex : ∀ g, groupExists (warmRestart p s).lum g = groupExists s.lum g := fun g => by
    rw [groupExists, hgrp, Option.isSome_map, groupExists]
  refine jointLaw_iff.mpr ⟨fun i => ⟨fun b => (hex _).trans ((hs i).exist b), ⟨fun hc => ?_, fun hc => ?_⟩, fun b r hb => ?_⟩,
    ⟨Nat.zero_le _, List.Pairwise.nil, fun e he => by cases he⟩, runLaw_idle hidle,
    namingLaw_mono hn rfl fun g hg => (hex g).trans hg⟩
  · have hc : configured s i = false := hc
    refine ⟨?_, hrun i, rfl, rfl⟩
    rw [modeOf, hctrl, if_neg (by simp [hc])]
    exact ((hs i).mode.unheld hc).mode
  · have hc : configured s i = true := hc
    have hm : modeOf (warmRestart p s) i = .start := by rw [modeOf, hctrl, if_pos hc]; rfl
    have hlock : isLocked (warmRestart p s) i = false := rfl
    have hhold : isHeld (warmRestart p s) i = false := rfl
    rw [hm]
    constructor <;> simp [hrun i, hlock, hhold]
  · have hb' := Option.mem_def.mp hb
    rw [hgrp] at hb'
    obtain ⟨r₀, hr₀, rfl⟩ := Option.map_eq_some_iff.mp hb'
    have hc : configured s i = true := by
      have := (hs i).exist b
      rw [groupExists, hr₀] at this
      exact (Bool.and_eq_true _ _ ▸ this.symm : configured s i = true ∧ _).1
    have hm : modeOf (warmRestart p s) i = .start := by rw [modeOf, hctrl, if_pos hc]; rfl
    have hd : demandLevel (warmRestart p s) i b = (presentLevels s.lum i)[b] := by
      rw [demandLevel, hm, hctrl, if_pos hc]; rfl
    rw [hd, presentLevels_get, presentOf, hr₀]
    rfl

/-! ## Every step -/

theorem jointLaw_busFault {s : State} (h : JointLaw s) : JointLaw (busFault s) := by
  unfold busFault
  split
  · exact h
  · refine jointLaw_abortRun ?_ _
    have hn := neutral_setPorts (neutral_setLink (Neutral.refl s) (linkDown s.lum.link))
      (raiseAll .linkChange (setLink (linkDown s.lum.link) s).ports)
    split
    · exact hn.jointLaw h
    · exact (neutral_endQuery hn _).jointLaw h

theorem jointLaw_restart {s : State} (h : JointLaw s) (p : PortId) : JointLaw (restart p s) := by
  have hp : ∀ r st l, JointLaw (placeReply p r st l s) := fun r st l =>
    (neutral_setPorts (Neutral.refl s) _).jointLaw h
  unfold restart
  split
  · exact h
  · exact hp _ _ _
  · exact hp _ _ _
  · exact jointLaw_warmRestart (hp _ _ _) p

/-- Every command keeps the joint law. -/
theorem jointLaw_exec {c : Instr} {s t : State} (h : JointLaw s) (he : exec c s = .next t) : JointLaw t := by
  cases hn : isNeutral c with
  | true => exact (exec_neutral hn he).jointLaw h
  | false =>
    have hserve : ∀ {p : PortId} {k : Kind} {owner : Body → State → Response},
        (∀ b, JointLaw (owner b s).state) → JointLaw (serve p k owner s) := fun ho =>
      serve_keeps (P := JointLaw) (fun u x hu => (neutral_setPorts (Neutral.refl u) x).jointLaw hu) h ho
    cases c <;> first | exact absurd hn Bool.false_ne_true.symm | skip
    all_goals injection he with he; subst he
    case powerOnReset => exact jointLaw_powerOn _ _ _ s
    case segDefine => refine hserve fun b => ?_; split; exacts [jointLaw_segDefine h _ _ _ _, h]
    case segRemove => refine hserve fun b => ?_; split; exacts [jointLaw_segRemove h _, h]
    case segTune => refine hserve fun b => ?_; split; exacts [jointLaw_segTune h _ _, h]
    case bandSet => refine hserve fun b => ?_; split; exacts [jointLaw_bandSet h _ _ _, h]
    case couplingWrite => refine hserve fun b => ?_; split; exacts [jointLaw_couplingWrite h _ _ _ _, h]
    case overrideSet => refine hserve fun b => ?_; split; exacts [jointLaw_overrideSet h _ _ _, h]
    case overrideCancel => refine hserve fun b => ?_; split; exacts [jointLaw_overrideCancel h _, h]
    case lockSet => refine hserve fun b => ?_; split; exacts [jointLaw_lockSet h _ _, h]
    case lockRelease => refine hserve fun b => ?_; split; exacts [jointLaw_lockRelease h _, h]
    case holdSet => refine hserve fun b => ?_; split; exacts [jointLaw_holdSet h _ _, h]
    case holdSettled => refine hserve fun b => ?_; split; exacts [jointLaw_holdSettled h _, h]
    case capSet => refine hserve fun b => ?_; split; exacts [jointLaw_capSet h _ _ _ _, h]
    case capCancel => refine hserve fun b => ?_; split; exacts [jointLaw_capCancel h _, h]
    case calStart => refine hserve fun b => ?_; split; exacts [jointLaw_calStart h _ _ _ _ _ _ _, h]
    case calAbort => exact hserve fun _ => jointLaw_abortRun h _
    case glareSet => refine hserve fun b => ?_; split; exacts [jointLaw_glareSet h _ _, h]
    case restart => exact jointLaw_restart h _
    case pass =>
      split
      · next hc => rw [Bool.and_eq_true] at hc; exact jointLaw_passSegment h hc.1
      · exact h
    case uptimeTick => exact jointLaw_departDue (Neutral.jointLaw ⟨rfl, rfl, rfl, rfl, rfl, fun _ => rfl⟩ h)
    case entryExpiry => exact jointLaw_departDue h
    case busFault => exact jointLaw_busFault h
    case calStageTimerExpiry => exact jointLaw_calStageTimerExpiry h

/-- Settles O10: the laws hold segment by segment, a change that does not reach a segment leaves it settled, and every
segment that a command reaches is recomposed in its right mode. -/
theorem jointLawKept : Obligations.JointLawKept := by
  unfold Obligations.JointLawKept
  exact step_keeps (fun s l h => Neutral.jointLaw ⟨rfl, rfl, rfl, rfl, rfl, fun _ => rfl⟩ h)
    fun c s t h he => jointLaw_exec h he

end Sys2Proof.Proofs
end

section
/-! PROOFS. The ranges of configuration and controller records (R1, R51). -/

namespace Sys2Proof.Proofs

open Sys2Proof Sys2Proof.Machine Sys2Proof.Safety Sys2Proof.Laws

/-! ## Changes that keep every controller in range -/

/-- The configuration records are the same, and a controller in range stays in range. -/
structure CtrlsKept (s t : State) : Prop where
  segs : t.layout.segs = s.layout.segs
  ctrls : ∀ i : SegId, CtrlLaw s.ctrls[i] → CtrlLaw t.ctrls[i]

theorem CtrlsKept.refl (s : State) : CtrlsKept s s := ⟨rfl, fun _ h => h⟩

theorem CtrlsKept.trans {s t u : State} (h : CtrlsKept s t) (k : CtrlsKept t u) : CtrlsKept s u :=
  ⟨k.segs.trans h.segs, fun i hi => k.ctrls i (h.ctrls i hi)⟩

theorem CtrlsKept.of_eq {s t : State} (hl : t.layout.segs = s.layout.segs) (hc : t.ctrls = s.ctrls) : CtrlsKept s t :=
  ⟨hl, fun _ h => by rw [hc]; exact h⟩

/-- What is done before, over other blocks, changes nothing of it. -/
theorem CtrlsKept.after {s t u : State} (h : CtrlsKept u t) (hl : u.layout.segs = s.layout.segs) (hc : u.ctrls = s.ctrls) :
    CtrlsKept s t := (CtrlsKept.of_eq hl hc).trans h

/-- Nor does what is done then over other blocks. -/
theorem CtrlsKept.before {s t u : State} (h : CtrlsKept s t) (hl : u.layout.segs = t.layout.segs) (hc : u.ctrls = t.ctrls) :
    CtrlsKept s u := h.trans (.of_eq hl hc)

theorem ctrlsKept_accept {s t : State} (clamped : Bool) (h : CtrlsKept s t) : CtrlsKept s (accept clamped t).state := h

theorem Neutral.ctrlsKept {s t : State} (h : Neutral s t) : CtrlsKept s t := .of_eq h.segs h.ctrls

theorem CtrlsKept.controlLaw {s t : State} (h : CtrlsKept s t) (hs : ControlLaw s) : ControlLaw t :=
  ⟨fun i => by rw [segCfg, h.segs]; exact hs.1 i, fun i => h.ctrls i (hs.2 i)⟩

theorem CtrlsKept.foldl {α : Type} {f : State → α → State} (h : ∀ s a, CtrlsKept s (f s a)) (l : List α) (s : State) :
    CtrlsKept s (l.foldl f s) :=
  List.foldlRecOn l f (CtrlsKept.refl s) fun u hu a _ => hu.trans (h u a)

theorem ctrlsKept_updCtrl (i : SegId) {f : Ctrl → Ctrl} (hf : ∀ c, CtrlLaw c → CtrlLaw (f c)) (s : State) :
    CtrlsKept s (updCtrl i f s) :=
  ⟨rfl, fun j hj => by
    rw [updCtrl_ctrls, updAt_get]
    split
    · exact hf _ hj
    · exact hj⟩

/-- START forgets filter and band daylights; the other modes are entered with the record as it is (R54, R57, R58). -/
theorem ctrlLaw_enterMode (m : Mode) (cfg : SegConfig) (snap : Vector Nat 3) (c : Ctrl) (h : CtrlLaw c) :
    CtrlLaw (enterMode m cfg snap c) := by
  obtain ⟨hg, hm, hf, hr, hb⟩ := h
  cases m with
  | start => exact ⟨hg, hm, fun f hf => by simp [enterMode, enterStart] at hf, hr, fun b d hd => by
      simp [enterMode, enterStart] at hd⟩
  | _ => exact ⟨hg, hm, hf, hr, hb⟩

theorem ctrlsKept_changeMode (i : SegId) (m : Mode) (s : State) : CtrlsKept s (changeMode i m s) := by
  unfold changeMode
  split
  · exact .refl s
  · exact (ctrlsKept_updCtrl i (ctrlLaw_enterMode _ _ _) s).trans (.of_eq rfl rfl)

theorem ctrlsKept_remode (i : SegId) (m : Mode) (s : State) : CtrlsKept s (recompose i (changeMode i m s)) :=
  (ctrlsKept_changeMode i m s).trans (.of_eq rfl rfl)

theorem ctrlsKept_informSegment (s : State) (i : SegId) : CtrlsKept s (informSegment s i) := by
  unfold informSegment
  split
  · exact ctrlsKept_remode _ _ _
  · exact .refl s

theorem ctrlsKept_leaveCalibrating (s : State) (i : SegId) : CtrlsKept s (leaveCalibrating s i) := by
  unfold leaveCalibrating
  split
  · exact ctrlsKept_remode _ _ _
  · exact .refl s

theorem ctrlsKept_endRun (r : CalRun) (res : CalResult) (s : State) : CtrlsKept s (endRun r res s) := by
  have h : CtrlsKept s ((maskSegs r.segments).foldl leaveCalibrating (s.setCal ⟨none, res⟩)) :=
    (CtrlsKept.foldl ctrlsKept_leaveCalibrating _ _).after rfl rfl
  exact h.before rfl rfl

theorem ctrlsKept_abortRun (why : AbortReason) (s : State) : CtrlsKept s (abortRun why s) := by
  unfold abortRun
  split
  · exact .refl s
  · exact ctrlsKept_endRun _ _ s

theorem ctrlsKept_tableChange (entries : List Entry) (inserted : Option Entry) (informed : SegMask) (s : State) :
    CtrlsKept s (tableChange entries inserted informed s) := by
  obtain ⟨u, h, hu⟩ := tableChange_cases entries inserted informed s
  have h0 : CtrlsKept s (setEntries entries s) := .of_eq rfl rfl
  rw [h]
  refine CtrlsKept.trans ?_ (.foldl ctrlsKept_informSegment _ u)
  rcases hu with ⟨rfl, _⟩ | ⟨r, res, _, rfl⟩
  · exact h0
  · exact h0.trans (ctrlsKept_endRun r res _)

/-! ## Requests and events over several blocks -/

theorem ctrlsKept_replaceOver (sel : Entry → Bool) (m : SegMask) (new : Entry) (clamped : Bool) (s : State) :
    CtrlsKept s (replaceOver sel m new clamped s).state := by
  unfold replaceOver
  dsimp only
  split
  · exact .refl s
  · exact ctrlsKept_accept _ (ctrlsKept_tableChange _ _ _ s)

theorem ctrlsKept_releaseOver (sel : Entry → Bool) (m : SegMask) (clamped : Bool) (s : State) :
    CtrlsKept s (releaseOver sel m clamped s).state :=
  ctrlsKept_accept _ (ctrlsKept_tableChange _ _ _ s)

theorem ctrlsKept_overrideSet (m : SegMask) (level minutes : Nat) (s : State) :
    CtrlsKept s (overrideSet m level minutes s).state := by
  unfold overrideSet
  dsimp only
  split
  · exact .refl s
  · exact ctrlsKept_replaceOver _ _ _ _ s

theorem ctrlsKept_overrideCancel (m : SegMask) (s : State) : CtrlsKept s (overrideCancel m s).state := by
  unfold overrideCancel
  dsimp only
  split
  · exact .refl s
  · exact ctrlsKept_releaseOver _ _ _ s

theorem ctrlsKept_lockSet (m : SegMask) (level : Nat) (s : State) : CtrlsKept s (lockSet m level s).state := by
  unfold lockSet
  dsimp only
  split
  · exact .refl s
  · exact ctrlsKept_replaceOver _ _ _ _ s

theorem ctrlsKept_lockRelease (m : SegMask) (s : State) : CtrlsKept s (lockRelease m s).state := by
  unfold lockRelease
  dsimp only
  split
  · exact .refl s
  · exact ctrlsKept_releaseOver _ _ _ s

theorem ctrlsKept_holdSet (m : SegMask) (seconds : Nat) (s : State) : CtrlsKept s (holdSet m seconds s).state := by
  unfold holdSet
  dsimp only
  split
  · exact .refl s
  · exact ctrlsKept_replaceOver _ _ _ _ s

theorem ctrlsKept_holdSettled (m : SegMask) (s : State) : CtrlsKept s (holdSettled m s).state := by
  unfold holdSettled
  dsimp only
  split
  · exact .refl s
  · split
    · exact .refl s
    · split
      · exact ctrlsKept_releaseOver _ _ _ s
      · exact ctrlsKept_replaceOver _ _ _ _ s

theorem ctrlsKept_capSet (id : Nat) (m : SegMask) (level minutes : Nat) (s : State) :
    CtrlsKept s (capSet id m level minutes s).state := by
  unfold capSet
  dsimp only
  split
  · exact .refl s
  · split
    · exact .refl s
    · split
      · exact ctrlsKept_accept _ (ctrlsKept_tableChange _ _ _ s)
      · split
        · exact .refl s
        · exact ctrlsKept_accept _ (ctrlsKept_tableChange _ _ _ s)

theorem ctrlsKept_capCancel (id : Nat) (s : State) : CtrlsKept s (capCancel id s).state := by
  unfold capCancel
  split
  · exact .refl s
  · split
    · exact .refl s
    · exact ctrlsKept_accept _ (ctrlsKept_tableChange _ _ _ s)

theorem ctrlsKept_departDue (s : State) : CtrlsKept s (departDue s) := by
  unfold departDue
  exact (ctrlsKept_tableChange _ _ _ _).after rfl rfl

theorem ctrlsKept_couplingWrite (k d n : Nat) (ps : List (Nat × Nat)) (s : State) :
    CtrlsKept s (couplingWrite k d n ps s).state := by
  unfold couplingWrite
  dsimp only
  repeat' split
  all_goals first | exact .refl s | exact .of_eq rfl rfl

theorem ctrlsKept_testFadeWait (s : State) : CtrlsKept s (testFadeWait s) :=
  (neutral_testFadeWait (Neutral.refl s)).ctrlsKept

theorem ctrlsKept_beginRun (m : SegMask) (q : CalParams) (clamped : Bool) (s : State) :
    CtrlsKept s (beginRun m q clamped s) := by
  refine CtrlsKept.trans ?_ (ctrlsKept_testFadeWait _)
  exact (CtrlsKept.foldl (f := enterCalibrating) (fun s i => ctrlsKept_remode i .calibrating s) (maskSegs m) _).after
    rfl rfl

theorem ctrlsKept_calStart (m : SegMask) (base high low half su opt : Nat) (s : State) :
    CtrlsKept s (calStart m base high low half su opt s).state := by
  unfold calStart
  dsimp only
  repeat' split
  all_goals first | exact .refl s | exact ctrlsKept_beginRun _ _ _ s

theorem ctrlsKept_enterPhase (f : Phase) (probe cycle : Nat) (r : CalRun) (s : State) :
    CtrlsKept s (enterPhase f probe cycle r s) := by
  refine CtrlsKept.trans ?_ (ctrlsKept_testFadeWait _)
  exact (CtrlsKept.foldl (f := fun s i => recompose i s) (fun _ _ => .of_eq rfl rfl) (changedSegs r _) _).after rfl rfl

theorem ctrlsKept_commit (r : CalRun) (s : State) : CtrlsKept s (commit r s) := by
  have h : ∀ x, CtrlsKept s (s.setCoupling x) := fun _ => .of_eq rfl rfl
  exact (h _).trans (ctrlsKept_endRun r (commitResult r s.cal.result) _)

theorem ctrlsKept_calStageTimerExpiry (s : State) : CtrlsKept s (calStageTimerExpiry s) := by
  have next : ∀ r, CtrlsKept s (nextPhase r s) := fun r => by
    unfold nextPhase
    dsimp only
    repeat' split
    all_goals first | exact ctrlsKept_enterPhase _ _ _ _ s | exact ctrlsKept_commit _ s
  unfold calStageTimerExpiry
  split
  · exact .refl s
  · split
    · unfold stageExpiry
      split
      · exact .refl s
      · exact .of_eq rfl rfl
      · exact next _
      · exact next _
    · exact .refl s

theorem ctrlsKept_busFault (s : State) : CtrlsKept s (busFault s) := by
  unfold busFault
  split
  · exact .refl s
  · refine CtrlsKept.trans ?_ (ctrlsKept_abortRun _ _)
    split <;> exact .of_eq rfl rfl

theorem ctrlsKept_warmRestart (p : PortId) (s : State) : CtrlsKept s (warmRestart p s) := by
  refine ⟨rfl, fun i h => ?_⟩
  have hc : (warmRestart p s).ctrls[i] =
      if configured s i then restartCtrl (segCfg s i) (presentLevels s.lum i) s.ctrls[i] else s.ctrls[i] := ofFn_get _ i
  rw [hc]
  split
  · exact ⟨Nat.zero_le _, Nat.zero_le _, fun f hf => by simp [restartCtrl, enterStart] at hf,
      fun d hd => by simp [restartCtrl] at hd, fun b d hd => by simp [restartCtrl, enterStart] at hd⟩
  · exact h

theorem ctrlsKept_restart (p : PortId) (s : State) : CtrlsKept s (restart p s) := by
  unfold restart
  split
  · exact .refl s
  · exact .of_eq rfl rfl
  · exact .of_eq rfl rfl
  · exact (ctrlsKept_warmRestart p _).after rfl rfl

/-! ## The pass (R53, R64, R65) -/

theorem ctrlLaw_countPass (data : Bool) (c : Ctrl) (h : CtrlLaw c) : CtrlLaw (countPass data c) := by
  obtain ⟨_, _, hf, hr, hb⟩ := h
  unfold countPass countUp
  split
  · exact ⟨Nat.min_le_left _ _, Nat.zero_le _, hf, hr, hb⟩
  · exact ⟨Nat.zero_le _, Nat.min_le_left _ _, hf, hr, hb⟩

/-- The filter value moves toward the raw daylight and never past it (R64). -/
theorem filterMove_le {nUp nDown raw f top : Nat} (hr : raw ≤ top) (hf : f ≤ top) : filterMove nUp nDown raw f ≤ top := by
  unfold filterMove
  dsimp only
  generalize hn : (if 0 < (raw : Int) - f then nUp else nDown) = n
  split
  · exact hf
  · split
    · split <;> omega
    · rcases le_total (0 : Int) ((raw : Int) - f) with hd | hd
      · have := Int.tdiv_le_self (2 ^ n : Nat) hd
        omega
      · have : ((raw : Int) - f).tdiv (2 ^ n : Nat) ≤ 0 := by
          rw [← Int.neg_neg ((raw : Int) - f), Int.neg_tdiv]
          have := Int.tdiv_nonneg (a := -((raw : Int) - f)) (b := (2 ^ n : Nat)) (by omega) (Int.natCast_nonneg _)
          omega
        omega

theorem filterNext_le {cfg : SegConfig} {seed : Bool} {raw : Nat} {f : Option Nat} (hr : raw ≤ 20000)
    (hf : ∀ x ∈ f, x ≤ 20000) : filterNext cfg seed raw f ≤ 20000 := by
  unfold filterNext
  split
  · exact hr
  · split
    · exact hr
    · exact filterMove_le hr (hf _ rfl)

/-- A band daylight is no greater than its filter value, since no ratio exceeds 256 (R1, R65). -/
theorem bandDaylight_le {q : BandConfig} {f : Nat} (hq : q.ratio ≤ 256) (hf : f ≤ 20000) : bandDaylight q f ≤ 20000 := by
  unfold bandDaylight
  have : f * q.ratio ≤ 20000 * 256 := Nat.mul_le_mul hf hq
  omega

theorem ctrlLaw_controlStep {cfg : SegConfig} {raw : Nat} (hcfg : ConfigLaw cfg) (hr : raw ≤ 20000) (seed : Bool) (c : Ctrl)
    (h : CtrlLaw c) : CtrlLaw (controlStep cfg seed raw c) := by
  obtain ⟨hg, hm, hf, hl, hb⟩ := h
  obtain ⟨_, _, _, _, _, _, _, _, _, _, _, _, _, _, hbands⟩ := hcfg
  have hnext := filterNext_le (cfg := cfg) (seed := seed) hr hf
  refine ⟨hg, hm, fun f hf => ?_, hl, fun b d hd => ?_⟩
  · cases hf; exact hnext
  · simp only [controlStep, Fin.getElem_fin, Vector.getElem_ofFn] at hd
    split at hd
    · cases hd
      exact bandDaylight_le (hbands b).1 hnext
    · exact hb b d hd

/-- The raw daylight lies within 0..20000 (R44, R46). -/
theorem rawDaylight_le (s : State) (i : SegId) : ∀ d ∈ rawDaylight s i, d ≤ 20000 := by
  have husable : ∀ k, ∀ d ∈ usableDaylight s k, d ≤ 20000 := by
    intro k d hd
    unfold usableDaylight at hd
    split at hd
    · cases hd
    · split at hd
      · cases hd; exact Nat.min_le_left _ _
      · cases hd
  intro d hd
  have h1 := husable (segCfg s i).primary
  have h2 := husable (segCfg s i).secondary
  unfold rawDaylight at hd
  cases ha : usableDaylight s (segCfg s i).primary <;> cases hb : usableDaylight s (segCfg s i).secondary <;>
    rw [ha, hb] at hd <;> cases hd
  · exact h2 _ hb
  · exact h1 _ ha
  · have := h1 _ ha
    have := h2 _ hb
    omega

theorem ctrlsKept_glareEvent (i : SegId) (was is : Bool) (s : State) : CtrlsKept s (glareEvent i was is s) :=
  .of_eq (by rw [(onCtrl_glareEvent i was is s).quiet.layout]) (glareEvent_ctrls i was is s)

theorem ctrlsKept_setGlare (i : SegId) (on : Bool) (s : State) : CtrlsKept s (setGlare i on s) :=
  (ctrlsKept_updCtrl i (f := fun c => { c with glare := on }) (fun _ h => h) s).trans (ctrlsKept_glareEvent i _ _ _)

theorem ctrlsKept_passMode (i : SegId) (data : Bool) (s : State) : CtrlsKept s (passMode i data s) := by
  have h := fun m => (ctrlsKept_updCtrl i (ctrlLaw_countPass data) s).trans (ctrlsKept_changeMode i m _)
  unfold passMode
  dsimp only
  split
  · exact (h _).trans (.of_eq rfl rfl)
  · exact h _

theorem ctrlsKept_passDaylight {raw : Option Nat} (hr : ∀ d ∈ raw, d ≤ 20000) (i : SegId) (s : State) :
    CtrlsKept s (passDaylight i raw s) := by
  have h : CtrlsKept s (updCtrl i (fun c => { c with lastRaw := raw }) s) :=
    ctrlsKept_updCtrl i (f := fun c => { c with lastRaw := raw }) (fun c ⟨h1, h2, h3, _, h5⟩ => ⟨h1, h2, h3, hr, h5⟩) s
  unfold passDaylight
  split
  · exact .refl s
  · unfold passRaw
    cases raw with
    | none => exact h
    | some d => exact h.trans (ctrlsKept_setGlare i _ _)

theorem ctrlsKept_passControl {cfg : SegConfig} {raw : Option Nat} (hcfg : ConfigLaw cfg) (hr : ∀ d ∈ raw, d ≤ 20000)
    (i : SegId) (seed : Bool) (s : State) : CtrlsKept s (passControl i cfg seed raw s) := by
  unfold passControl
  split
  · split
    · exact ctrlsKept_updCtrl i (ctrlLaw_controlStep hcfg (hr _ rfl) seed) s
    · exact .refl s
  · exact .refl s

theorem ctrlsKept_passSegment {i : SegId} {s : State} (hcfg : ConfigLaw (segCfg s i)) : CtrlsKept s (passSegment i s) := by
  have hr := rawDaylight_le s i
  have h : CtrlsKept s (passed i s) := (((ctrlsKept_passMode i _ s).trans (ctrlsKept_passDaylight hr i _)).trans
    (ctrlsKept_passControl hcfg hr i _ _)).trans (ctrlsKept_updCtrl i (f := rearm _) (fun _ h => h) _)
  exact h.before rfl rfl

/-! ## Configuration records (R1) -/

theorem configLaw_initial : ConfigLaw SegConfig.initial := by decide

theorem ctrlLaw_blank : CtrlLaw Ctrl.blank := by
  refine ⟨Nat.zero_le _, Nat.zero_le _, fun f hf => ?_, fun d hd => ?_, fun b d hd => ?_⟩
  · cases hf
  · cases hd
  · simp [Ctrl.blank] at hd

theorem ctrlLaw_definedCtrl (cfg : SegConfig) : CtrlLaw (definedCtrl cfg) := ctrlLaw_blank

/-- The record that SEG_DEFINE writes lies in range (R1, R3). -/
theorem configLaw_definedConfig (n : Nat) (p : SensorId) (q : Option SensorId) (hq : q ≠ some p) :
    ConfigLaw (definedConfig (clampTo 1 3 n) p q) := by
  have hn : 1 ≤ clampTo 1 3 n ∧ clampTo 1 3 n ≤ 3 := by rw [clampTo_eq (by omega)]; omega
  refine ⟨?_, configLaw_initial.2⟩
  rw [if_pos (show (definedConfig _ p q).configured = true from rfl)]
  exact ⟨hn.1, hn.2, by simp [definedConfig], hq⟩

theorem configLaw_removedConfig {c : SegConfig} (h : ConfigLaw c) : ConfigLaw (removedConfig c) :=
  ⟨by rw [if_neg (by simp [removedConfig])]; exact ⟨rfl, rfl, rfl⟩, h.2⟩

/-- Tuning values brought into range lie in range (R10). -/
theorem configLaw_tuneConfig {c : SegConfig} (h : ConfigLaw c) (x : Tuning) : ConfigLaw (tuneConfig (clampTuning x) c) := by
  obtain ⟨hstruct, _, _, _, _, _, _, _, _, _, _, _, _, hglare, hbands⟩ := h
  have hstep : ∀ n, 100 ≤ clampStep 100 2000 50 n ∧ clampStep 100 2000 50 n ≤ 2000 ∧ clampStep 100 2000 50 n % 50 = 0 := by
    intro n; unfold clampStep
    split
    · omega
    · split <;> omega
  have hto : ∀ n, 1 ≤ clampTo 1 100 n ∧ clampTo 1 100 n ≤ 100 := fun n => by rw [clampTo_eq (by omega)]; omega
  obtain ⟨hp1, hp2, hp3⟩ := hstep x.passPeriod
  exact ⟨hstruct, Nat.min_le_right _ _, hp1, hp2, hp3, Nat.min_le_right _ _, Nat.min_le_right _ _, Nat.min_le_right _ _,
    (hto _).1, (hto _).2, (hto _).1, (hto _).2, Nat.min_le_right _ _, hglare, hbands⟩

/-- Band values brought into range, the minimum not above the maximum, lie in range (R11). -/
theorem configLaw_setBand {c : SegConfig} (h : ConfigLaw c) (b : BandId) {q : BandConfig}
    (hq : (clampBand q).lmin ≤ (clampBand q).lmax) : ConfigLaw { c with bands := c.bands.set b (clampBand q) } := by
  obtain ⟨hstruct, h1, h2, h3, h4, h5, h6, h7, h8, h9, h10, h11, h12, h13, hbands⟩ := h
  refine ⟨hstruct, h1, h2, h3, h4, h5, h6, h7, h8, h9, h10, h11, h12, h13, fun j => ?_⟩
  simp only [set_get]
  split
  · have hk : 1 ≤ clampTo 1 4095 q.efficacy ∧ clampTo 1 4095 q.efficacy ≤ 4095 := by
      rw [clampTo_eq (by omega)]; omega
    exact ⟨Nat.min_le_right _ _, hk.1, hk.2, hq, Nat.min_le_right _ _⟩
  · exact hbands j

/-- One record rewritten within its ranges. -/
theorem controlLaw_updSeg {i : SegId} {f : SegConfig → SegConfig} {s : State} (h : ControlLaw s)
    (hf : ConfigLaw (segCfg s i) → ConfigLaw (f (segCfg s i))) : ControlLaw (updSeg i f s) := by
  refine ⟨fun j => ?_, h.2⟩
  rw [segCfg, updSeg_layout, updAt_get]
  split
  · next e => subst e; exact hf (h.1 i)
  · exact h.1 j

theorem controlLaw_defineSegment {s : State} (h : ControlLaw s) (i : SegId) {cfg : SegConfig} (hcfg : ConfigLaw cfg) :
    ControlLaw (defineSegment i cfg s) := by
  have hdef : CtrlsKept (updSeg i (fun _ => cfg) s) (updCtrl i (fun _ => definedCtrl cfg) (updSeg i (fun _ => cfg) s)) :=
    ctrlsKept_updCtrl i (fun _ _ => ctrlLaw_definedCtrl cfg) _
  exact (hdef.before rfl rfl).controlLaw (controlLaw_updSeg h fun _ => hcfg)

theorem controlLaw_segDefine {s : State} (h : ControlLaw s) (n b p q : Nat) : ControlLaw (segDefine n b p q s).state := by
  unfold segDefine
  split
  · exact h
  · split
    · split
      · exact h
      · next i p' q' _ _ _ _ =>
        have hq : (if q' = some p' then none else q') ≠ some p' := by split <;> simp_all
        exact controlLaw_defineSegment h i (configLaw_definedConfig b p' _ hq)
    · exact h

theorem controlLaw_segRemove {s : State} (h : ControlLaw s) (n : Nat) : ControlLaw (segRemove n s).state := by
  unfold segRemove
  split
  · exact h
  · split
    · exact h
    · next i _ =>
      split
      · exact h
      · split
        · exact h
        · have hcfg := controlLaw_updSeg (i := i) h configLaw_removedConfig
          refine CtrlsKept.controlLaw ?_ hcfg
          refine CtrlsKept.trans (t := removedUntabled i s) ?_ ?_
          · exact (ctrlsKept_updCtrl i (f := fun _ => Ctrl.blank) (fun _ _ => ctrlLaw_blank) _).before rfl rfl
          · exact (ctrlsKept_tableChange _ _ _ _).before rfl rfl

theorem controlLaw_retune {i : SegId} {f : SegConfig → SegConfig} {s : State} (h : ControlLaw s)
    (hf : ConfigLaw (segCfg s i) → ConfigLaw (f (segCfg s i))) : ControlLaw (retune i f s) :=
  ((ctrlsKept_updCtrl i (f := invalidate) (fun _ h => h) _).before rfl rfl).controlLaw (controlLaw_updSeg h hf)

theorem controlLaw_segTune {s : State} (h : ControlLaw s) (n : Nat) (x : Tuning) : ControlLaw (segTune n x s).state := by
  unfold segTune
  split
  · exact h
  · split
    · exact h
    · split
      · exact h
      · exact controlLaw_retune h fun hc => configLaw_tuneConfig hc x

theorem controlLaw_bandSet {s : State} (h : ControlLaw s) (n b : Nat) (q : BandConfig) :
    ControlLaw (bandSet n b q s).state := by
  unfold bandSet
  split
  · exact h
  split
  · exact h
  split
  · exact h
  split
  · exact h
  split
  · exact h
  next hq =>
  split
  · exact h
  · exact controlLaw_retune h fun hc => configLaw_setBand hc _ (Nat.le_of_not_lt hq)

theorem controlLaw_glareSet {s : State} (h : ControlLaw s) (m : SegMask) (n : Nat) : ControlLaw (glareSet m n s).state := by
  have hwrite : ∀ u i, ControlLaw u → ControlLaw (writeThreshold (min n 20000) u i) := fun u i hu => by
    have hcfg := controlLaw_updSeg (i := i) (f := fun c => { c with glareThreshold := min n 20000 }) hu
      fun ⟨h0, h1, h2, h3, h4, h5, h6, h7, h8, h9, h10, h11, h12, _, hb⟩ =>
        ⟨h0, h1, h2, h3, h4, h5, h6, h7, h8, h9, h10, h11, h12, Nat.min_le_right _ _, hb⟩
    unfold writeThreshold
    dsimp only
    split
    · exact (ctrlsKept_setGlare i false _).controlLaw hcfg
    · exact hcfg
  unfold glareSet
  dsimp only
  split
  · exact h
  · exact List.foldlRecOn _ _ h fun u hu i _ => hwrite u i hu

theorem controlLaw_powerOn (a b c : StrapPins) (s : State) : ControlLaw (powerOn a b c s) := by
  refine ⟨fun i => ?_, fun i => ?_⟩
  · have : segCfg (powerOn a b c s) i = SegConfig.initial := by simp [powerOn, State.initial, segCfg]
    rw [this]; exact configLaw_initial
  · have : (powerOn a b c s).ctrls[i] = Ctrl.blank := by simp [powerOn, State.initial]
    rw [this]; exact ctrlLaw_blank

/-! ## Every step -/

/-- Every command keeps the records in range. -/
theorem controlLaw_exec {c : Instr} {s t : State} (h : ControlLaw s) (he : exec c s = .next t) : ControlLaw t := by
  cases hn : isNeutral c with
  | true => exact (exec_neutral hn he).ctrlsKept.controlLaw h
  | false =>
    have hserve : ∀ {p : PortId} {k : Kind} {owner : Body → State → Response},
        (∀ b, ControlLaw (owner b s).state) → ControlLaw (serve p k owner s) := fun ho =>
      serve_keeps (P := ControlLaw) (fun u x hu => CtrlsKept.controlLaw (s := u) (.of_eq rfl rfl) hu) h ho
    have keeps : ∀ {t}, CtrlsKept s t → ControlLaw t := fun k => k.controlLaw h
    cases c <;> first | exact absurd hn Bool.false_ne_true.symm | skip
    all_goals injection he with he; subst he
    case powerOnReset => exact controlLaw_powerOn _ _ _ s
    case segDefine => refine hserve fun b => ?_; split; exacts [controlLaw_segDefine h _ _ _ _, h]
    case segRemove => refine hserve fun b => ?_; split; exacts [controlLaw_segRemove h _, h]
    case segTune => refine hserve fun b => ?_; split; exacts [controlLaw_segTune h _ _, h]
    case bandSet => refine hserve fun b => ?_; split; exacts [controlLaw_bandSet h _ _ _, h]
    case couplingWrite => refine hserve fun b => ?_; split; exacts [keeps (ctrlsKept_couplingWrite _ _ _ _ s), h]
    case overrideSet => refine hserve fun b => ?_; split; exacts [keeps (ctrlsKept_overrideSet _ _ _ s), h]
    case overrideCancel => refine hserve fun b => ?_; split; exacts [keeps (ctrlsKept_overrideCancel _ s), h]
    case lockSet => refine hserve fun b => ?_; split; exacts [keeps (ctrlsKept_lockSet _ _ s), h]
    case lockRelease => refine hserve fun b => ?_; split; exacts [keeps (ctrlsKept_lockRelease _ s), h]
    case holdSet => refine hserve fun b => ?_; split; exacts [keeps (ctrlsKept_holdSet _ _ s), h]
    case holdSettled => refine hserve fun b => ?_; split; exacts [keeps (ctrlsKept_holdSettled _ s), h]
    case capSet => refine hserve fun b => ?_; split; exacts [keeps (ctrlsKept_capSet _ _ _ _ s), h]
    case capCancel => refine hserve fun b => ?_; split; exacts [keeps (ctrlsKept_capCancel _ s), h]
    case calStart => refine hserve fun b => ?_; split; exacts [keeps (ctrlsKept_calStart _ _ _ _ _ _ _ s), h]
    case calAbort => exact hserve fun _ => keeps (ctrlsKept_abortRun _ s)
    case glareSet => refine hserve fun b => ?_; split; exacts [controlLaw_glareSet h _ _, h]
    case restart => exact keeps (ctrlsKept_restart _ s)
    case pass =>
      split
      · exact keeps (ctrlsKept_passSegment (h.1 _))
      · exact h
    case uptimeTick => exact keeps ((ctrlsKept_departDue _).after rfl rfl)
    case entryExpiry => exact keeps (ctrlsKept_departDue s)
    case busFault => exact keeps (ctrlsKept_busFault s)
    case calStageTimerExpiry => exact keeps (ctrlsKept_calStageTimerExpiry s)

/-- Settles O12: only the layout requests write configuration records, each value brought into range; only a pass writes
counts, filter and daylights, and every change of mode keeps or forgets them. -/
theorem controlLawKept : Obligations.ControlLawKept := by
  unfold Obligations.ControlLawKept
  exact step_keeps (fun _ _ h => h) fun c s t h he => controlLaw_exec h he

end Sys2Proof.Proofs
end

section
/-! PROOFS. The layout requests as their owning blocks answer them: the refusals in their order, the settings, and the two
resets. -/

namespace Sys2Proof.Proofs

open Sys2Proof Sys2Proof.Machine Sys2Proof.Safety Sys2Proof.Laws

/-! ## The requests at their owning blocks -/

section
variable {p : PortId} {link : Bool} {tag : Byte} {s : State}

theorem exec_segDefine {i n a c : Nat} (h : Runs p ⟨link, tag, .segDefine i n a c⟩ s) :
    exec (.segDefine p) s = .next (placeReply p ⟨link, tag, .segDefine i n a c⟩ (segDefine i n a c s).status
      (segDefine i n a c s).payload (segDefine i n a c s).state) :=
  congrArg Host.Outcome.next (serve_runs _ h)

theorem exec_segRemove {i : Nat} (h : Runs p ⟨link, tag, .segRemove i⟩ s) :
    exec (.segRemove p) s = .next (placeReply p ⟨link, tag, .segRemove i⟩ (segRemove i s).status
      (segRemove i s).payload (segRemove i s).state) :=
  congrArg Host.Outcome.next (serve_runs _ h)

theorem exec_segTune {i v pp db nu nd su sd f : Nat} (h : Runs p ⟨link, tag, .segTune i v pp db nu nd su sd f⟩ s) :
    exec (.segTune p) s = .next (placeReply p ⟨link, tag, .segTune i v pp db nu nd su sd f⟩
      (segTune i ⟨v, pp, db, nu, nd, su, sd, f⟩ s).status (segTune i ⟨v, pp, db, nu, nd, su, sd, f⟩ s).payload
      (segTune i ⟨v, pp, db, nu, nd, su, sd, f⟩ s).state) :=
  congrArg Host.Outcome.next (serve_runs _ h)

theorem exec_bandSet {i b r k lo hi : Nat} (h : Runs p ⟨link, tag, .bandSet i b r k lo hi⟩ s) :
    exec (.bandSet p) s = .next (placeReply p ⟨link, tag, .bandSet i b r k lo hi⟩ (bandSet i b ⟨r, k, lo, hi⟩ s).status
      (bandSet i b ⟨r, k, lo, hi⟩ s).payload (bandSet i b ⟨r, k, lo, hi⟩ s).state) :=
  congrArg Host.Outcome.next (serve_runs _ h)

theorem exec_layoutLock (h : Runs p ⟨link, tag, .layoutLock⟩ s) :
    exec (.layoutLock p) s =
      .next (placeReply p ⟨link, tag, .layoutLock⟩ .ok [] (s.setLayout { s.layout with lock := true })) :=
  congrArg Host.Outcome.next (serve_runs _ h)

theorem exec_settleSet {n : Nat} (h : Runs p ⟨link, tag, .settleSet n⟩ s) :
    exec (.settleSet p) s = .next (placeReply p ⟨link, tag, .settleSet n⟩ (settleSet n s).status
      (settleSet n s).payload (settleSet n s).state) :=
  congrArg Host.Outcome.next (serve_runs _ h)

theorem exec_glareSet {m : SegMask} {g : Nat} (h : Runs p ⟨link, tag, .glareSet m g⟩ s) :
    exec (.glareSet p) s = .next (placeReply p ⟨link, tag, .glareSet m g⟩ (glareSet m g s).status
      (glareSet m g s).payload (glareSet m g s).state) :=
  congrArg Host.Outcome.next (serve_runs _ h)

theorem exec_restart (h : Runs p ⟨link, tag, .restart⟩ s) :
    exec (.restart p) s = .next (warmRestart p (placeReply p ⟨link, tag, .restart⟩ .ok [] s)) := by
  have ha := admission_runs h
  have e : restart p s = warmRestart p (placeReply p ⟨link, tag, .restart⟩ .ok [] s) := by
    unfold restart
    rw [show admission p .restart s = .admitted ⟨link, tag, .restart⟩ from ha]
  exact congrArg Host.Outcome.next e

end

/-! ## Refusals (R4, R7, R10, R11) -/

theorem segId?_lt {n : Nat} (h : n < 16) : segId? n = some ⟨n, h⟩ := by simp [segId?, h]
theorem sensorId?_lt {n : Nat} (h : n < 32) : sensorId? n = some ⟨n, h⟩ := by simp [sensorId?, h]

/-- The secondary byte is neither none nor a sensor (R4, check 4). -/
theorem secondary?_none {n : Nat} (h : 32 ≤ n) (h' : n ≠ 255) : secondary? n = none := by
  simp [secondary?, h', sensorId?_none h]

theorem secondary?_some {n : Nat} (h : n < 32 ∨ n = 255) : ∃ q, secondary? n = some q := by
  rcases h with h | rfl
  · exact ⟨some ⟨n, h⟩, by rw [secondary?, if_neg (by omega), sensorId?_lt h]; rfl⟩
  · exact ⟨none, rfl⟩

section
variable {s : State} {i : Nat}

theorem segDefine_locked (n a c : Nat) (h : s.layout.lock = true) : segDefine i n a c s = refuse .layoutLocked s := by
  rw [segDefine, if_pos h]

theorem segDefine_range {n a c : Nat} (h : s.layout.lock = false) (hr : 16 ≤ i ∨ 32 ≤ a ∨ 32 ≤ c ∧ c ≠ 255) :
    segDefine i n a c s = refuse .range s := by
  rw [segDefine, if_neg (by simp [h])]
  rcases hr with hr | hr | ⟨hr, hne⟩
  · rw [segId?_none hr]
  · rw [sensorId?_none hr]; cases segId? i <;> rfl
  · rw [secondary?_none hr hne]; cases segId? i <;> cases sensorId? a <;> rfl

theorem segDefine_busy {n a c : Nat} (h : s.layout.lock = false) (ha : a < 32) (hc : c < 32 ∨ c = 255) (hi : i < 16)
    (hconf : configured s ⟨i, hi⟩ = true) : segDefine i n a c s = refuse .busy s := by
  obtain ⟨q, hq⟩ := secondary?_some hc
  rw [segDefine, if_neg (by simp [h]), segId?_lt hi, sensorId?_lt ha, hq]
  exact if_pos hconf

theorem segRemove_locked (h : s.layout.lock = true) : segRemove i s = refuse .layoutLocked s := by
  rw [segRemove, if_pos h]

theorem segRemove_range (h : s.layout.lock = false) (hi : 16 ≤ i) : segRemove i s = refuse .range s := by
  rw [segRemove, if_neg (by simp [h]), segId?_none hi]

theorem segRemove_notConfigured (h : s.layout.lock = false) (hi : i < 16) (hconf : configured s ⟨i, hi⟩ = false) :
    segRemove i s = refuse .notConfigured s := by
  rw [segRemove, if_neg (by simp [h]), segId?_lt hi]
  exact if_pos (by simp [hconf])

theorem segRemove_busy (h : s.layout.lock = false) (hi : i < 16) (hconf : configured s ⟨i, hi⟩ = true)
    (hm : modeOf s ⟨i, hi⟩ = .calibrating) : segRemove i s = refuse .busy s := by
  rw [segRemove, if_neg (by simp [h]), segId?_lt hi]
  exact (if_neg (by simp [hconf])).trans (if_pos hm)

theorem segTune_range (x : Tuning) (hi : 16 ≤ i) : segTune i x s = refuse .range s := by
  rw [segTune, segId?_none hi]

theorem segTune_notConfigured (x : Tuning) (hi : i < 16) (hconf : configured s ⟨i, hi⟩ = false) :
    segTune i x s = refuse .notConfigured s := by
  rw [segTune, segId?_lt hi]
  exact if_pos (by simp [hconf])

theorem segTune_busy (x : Tuning) (hi : i < 16) (hconf : configured s ⟨i, hi⟩ = true)
    (hm : modeOf s ⟨i, hi⟩ = .calibrating) : segTune i x s = refuse .busy s := by
  rw [segTune, segId?_lt hi]
  exact (if_neg (by simp [hconf])).trans (if_pos hm)

theorem bandSet_range (b : Nat) (q : BandConfig) (hi : 16 ≤ i) : bandSet i b q s = refuse .range s := by
  rw [bandSet, segId?_none hi]

theorem bandSet_notConfigured (b : Nat) (q : BandConfig) (hi : i < 16) (hconf : configured s ⟨i, hi⟩ = false) :
    bandSet i b q s = refuse .notConfigured s := by
  rw [bandSet, segId?_lt hi]
  exact if_pos (by simp [hconf])

theorem bandSet_noBand {b : Nat} (q : BandConfig) (hi : i < 16) (hconf : configured s ⟨i, hi⟩ = true)
    (hb : (segCfg s ⟨i, hi⟩).bandCount ≤ b) : bandSet i b q s = refuse .range s := by
  rw [bandSet, segId?_lt hi]
  exact (if_neg (by simp [hconf])).trans (if_pos hb)

theorem bandSet_busy {b : Nat} (q : BandConfig) (hi : i < 16) (hconf : configured s ⟨i, hi⟩ = true)
    (hb : b < (segCfg s ⟨i, hi⟩).bandCount) (hm : modeOf s ⟨i, hi⟩ = .calibrating) :
    bandSet i b q s = refuse .busy s := by
  rw [bandSet, segId?_lt hi]
  exact (if_neg (by simp [hconf])).trans ((if_neg (by omega)).trans (if_pos hm))

theorem bandSet_crossed {b : Nat} {q : BandConfig} (hi : i < 16) (hconf : configured s ⟨i, hi⟩ = true)
    (hb : b < (segCfg s ⟨i, hi⟩).bandCount) (hm : modeOf s ⟨i, hi⟩ ≠ .calibrating)
    (hq : min q.lmax 1000 < min q.lmin 1000) : bandSet i b q s = refuse .range s := by
  rw [bandSet, segId?_lt hi]
  exact (if_neg (by simp [hconf])).trans ((if_neg (by omega)).trans ((if_neg hm).trans (if_pos hq)))

end

/-- Settles O25: each clause meets the check it names with the checks before it passed. -/
theorem layoutRequestsRefused : Obligations.LayoutRequestsRefused := by
  unfold Obligations.LayoutRequestsRefused
  refine ⟨fun p link tag i n a c s => ⟨fun h st hst => ?_, fun h st hst => ?_⟩,
    fun p link tag i s => ⟨fun v pp db nu nd su sd f h st hst => ?_, fun b r k lo hi h st hst => ?_⟩⟩
  · have key : segDefine i n a c s = refuse st s := by
      rcases hst with ⟨rfl, hl⟩ | ⟨rfl, hl, hr⟩ | ⟨rfl, hl, ha, hc, hi, hconf⟩
      · exact segDefine_locked n a c hl
      · exact segDefine_range hl hr
      · exact segDefine_busy hl ha hc hi hconf
    rw [exec_segDefine h, key]; rfl
  · have key : segRemove i s = refuse st s := by
      rcases hst with ⟨rfl, hl⟩ | ⟨rfl, hl, hr⟩ | ⟨rfl, hl, hi, hconf⟩ | ⟨rfl, hl, hi, hconf, hm⟩
      · exact segRemove_locked hl
      · exact segRemove_range hl hr
      · exact segRemove_notConfigured hl hi hconf
      · exact segRemove_busy hl hi hconf hm
    rw [exec_segRemove h, key]; rfl
  · have key : segTune i ⟨v, pp, db, nu, nd, su, sd, f⟩ s = refuse st s := by
      rcases hst with ⟨rfl, hr⟩ | ⟨rfl, hi, hconf⟩ | ⟨rfl, hi, hconf, hm⟩
      · exact segTune_range _ hr
      · exact segTune_notConfigured _ hi hconf
      · exact segTune_busy _ hi hconf hm
    rw [exec_segTune h, key]; rfl
  · have key : bandSet i b ⟨r, k, lo, hi⟩ s = refuse st s := by
      rcases hst with ⟨rfl, hr⟩ | ⟨rfl, hi, hconf⟩ | ⟨rfl, hi, hconf, hb⟩ | ⟨rfl, hi, hconf, hb, hm⟩ |
        ⟨rfl, ⟨hi, hconf, hb, hm⟩, hq⟩
      · exact bandSet_range b _ hr
      · exact bandSet_notConfigured b _ hi hconf
      · exact bandSet_noBand _ hi hconf hb
      · exact bandSet_busy _ hi hconf hb hm
      · exact bandSet_crossed hi hconf hb hm hq
    rw [exec_bandSet h, key]; rfl

/-! ## Power-on reset (R166) -/

/-- Of ports strapped alike the lowest-numbered holds the role (R154). -/
theorem rolesOf_get (a b c : Role) (p : PortId) : (rolesOf a b c)[p] =
    if ∃ q : PortId, q < p ∧ #v[a, b, c][q] = #v[a, b, c][p] then Role.off else #v[a, b, c][p] := by
  fin_cases p
  · simp [rolesOf]
  · simp [rolesOf, eq_comm]
  · simp [rolesOf, Fin.exists_fin_succ, eq_comm]

theorem strapRoles_get (a b c : StrapPins) (p : PortId) :
    #v[strapRole a, strapRole b, strapRole c][p] = strapRole #v[a, b, c][p] := by
  fin_cases p <;> rfl

/-- The port of a number after power-on reset. -/
theorem powerOn_port (a b c : StrapPins) (s : State) (p : PortId) : (powerOn a b c s).ports[p] =
    Port.initial (strapRole #v[a, b, c][p]) (rolesOf (strapRole a) (strapRole b) (strapRole c))[p] := by
  rw [← strapRoles_get]; exact ofFn_get _ p

/-- Settles O2. -/
theorem powerOnValues : Obligations.PowerOnValues := by
  unfold Obligations.PowerOnValues
  intro a b c s
  have hp := powerOn_port a b c s
  refine ⟨_, rfl, rfl, rfl, fun i => ?_, fun i => ?_, ⟨rfl, rfl, rfl, rfl, fun k => ?_⟩, fun k => ⟨?_, ?_⟩, rfl, fun g => ?_, rfl,
    fun i => ?_, rfl, rfl, rfl, rfl, rfl, fun k => ?_, fun p => ?_⟩
  case refine_9 =>
    have hrole : (powerOn a b c s).ports[p].role = if ∃ q : PortId, q < p ∧
        (powerOn a b c s).ports[q].strap = (powerOn a b c s).ports[p].strap then Role.off
        else (powerOn a b c s).ports[p].strap := by
      simp only [hp, Port.initial, ← strapRoles_get]
      exact rolesOf_get _ _ _ p
    refine ⟨by rw [hp]; rfl, hrole, ?_⟩
    rw [hp]
    exact ⟨rfl, rfl, rfl, rfl, rfl, rfl, rfl, fun i => by simp [Port.initial], rfl⟩
  all_goals simp [powerOn, State.initial, segCfg, SegConfig.initial, Ctrl.blank, Holder.empty, CalResult.initial]

end Sys2Proof.Proofs
end

section
/-! PROOFS. The settings of the part (R13, R72, R88) and the warm restart (R14, R15). -/

namespace Sys2Proof.Proofs

open Sys2Proof Sys2Proof.Machine Sys2Proof.Safety Sys2Proof.Laws

/-! ## GLARE_SET (R72) -/

/-- The threshold of one segment written: its record, its glare flag with a threshold of 0, and GLARE_OFF where the flag
was on. -/
theorem writeThreshold_eq (n : Nat) (s : State) (i : SegId) : writeThreshold n s i =
    { s with
      layout := { s.layout with segs := updAt s.layout.segs i fun c => { c with glareThreshold := n } }
      ctrls := if n = 0 then updAt s.ctrls i fun c => { c with glare := false } else s.ctrls
      ports := if n = 0 ∧ s.ctrls[i].glare = true then offerEvent i .glareOff s.ports else s.ports } := by
  unfold writeThreshold
  dsimp only
  by_cases hn : n = 0
  · simp only [hn, true_and, if_true, setGlare, glareEvent, updSeg_ctrls]
    cases hg : s.ctrls[i].glare <;> rfl
  · simp only [hn, false_and, if_false]
    rfl

/-- GLARE_OFF is offered to the port for the segment when its flag goes off (R72, R170). -/
def glareOff (n : Nat) (l : List SegId) (s : State) (p : Port) (i : SegId) : BitVec 8 :=
  if n = 0 ∧ i ∈ l ∧ s.ctrls[i].glare = true ∧ p.role ≠ .off ∧ maskHas p.segMask i = true then 0x08 else 0

/-- The threshold of every listed segment is written, and nothing else changes. -/
structure ThresholdsWritten (n : Nat) (l : List SegId) (s t : State) : Prop where
  lock : t.layout.lock = s.layout.lock
  segs : ∀ i : SegId, t.layout.segs[i] = if i ∈ l then { s.layout.segs[i] with glareThreshold := n } else s.layout.segs[i]
  ctrls : ∀ i : SegId, t.ctrls[i] = if n = 0 ∧ i ∈ l then { s.ctrls[i] with glare := false } else s.ctrls[i]
  ports : ∀ q : PortId, { t.ports[q] with events := s.ports[q].events } = s.ports[q]
  events : ∀ (q : PortId) (i : SegId), t.ports[q].events[i] = s.ports[q].events[i] ||| glareOff n l s s.ports[q] i
  pending : t.pending = s.pending
  sensors : t.sensors = s.sensors
  coupling : t.coupling = s.coupling
  table : t.table = s.table
  lum : t.lum = s.lum
  energy : t.energy = s.energy
  cal : t.cal = s.cal

theorem offerEvent_get (i : SegId) (e : SegEvent) (v : Ports) (q : PortId) : (offerEvent i e v)[q] = offerAt i e v[q] := by
  simp [offerEvent]

/-- An event offered joins the event set of its segment at a port with a role that enables the segment (R170). -/
theorem offerAt_events (i j : SegId) (e : SegEvent) (p : Port) : (offerAt i e p).events[j] =
    if i = j ∧ p.role ≠ .off ∧ maskHas p.segMask i = true then p.events[j] ||| eventMask e else p.events[j] := by
  rw [offerAt_eq]
  dsimp only
  by_cases h : p.role = .off ∨ maskHas p.segMask i = false
  · rw [if_pos h, if_neg]
    rintro ⟨_, h1, h2⟩
    rcases h with h | h
    · exact h1 h
    · rw [h2] at h; cases h
  · rw [if_neg h, updAt_get]
    push Not at h
    by_cases hij : i = j
    · rw [if_pos hij, if_pos ⟨hij, h.1, by simpa using h.2⟩]
    · rw [if_neg hij, if_neg fun k => hij k.1]

/-- The ports with GLARE_OFF offered where a threshold of 0 turns a flag off. -/
theorem writeThreshold_ports (n : Nat) (s : State) (a : SegId) (q : PortId) :
    { (writeThreshold n s a).ports[q] with events := s.ports[q].events } = s.ports[q] ∧
    ∀ i : SegId, (writeThreshold n s a).ports[q].events[i] = s.ports[q].events[i] ||| glareOff n [a] s s.ports[q] i := by
  rw [writeThreshold_eq]
  dsimp only
  by_cases h : n = 0 ∧ s.ctrls[a].glare = true
  · rw [if_pos h, offerEvent_get]
    refine ⟨by rw [offerAt_eq], fun i => ?_⟩
    rw [offerAt_events, glareOff]
    by_cases hi : a = i
    · subst hi
      simp only [true_and, h.1, h.2, List.mem_singleton]
      split
      · rfl
      · simp
    · rw [if_neg fun k => hi k.1, if_neg fun k => hi (List.mem_singleton.mp k.2.1).symm]
      simp
  · rw [if_neg h]
    refine ⟨rfl, fun i => ?_⟩
    rw [glareOff, if_neg]
    · simp
    · rintro ⟨hn, hi, hg, _⟩
      rw [List.mem_singleton.mp hi] at hg
      exact h ⟨hn, hg⟩

/-- Thresholds written one segment after the other, none twice. -/
theorem foldl_writeThreshold (n : Nat) : ∀ (l : List SegId) (s : State), l.Nodup →
    ThresholdsWritten n l s (l.foldl (writeThreshold n) s) := by
  intro l
  induction l with
  | nil => exact fun s _ => ⟨rfl, fun i => rfl, fun i => by simp, fun q => rfl, fun q i => by simp [glareOff],
      rfl, rfl, rfl, rfl, rfl, rfl, rfl⟩
  | cons a l ih =>
    intro s hn
    obtain ⟨ha, hn⟩ := List.nodup_cons.mp hn
    obtain ⟨k1, k2, k3, k4, k5, k6, k7, k8, k9, k10, k11, k12⟩ := ih (writeThreshold n s a) hn
    have hports := writeThreshold_ports n s a
    have hctrl : ∀ i : SegId, (writeThreshold n s a).ctrls[i] =
        if n = 0 ∧ a = i then { s.ctrls[i] with glare := false } else s.ctrls[i] := fun i => by
      rw [writeThreshold_eq]
      dsimp only
      by_cases hz : n = 0
      · rw [if_pos hz, updAt_get]; simp only [hz, true_and]
      · rw [if_neg hz, if_neg fun k => hz k.1]
    have hseg : ∀ i : SegId, (writeThreshold n s a).layout.segs[i] =
        if a = i then { s.layout.segs[i] with glareThreshold := n } else s.layout.segs[i] := fun i => by
      rw [writeThreshold_eq]; exact updAt_get _ _ _ _
    rw [List.foldl_cons]
    refine ⟨k1.trans (by rw [writeThreshold_eq]), fun i => ?_, fun i => ?_, fun q => ?_, fun q i => ?_,
      k6.trans (by rw [writeThreshold_eq]), k7.trans (by rw [writeThreshold_eq]), k8.trans (by rw [writeThreshold_eq]),
      k9.trans (by rw [writeThreshold_eq]), k10.trans (by rw [writeThreshold_eq]), k11.trans (by rw [writeThreshold_eq]),
      k12.trans (by rw [writeThreshold_eq])⟩
    · rw [k2, hseg]
      by_cases hi : a = i
      · subst hi; simp [ha]
      · simp [hi, Ne.symm hi]
    · rw [k3, hctrl]
      by_cases hi : a = i
      · subst hi; simp [ha]
      · simp [hi, Ne.symm hi]
    · have h1 := k4 q
      have h2 := (hports q).1
      rw [← h2, ← h1]
    · have hrole : (writeThreshold n s a).ports[q].role = s.ports[q].role := by
        have e := congrArg Port.role (hports q).1; exact e
      have hmask : (writeThreshold n s a).ports[q].segMask = s.ports[q].segMask := by
        have e := congrArg Port.segMask (hports q).1; exact e
      rw [k5, (hports q).2, glareOff, glareOff, glareOff, hrole, hmask, hctrl]
      by_cases hi : a = i
      · subst hi; simp [ha]
      · simp [hi, Ne.symm hi]

/-- The status of an accepted request is OK exactly where nothing was brought into range. -/
theorem okStatus_eq {clamped : Bool} {P : Prop} [Decidable P] (h : clamped = true ↔ ¬ P) :
    okStatus clamped = if P then .ok else .okClamped := by
  unfold okStatus
  by_cases hp : P
  · rw [if_pos hp, if_neg fun hc => h.mp hc hp]
  · rw [if_neg hp, if_pos (h.mpr hp)]

theorem glareSet_accepted {m : SegMask} {g : Nat} {s : State} (h : m &&& configuredMask s ≠ 0) :
    glareSet m g s = accept (m &&& configuredMask s != m || min g 20000 != g)
      ((maskSegs (m &&& configuredMask s)).foldl (writeThreshold (min g 20000)) s) := if_neg h

/-- Settles O29. -/
theorem partSettings : Obligations.PartSettings := by
  unfold Obligations.PartSettings
  refine ⟨fun p link tag s => ⟨fun h => exec_layoutLock h, fun n h => ?_⟩, fun p link tag m g s h hm => ?_⟩
  · have hst : okStatus (60 < n) = if n ≤ 60 then .ok else .okClamped := okStatus_eq (by simp)
    rw [exec_settleSet h, ← hst]
    rfl
  · have hw := foldl_writeThreshold (min g 20000) (maskSegs (m &&& configuredMask s)) s (nodup_maskSegs _)
    have hst : okStatus (m &&& configuredMask s != m || min g 20000 != g) =
        if m &&& configuredMask s = m ∧ g ≤ 20000 then .ok else .okClamped :=
      okStatus_eq (by simp only [Bool.or_eq_true, bne_iff_ne, ne_eq, not_and_or, inf_eq_left])
    have hmem : ∀ i, i ∈ maskSegs (m &&& configuredMask s) ↔ maskHas m i = true ∧ configured s i = true := fun i => by
      simp
    have hz : min g 20000 = 0 ↔ g = 0 := by omega
    generalize ht : (maskSegs (m &&& configuredMask s)).foldl (writeThreshold (min g 20000)) s = t at hw
    refine ⟨t, ?_, ?_, fun i => ?_, hw.ports, fun q i => ?_, hw.sensors, hw.coupling, hw.table, hw.lum, hw.energy, hw.cal,
      hw.pending⟩
    · rw [exec_glareSet h, glareSet_accepted hm, ht, ← hst]; rfl
    · have hseg : t.layout.segs = Vector.ofFn fun i =>
          if maskHas m i = true ∧ configured s i = true then { s.layout.segs[i] with glareThreshold := min g 20000 }
          else s.layout.segs[i] := vector_ext fun i => by
        rw [hw.segs, ofFn_get]; simp only [hmem]
      rw [← hseg]
      exact congrArg (Layout.mk · _) hw.lock
    · rw [hw.ctrls]; simp only [hmem, hz]
    · rw [hw.events, glareOff]; simp only [hmem, hz, and_assoc]

/-! ## The warm restart (R14, R15) -/

/-- The full refresh: every existing group with its present level, in ascending order (R130). -/
def refreshQueue (l : Lum) : List (GroupId × Nat) :=
  (List.finRange 48).filterMap fun g => l.groups[g].map fun r => (g, r.present)

/-- The link of a warm restart before the arbiter looks at it (R130). -/
def restartLink (l : Lum) : Link where
  state := if l.link.faultReported then .down else .running
  pauseInForce := false
  queue := refreshQueue l
  tx := l.link.tx.map restartTx
  lastGrant := .level
  unit := .idle
  record := QueryRecord.initial
  faultReported := l.link.faultReported

theorem restartLum_link (l : Lum) : (restartLum l).link = arbitrate (restartLink l) := by
  have hq : levelsWhere ⟨l.groups.map (Option.map restartGroup), l.link⟩ (fun _ _ => true) = refreshQueue l := by
    unfold levelsWhere refreshQueue
    congr 1; funext g
    simp only [Fin.getElem_fin, Vector.getElem_map]
    cases l.groups[g.val] <;> rfl
  rw [restartLum, hq, restartLink]

/-- What the arbiter makes of the full refresh: on a free link its first level goes out (R117, R130). -/
theorem arbitrate_restartLink (l : Lum) :
    (l.link.faultReported = true ∨ l.link.tx ≠ none → arbitrate (restartLink l) = restartLink l) ∧
    (l.link.faultReported = false → l.link.tx = none →
      arbitrate (restartLink l) = { restartLink l with
        queue := (refreshQueue l).drop 1, tx := (refreshQueue l).head?.map fun e => Tx.setLevel e.1 e.2 true }) := by
  constructor
  · rintro (h | h)
    · exact arbitrate_idle (by simp [sends, restartLink, h])
    · obtain ⟨x, hx⟩ := Option.ne_none_iff_exists'.mp h
      simp [arbitrate, restartLink, hx]
  · intro hf htx
    unfold arbitrate grant
    cases hq : refreshQueue l with
    | nil => simp [restartLink, hf, htx, hq, sends, queryWaits]
    | cons e rest => simp [restartLink, hf, htx, hq, sends, queryWaits]

theorem arbitrate_lastGrant_restart (l : Lum) : (arbitrate (restartLink l)).lastGrant = .level := by
  rcases arbitrate_cases (restartLink l) with ⟨h, _⟩ | ⟨_, _, h, _⟩ | ⟨_, _, _, _, _, _, _, h⟩
  · rw [h]; rfl
  · simp [restartLink, queryWaits] at h
  · rw [h]

/-- A transmission in progress runs on through a warm restart (R130). -/
theorem arbitrate_tx_restart {l : Lum} {x : Tx} (h : l.link.tx = some x) :
    (arbitrate (restartLink l)).tx = some (restartTx x) := by
  rw [(arbitrate_restartLink l).1 (.inr (by simp [h]))]
  simp [restartLink, h]

/-- The sensor link after a warm restart (R15, R30; log 31). -/
theorem restartSensors_round (y : Layout) (x : SensorLink) :
    match x.poll with
    | some q => (restartSensors y x).round = some 0 ∧
        (restartSensors y x).poll = some { q with void := true, outlived := true }
    | none => (restartSensors y x).round = nextAssigned y 0 ∧
        (restartSensors y x).poll = (nextAssigned y 0).map fun k => ⟨k, .awaiting, false, false⟩ := by
  unfold restartSensors
  cases hp : x.poll with
  | some q => exact ⟨rfl, rfl⟩
  | none =>
    dsimp only
    unfold startRound
    cases nextAssigned y 0 <;> simp [pollChannel]

theorem restartSensors_frame (y : Layout) (x : SensorLink) : (restartSensors y x).roundTimer = 250 ∧
    (restartSensors y x).lateStart = false ∧ (restartSensors y x).holders = Vector.replicate 32 Holder.empty := by
  unfold restartSensors startRound
  dsimp only
  cases x.poll with
  | some q => exact ⟨rfl, rfl, rfl⟩
  | none => cases nextAssigned y 0 <;> exact ⟨rfl, rfl, rfl⟩

/-- The port of a number after a RESTART executed on a port (R14, R165). -/
theorem warmRestart_port {p : PortId} {link : Bool} {tag : Byte} {s : State} (hp : s.ports[p].role ≠ .off) (q : PortId) :
    (warmRestart p (placeReply p ⟨link, tag, .restart⟩ .ok [] s)).ports[q] =
      if s.ports[q].role = .off then s.ports[q]
      else
        { s.ports[q] with
          request := none
          reply := if q = p then some (withCheck [0x2F, tag, 0x00]) else none
          progress := .none, refused := false, raised := 0x0001, events := Vector.replicate 16 0
          period := s.ports[q].period.map fun _ => ⟨[], false, true⟩ } := by
  refine (ofFn_get _ q).trans ?_
  rw [placeReply_ports, updAt_get]
  by_cases hq : p = q
  · subst hq
    rw [if_pos rfl, placeReplyAt_eq _ _ _ _ hp, if_neg hp, restartPort, if_neg hp]
    simp only [beq_self_eq_true, if_true]
    rfl
  · rw [if_neg hq, restartPort]
    split
    · rfl
    · simp only [beq_iff_eq, Ne.symm hq, if_false]
      rfl

/-- Settles O30: block by block, each as the warm restart writes it. -/
theorem warmRestart_holds : Obligations.WarmRestart := by
  unfold Obligations.WarmRestart
  intro p link tag s h
  have hrole := mayIssue_ne_off h.2.2
  obtain ⟨harb1, harb2⟩ := arbitrate_restartLink s.lum
  obtain ⟨hs1, hs2, hs3⟩ := restartSensors_frame s.layout s.sensors
  have hlink := restartLum_link s.lum
  refine ⟨_, exec_restart h, rfl, rfl, rfl, rfl, rfl, ?_, restartLum_groups s.lum, ?_⟩
  · refine (show _ = restartCal s.cal from rfl).trans ?_
    unfold restartCal
    cases s.cal.run <;> rfl
  · have hl : (warmRestart p (placeReply p ⟨link, tag, .restart⟩ .ok [] s)).lum.link = arbitrate (restartLink s.lum) := hlink
    rw [hl]
    refine ⟨by simp [restartLink], by simp [restartLink], by simp [restartLink], by simp [restartLink, QueryRecord.initial],
      arbitrate_lastGrant_restart _, by simp [restartLink], ⟨refreshQueue s.lum, rfl, fun hf => ?_, fun hf htx => ?_⟩,
      fun g level kept hx => arbitrate_tx_restart hx, fun g item owned hx => arbitrate_tx_restart hx,
      fun g item owned hx => arbitrate_tx_restart hx, fun k => ?_, hs1, hs2, restartSensors_round _ _, fun i => ?_,
      warmRestart_port hrole⟩
    · rw [harb1 hf]; rfl
    · rw [harb2 hf htx]; exact ⟨rfl, rfl⟩
    · exact (congrArg (fun v : Vector Holder 32 => v[k]) hs3).trans (by simp [Holder.empty])
    · refine (ofFn_get _ i).trans ?_
      cases hc : configured s i with
      | true => exact (if_pos hc).trans rfl
      | false => exact (if_neg (by rw [show configured (placeReply p _ .ok [] s) i = _ from hc]; simp)).trans rfl

end Sys2Proof.Proofs
end

section
/-! PROOFS. Recomposition in the words of the statements (R68, R70, R98), and the accepted tuning requests (R10 to R12). -/

namespace Sys2Proof.Proofs

open Sys2Proof Sys2Proof.Machine Sys2Proof.Safety Sys2Proof.Laws

/-! ## Groups by segment -/

/-- The groups in ascending order are the bands of the segments in ascending order (R2). -/
theorem finRange_groups : List.finRange 48 = (List.finRange 16).flatMap fun i => (List.finRange 3).map (groupOf i) := by
  decide +kernel

/-- What one element of a list without repeats contributes alone is all that there is. -/
theorem flatMap_single {α β : Type} [DecidableEq α] (i : α) (x : List β) : ∀ l : List α, l.Nodup → i ∈ l →
    (l.flatMap fun j => if j = i then x else []) = x := by
  intro l
  induction l with
  | nil => intro _ h; cases h
  | cons a l ih =>
    intro hn hi
    obtain ⟨ha, hn⟩ := List.nodup_cons.mp hn
    rw [List.flatMap_cons]
    by_cases e : a = i
    · subst e
      have hrest : (l.flatMap fun j => if j = a then x else []) = [] :=
        List.flatMap_eq_nil_iff.mpr fun j hj => if_neg fun (e : j = a) => ha (e ▸ hj)
      rw [if_pos rfl, hrest, List.append_nil]
    · rw [if_neg e, ih hn ((List.mem_cons.mp hi).resolve_left (Ne.symm e)), List.nil_append]

/-- The groups of a segment below a band count, in ascending order. -/
theorem filter_groups (i : SegId) (n : Nat) :
    ((List.finRange 48).filter fun g => decide (segOf g = i) && decide ((bandOf g).val < n)) =
      (bandsBelow n).map (groupOf i) := by
  have hseg : ∀ j : SegId, ((List.finRange 3).map (groupOf j)).filter
      (fun g => decide (segOf g = i) && decide ((bandOf g).val < n)) =
        if j = i then (bandsBelow n).map (groupOf i) else [] := by
    intro j
    rw [List.filter_map]
    by_cases h : j = i
    · subst h
      simp only [Function.comp_def, segOf_groupOf, bandOf_groupOf, decide_true, Bool.true_and, if_true]
      rfl
    · simp [Function.comp_def, h]
  rw [finRange_groups, List.filter_flatMap]
  simp only [hseg]
  exact flatMap_single i _ _ (List.nodup_finRange 16) (List.mem_finRange i)

/-! ## Demands handed down in order -/

/-- Placing a level puts no other group into the queue or out of it while nothing is sent. -/
theorem queued_placed {k : Link} (hs : k.state = .draining ∨ k.state = .paused) (unsent : Bool) (a g : GroupId) (n : Nat) :
    queued (placed unsent a n k) g = queued k g := by
  unfold placed
  split
  · unfold queued
    dsimp only
    rw [List.any_map]
    congr 1; funext e
    simp only [Function.comp_apply]
    split
    · next h => rw [← h]
    · rfl
  · rw [if_pos (.inr hs)]

@[simp] theorem placed_state (unsent : Bool) (g : GroupId) (n : Nat) (k : Link) : (placed unsent g n k).state = k.state := by
  unfold placed
  split
  · rfl
  · split
    · rfl
    · rw [arbitrate_state]

/-- What a demand makes of a group's record reads of the link only whether the group's level is queued or marked. -/
theorem demandedGroup_placed (z : StepSizes) (a g : GroupId) (n m : Nat) (unsent : Bool) (k : Link) (r : Group) :
    demandedGroup z g n (placed unsent a m k) r = demandedGroup z g n k r := by
  unfold demandedGroup
  rw [placed_state]
  by_cases hs : k.state = .draining ∨ k.state = .paused
  · rw [queued_placed hs]
  · push Not at hs
    have h1 : (k.state == .draining) = false := by simpa using hs.1
    have h2 : (k.state == .paused) = false := by simpa using hs.2
    rw [h1, h2]
    simp

/-- The link once the group's demand is handed to it. -/
def linkDemanded (z : StepSizes) (level : Nat) (l : Lum) (k : Link) (g : GroupId) : Link :=
  match l.groups[g] with
  | none => k
  | some r => if stepsAtOnce level r then placed r.unsent g (oneStep z r.present level) k else k

theorem demandedGroup_linkDemanded (z z' : StepSizes) (a g : GroupId) (n m : Nat) (l : Lum) (k : Link) (r : Group) :
    demandedGroup z g n (linkDemanded z' m l k a) r = demandedGroup z g n k r := by
  unfold linkDemanded
  split
  · rfl
  · split
    · exact demandedGroup_placed ..
    · rfl

theorem demand_link_eq (z : StepSizes) (g : GroupId) (n : Nat) (l : Lum) :
    (demand z g n l).link = linkDemanded z n l l.link g := by
  rw [demand_link]; unfold linkDemanded
  cases l.groups[g] <;> rfl

/-- Demands handed to groups one after the other, none twice: each record changes by its own demand and the link as it
stood, and the levels are placed in order. -/
theorem foldl_demand (want : GroupId → Nat) (z : SegId → StepSizes) : ∀ (gs : List GroupId) (l : Lum), gs.Nodup →
    (∀ g : GroupId, (gs.foldl (fun l g => demand (z (segOf g)) g (want g) l) l).groups[g] =
      if g ∈ gs then l.groups[g].map (demandedGroup (z (segOf g)) g (want g) l.link) else l.groups[g]) ∧
    (gs.foldl (fun l g => demand (z (segOf g)) g (want g) l) l).link =
      gs.foldl (fun k g => linkDemanded (z (segOf g)) (want g) l k g) l.link := by
  intro gs
  induction gs with
  | nil => exact fun l _ => ⟨fun g => rfl, rfl⟩
  | cons a gs ih =>
    intro l hn
    obtain ⟨ha, hn⟩ := List.nodup_cons.mp hn
    obtain ⟨hg, hl⟩ := ih (demand (z (segOf a)) a (want a) l) hn
    have hother : ∀ g, g ≠ a → (demand (z (segOf a)) a (want a) l).groups[g] = l.groups[g] := fun g h =>
      demand_other _ _ _ _ _ h.symm
    refine ⟨fun g => ?_, ?_⟩
    · rw [List.foldl_cons, hg]
      by_cases hga : g = a
      · subst hga
        rw [if_neg ha, if_pos List.mem_cons_self, demand_groups, updAt_get, if_pos rfl]
      · rw [hother g hga, demand_link_eq]
        simp only [List.mem_cons, hga, false_or]
        congr 2; funext r
        exact demandedGroup_linkDemanded ..
    · rw [List.foldl_cons, List.foldl_cons, hl, demand_link_eq]
      refine List.foldl_ext _ _ _ fun k g hmem => ?_
      have hne : g ≠ a := fun e => ha (e ▸ hmem)
      unfold linkDemanded
      rw [hother g hne]

/-- Handing demands down is handing them to the chosen groups in ascending order (R98). -/
theorem foldl_demand_eq_handedDown (chosen : GroupId → Bool) (want : GroupId → Nat) (z : SegId → StepSizes) (l : Lum) :
    ((List.finRange 48).filter chosen).foldl (fun l g => demand (z (segOf g)) g (want g) l) l =
      handedDown chosen want z l := by
  obtain ⟨hg, hl⟩ := foldl_demand want z _ l ((List.nodup_finRange 48).filter chosen)
  have hgroups : (((List.finRange 48).filter chosen).foldl (fun l g => demand (z (segOf g)) g (want g) l) l).groups =
      (handedDown chosen want z l).groups := vector_ext fun g => by
    rw [hg, handedDown, ofFn_get]
    simp only [List.mem_filter, List.mem_finRange, true_and]
  have hlink : (((List.finRange 48).filter chosen).foldl (fun l g => demand (z (segOf g)) g (want g) l) l).link =
      (handedDown chosen want z l).link := by
    rw [hl, handedDown, List.foldl_filter]
    refine show _ = List.foldl _ l.link _ from List.foldl_ext _ _ _ fun k g _ => ?_
    unfold linkDemanded
    cases l.groups[g] with
    | none => exact ite_self _
    | some r => cases chosen g <;> rfl
  exact (congrArg₂ Lum.mk hgroups hlink :)

/-- The step sizes of the model are those of R100. -/
theorem stepSizes_eq (s : State) (i : SegId) : stepSizes s i = stepOf s i := by
  unfold stepSizes stepOf
  cases modeOf s i <;> rfl

/-- The recomposition of a configured segment (R70). -/
theorem recompose_recomposed {i : SegId} {s : State} (hc : configured s i = true) :
    (recompose i s).lum =
      recomposed (fun j => maskHas (maskOf i) j && configured (recompose i s) j) (recompose i s) s.lum := by
  have hchosen : (fun g : GroupId => (maskHas (maskOf i) (segOf g) && configured (recompose i s) (segOf g)) &&
      decide ((bandOf g).val < (segCfg (recompose i s) (segOf g)).bandCount)) =
      fun g => decide (segOf g = i) && decide ((bandOf g).val < (segCfg s i).bandCount) := by
    funext g
    by_cases h : segOf g = i
    · have hc' : configured (recompose i s) i = true := hc
      rw [h, maskHas_maskOf, hc']; simp only [decide_true, Bool.true_and]; rfl
    · rw [maskHas_maskOf]; simp [h, Ne.symm h]
  rw [recomposed, hchosen, ← foldl_demand_eq_handedDown, filter_groups, List.foldl_map]
  simp only [segOf_groupOf, bandOf_groupOf]
  refine List.foldl_ext _ _ _ fun l b _ => ?_
  rw [stepSizes_eq]; rfl

/-! ## SEG_TUNE and BAND_SET accepted (R10 to R12) -/

theorem clampTo_eq_self {lo hi n : Nat} (h : lo ≤ hi) : clampTo lo hi n = n ↔ lo ≤ n ∧ n ≤ hi := by
  rw [clampTo_eq h]; omega

/-- Nothing is brought into range exactly where every value lies in its range (R10). -/
theorem clampTuning_eq_self {v pp db nu nd su sd f : Nat} :
    clampTuning ⟨v, pp, db, nu, nd, su, sd, f⟩ = ⟨v, pp, db, nu, nd, su, sd, f⟩ ↔
      v ≤ 2000 ∧ 100 ≤ pp ∧ pp ≤ 2000 ∧ pp % 50 = 0 ∧ db ≤ 50 ∧ nu ≤ 6 ∧ nd ≤ 6 ∧ 1 ≤ su ∧ su ≤ 100 ∧ 1 ≤ sd ∧ sd ≤ 100 ∧
        f ≤ 1000 := by
  have hstep : clampStep 100 2000 50 pp = pp ↔ 100 ≤ pp ∧ pp ≤ 2000 ∧ pp % 50 = 0 := by
    unfold clampStep
    split
    · omega
    · split <;> omega
  simp only [clampTuning, Tuning.mk.injEq, hstep, clampTo_eq_self (show 1 ≤ 100 by omega), inf_eq_left]
  simp only [and_assoc]

/-- The eight tuning fields as R10 writes them. -/
theorem tuneConfig_clampTuning (v pp db nu nd su sd f : Nat) (c : SegConfig) :
    tuneConfig (clampTuning ⟨v, pp, db, nu, nd, su, sd, f⟩) c =
      { c with
        target := min v 2000
        passPeriod := if pp < 100 then 100 else if 2000 < pp then 2000 else pp - pp % 50
        deadBand := min db 50, nUp := min nu 6, nDown := min nd 6
        sUp := max 1 (min su 100), sDown := max 1 (min sd 100), fallback := min f 1000 } := by
  have hstep : clampStep 100 2000 50 pp = if pp < 100 then 100 else if 2000 < pp then 2000 else pp - pp % 50 := by
    unfold clampStep
    split
    · rfl
    · split
      · rfl
      · omega
  simp only [tuneConfig, clampTuning, hstep, clampTo_eq (show 1 ≤ 100 by omega)]

theorem clampBand_eq_self {r k lo hi : Nat} :
    clampBand ⟨r, k, lo, hi⟩ = ⟨r, k, lo, hi⟩ ↔ r ≤ 256 ∧ 1 ≤ k ∧ k ≤ 4095 ∧ lo ≤ 1000 ∧ hi ≤ 1000 := by
  simp only [clampBand, BandConfig.mk.injEq, clampTo_eq_self (show 1 ≤ 4095 by omega), inf_eq_left]
  simp only [and_assoc]

theorem segTune_accepted {i : SegId} {x : Tuning} {s : State} (hc : configured s i = true) (hm : modeOf s i ≠ .calibrating) :
    segTune i.val x s = accept (clampTuning x != x) (retune i (tuneConfig (clampTuning x)) s) := by
  rw [segTune, segId?_val]
  exact (if_neg (by simp [hc])).trans (if_neg hm)

theorem bandSet_accepted {i : SegId} {b : BandId} {q : BandConfig} {s : State} (hc : configured s i = true)
    (hb : b.val < (segCfg s i).bandCount) (hm : modeOf s i ≠ .calibrating) (hq : min q.lmin 1000 ≤ min q.lmax 1000) :
    bandSet i.val b.val q s =
      accept (clampBand q != q) (retune i (fun c => { c with bands := c.bands.set b (clampBand q) }) s) := by
  have hq : ¬ (clampBand q).lmax < (clampBand q).lmin := Nat.not_lt.mpr hq
  rw [bandSet, segId?_val]
  refine (if_neg (by simp [hc])).trans ((if_neg (by omega)).trans ((if_neg hm).trans ((if_neg hq).trans ?_)))
  rw [bandId?_val]

/-- A record rewritten leaves the segment recomposed by the new record (R12, R70). -/
theorem retune_recomposed {i : SegId} {f : SegConfig → SegConfig} {s : State} (hc : configured s i = true)
    (hf : ∀ c, (f c).configured = c.configured) : Recomposed (maskOf i) s (retune i f s) := by
  refine recompose_recomposed (s := updCtrl i invalidate (updSeg i f s)) ?_
  rw [configured, segCfg, updCtrl_layout, updSeg_layout, updAt_get, if_pos rfl, hf]
  exact hc

/-- Settles O28. -/
theorem tuneAndBandAccepted : Obligations.TuneAndBandAccepted := by
  unfold Obligations.TuneAndBandAccepted
  refine ⟨fun p link tag i v pp db nu nd su sd f s h hc hm => ?_, fun p link tag i b r k lo hi s h hc hb hm hq => ?_⟩
  · refine ⟨retune i (tuneConfig (clampTuning ⟨v, pp, db, nu, nd, su, sd, f⟩)) s, ?_, ?_, rfl,
      retune_recomposed hc fun _ => rfl, rfl, rfl, rfl, rfl, rfl, rfl, rfl⟩
    · rw [exec_segTune h, segTune_accepted hc hm]
      have hst := okStatus_eq (clamped := clampTuning ⟨v, pp, db, nu, nd, su, sd, f⟩ != ⟨v, pp, db, nu, nd, su, sd, f⟩)
        (bne_iff_ne.trans (not_congr clampTuning_eq_self))
      rw [← hst]; rfl
    · rw [← tuneConfig_clampTuning]; rfl
  · refine ⟨retune i (fun c => { c with bands := c.bands.set b (clampBand ⟨r, k, lo, hi⟩) }) s, ?_, ?_, rfl,
      retune_recomposed hc fun _ => rfl, rfl, rfl, rfl, rfl, rfl, rfl, rfl⟩
    · rw [exec_bandSet h, bandSet_accepted hc hb hm hq]
      have hst := okStatus_eq (clamped := clampBand ⟨r, k, lo, hi⟩ != ⟨r, k, lo, hi⟩)
        (bne_iff_ne.trans (not_congr clampBand_eq_self))
      rw [← hst]; rfl
    · have hk : clampTo 1 4095 k = max 1 (min k 4095) := clampTo_eq (by omega) k
      rw [← hk]; rfl

end Sys2Proof.Proofs
end

section
/-! PROOFS. What the link keeps of itself while levels are placed, and the accepted SEG_DEFINE (R4 to R6). -/

namespace Sys2Proof.Proofs

open Sys2Proof Sys2Proof.Machine Sys2Proof.Safety Sys2Proof.Laws

/-! ## Levels placed while the link runs on (R115, R117) -/

/-- The link runs on: a transmission continues, and only the queue, the next transmission and the last grant move. -/
structure RunsOn (k k' : Link) : Prop where
  state : k'.state = k.state
  unit : k'.unit = k.unit
  record : k'.record = k.record
  pauseInForce : k'.pauseInForce = k.pauseInForce
  faultReported : k'.faultReported = k.faultReported
  tx : ∀ x, k.tx = some x → k'.tx = some x

theorem RunsOn.refl (k : Link) : RunsOn k k := ⟨rfl, rfl, rfl, rfl, rfl, fun _ h => h⟩

theorem RunsOn.trans {a b c : Link} (h : RunsOn a b) (k : RunsOn b c) : RunsOn a c :=
  ⟨k.state.trans h.state, k.unit.trans h.unit, k.record.trans h.record, k.pauseInForce.trans h.pauseInForce,
    k.faultReported.trans h.faultReported, fun x hx => k.tx x (h.tx x hx)⟩

/-- What runs on differs in the queue, the transmission and the last grant at most. -/
theorem RunsOn.eq_with {k k' : Link} (h : RunsOn k k') :
    k' = { k with tx := k'.tx, queue := k'.queue, lastGrant := k'.lastGrant } := by
  obtain ⟨hs, hu, hr, hp, hf, _⟩ := h
  cases k; cases k'
  simp only at hs hu hr hp hf
  subst hs hu hr hp hf
  rfl

/-- The arbiter grants a free link alone. -/
theorem runsOn_arbitrate (k : Link) : RunsOn k (arbitrate k) := by
  refine ⟨arbitrate_state k, arbitrate_unit k, arbitrate_record k, arbitrate_pauseInForce k, arbitrate_faultReported k,
    fun x hx => ?_⟩
  rw [arbitrate, hx, Option.isNone_some, Bool.and_false]
  exact hx

theorem runsOn_placed (unsent : Bool) (g : GroupId) (n : Nat) (k : Link) : RunsOn k (placed unsent g n k) := by
  unfold placed
  split
  · exact ⟨rfl, rfl, rfl, rfl, rfl, fun _ h => h⟩
  · split
    · exact .refl k
    · exact RunsOn.trans (b := { k with queue := k.queue ++ [(g, n)] }) ⟨rfl, rfl, rfl, rfl, rfl, fun _ h => h⟩
        (runsOn_arbitrate _)

theorem queued_eq_false {k : Link} {g : GroupId} : queued k g = false ↔ ∀ e ∈ k.queue, e.1 ≠ g := by
  simp [queued]

/-- The arbiter takes from the queue alone. -/
theorem mem_of_mem_arbitrate {k : Link} {e : GroupId × Nat} (h : e ∈ (arbitrate k).queue) : e ∈ k.queue := by
  rcases arbitrate_cases k with ⟨hk, _⟩ | ⟨_, _, _, _, hk⟩ | ⟨g, n, rest, _, _, hq, _, hk⟩
  · rwa [hk] at h
  · rwa [hk] at h
  · rw [hk] at h; rw [hq]; exact List.mem_cons_of_mem _ h

/-- Placing a level queues no other group. -/
theorem queued_placed_other {g a : GroupId} (hga : a ≠ g) {k : Link} (hq : queued k g = false) (unsent : Bool) (n : Nat) :
    queued (placed unsent a n k) g = false := by
  rw [queued_eq_false] at hq ⊢
  unfold placed
  split
  · intro e he
    obtain ⟨e₀, he₀, rfl⟩ := List.mem_map.mp he
    split
    · exact hga
    · exact hq e₀ he₀
  · split
    · exact hq
    · intro e he
      rcases List.mem_append.mp (mem_of_mem_arbitrate he) with he | he
      · exact hq e he
      · rw [List.mem_singleton.mp he]; exact hga

/-! ## New groups (R6, R97) -/

/-- The level of a new group goes to the link as any changed level (R115). -/
theorem createGroup_link (level : Nat) (l : Lum) (g : GroupId) :
    (createGroup level l g).link = placed false g level l.link :=
  placeLevel_link (l := { l with groups := l.groups.set g (some (newGroup level)) }) (r := newGroup level)
    ((set_get _ g g _).trans (if_pos rfl)) level

/-- The level of a group appended to the queue, at which the arbiter looks (R115). -/
def appended (level : Nat) (k : Link) (g : GroupId) : Link := arbitrate { k with queue := k.queue ++ [(g, level)] }

/-- The placing of the level of a group that is not queued, by the link state (R115). -/
theorem placed_unqueued {g : GroupId} {k : Link} (h : queued k g = false) (level : Nat) :
    placed false g level k = if k.state = .draining ∨ k.state = .paused then k else appended level k g := by
  rw [placed, if_neg (by simp [h])]
  simp only [Bool.false_eq_true, false_or, appended]

/-- Groups created one after the other at a level, none of them queued. -/
theorem foldl_createGroup (level : Nat) : ∀ (gs : List GroupId) (l : Lum), gs.Nodup → (∀ g ∈ gs, queued l.link g = false) →
    (∀ g : GroupId, (gs.foldl (createGroup level) l).groups[g] =
      if g ∈ gs then
        some { newGroup level with unsent := decide (l.link.state = .draining ∨ l.link.state = .paused) }
      else l.groups[g]) ∧
    (gs.foldl (createGroup level) l).link =
      if l.link.state = .draining ∨ l.link.state = .paused then l.link else gs.foldl (appended level) l.link := by
  intro gs
  induction gs with
  | nil => exact fun l _ _ => ⟨fun g => rfl, (ite_self _).symm⟩
  | cons a gs ih =>
    intro l hn hq
    obtain ⟨ha, hn⟩ := List.nodup_cons.mp hn
    have hqa := hq a List.mem_cons_self
    have hlink := createGroup_link level l a
    have hstate : (createGroup level l a).link.state = l.link.state := by rw [hlink, placed_state]
    have hrest : ∀ g ∈ gs, queued (createGroup level l a).link g = false := fun g hg => by
      rw [hlink]
      exact queued_placed_other (fun (e : a = g) => ha (e ▸ hg)) (hq g (List.mem_cons_of_mem _ hg)) _ _
    obtain ⟨hg, hl⟩ := ih (createGroup level l a) hn hrest
    refine ⟨fun g => ?_, ?_⟩
    · rw [List.foldl_cons, hg, hstate, createGroup_groups, set_get, hqa]
      by_cases e : a = g
      · subst e
        rw [if_neg ha, if_pos rfl, if_pos List.mem_cons_self, Bool.not_false, Bool.true_and]
        simp only [Bool.decide_or]; rfl
      · simp only [List.mem_cons, Ne.symm e, e, false_or, if_false]
    · rw [List.foldl_cons, hl, hstate, hlink, placed_unqueued hqa]
      by_cases e : l.link.state = .draining ∨ l.link.state = .paused
      · simp only [if_pos e]
      · simp only [if_neg e]; rfl

/-- Where the arbiter has nothing to do the levels only join the queue. -/
theorem foldl_appended_waiting (level : Nat) : ∀ (gs : List GroupId) (k : Link), sends k = false ∨ k.tx ≠ none →
    gs.foldl (appended level) k = { k with queue := k.queue ++ gs.map fun g => (g, level) } := by
  intro gs
  induction gs with
  | nil => intro k _; simp
  | cons a gs ih =>
    intro k hk
    have hstep : appended level k a = { k with queue := k.queue ++ [(a, level)] } := by
      rw [appended, arbitrate, if_neg]
      rcases hk with hk | hk
      · rw [show sends { k with queue := k.queue ++ [(a, level)] } = false from hk]; simp
      · simp [hk]
    rw [List.foldl_cons, hstep, ih { k with queue := k.queue ++ [(a, level)] } hk]
    simp

theorem runsOn_foldl_createGroup (level : Nat) (gs : List GroupId) (l : Lum) :
    RunsOn l.link (gs.foldl (createGroup level) l).link :=
  List.foldlRecOn gs _ (motive := fun l' : Lum => RunsOn l.link l'.link) (.refl _) fun l' h a _ => by
    rw [createGroup_link]; exact h.trans (runsOn_placed _ _ _ _)

/-! ## Assignment (R3, R25, R26) -/

theorem assigned_iff {y : Layout} {k : SensorId} : assigned y k = true ↔ ∃ j : SegId, segUses y.segs[j] k = true := by
  simp [assigned]

/-- A layout that assigns further sensors empties their holders and voids no poll (R25). -/
theorem reassign_assigning {a b : Layout} (h : ∀ k, assigned a k = true → assigned b k = true) (x : SensorLink) :
    reassign a b x = { x with
      holders := Vector.ofFn fun k =>
        if assigned a k = false ∧ assigned b k = true then ⟨.noData, none, false, 0, none⟩ else x.holders[k] } := by
  have hholders : ∀ k : SensorId, (if assigned a k = assigned b k then x.holders[k] else Holder.empty) =
      if assigned a k = false ∧ assigned b k = true then ⟨.noData, none, false, 0, none⟩ else x.holders[k] := fun k => by
    have := h k
    cases ha : assigned a k <;> cases hb : assigned b k <;> simp_all [Holder.empty]
  have hpoll : ∀ q : Poll, (if assigned a q.channel && !assigned b q.channel then { q with void := true } else q) = q :=
    fun q => if_neg (by have := h q.channel; cases ha : assigned a q.channel <;> simp_all)
  simp only [reassign, hholders, hpoll, Option.map_id']

/-! ## SEG_DEFINE accepted (R4 to R6) -/

/-- The secondary sensor is the one its byte names (R4). -/
theorem secondary?_eq {c : Nat} {q : Option SensorId} (h : secondary? c = some q) (k : SensorId) :
    q = some k ↔ c = k.val := by
  unfold secondary? at h
  split at h
  · cases h
    exact ⟨nofun, fun e => by have := k.isLt; omega⟩
  · unfold sensorId? at h
    split at h
    · cases h
      exact ⟨fun e => (by cases e; rfl), fun e => congrArg some (Fin.ext e)⟩
    · cases h

theorem segDefine_accepted {i : SegId} {n : Nat} {a : SensorId} {c : Nat} {q : Option SensorId} {s : State}
    (hl : s.layout.lock = false) (hq : secondary? c = some q) (hc : configured s i = false) :
    segDefine i.val n a.val c s =
      accept (clampTo 1 3 n != n || (if q = some a then none else q) != q)
        (defineSegment i (definedConfig (clampTo 1 3 n) a (if q = some a then none else q)) s) := by
  rw [segDefine, if_neg (by simp [hl]), segId?_val, sensorId?_lt a.isLt, hq]
  exact if_neg (by simp [hc])

/-- The record a controller starts with spelled out (R5, R51). -/
theorem definedCtrl_definedConfig (bands : Nat) (a : SensorId) (q : Option SensorId) :
    definedCtrl (definedConfig bands a q) =
      { mode := .start, good := 0, miss := 0, filter := none, lastRaw := none, bandDaylight := Vector.replicate 3 none
        outputs := Vector.replicate 3 ⟨0, false⟩
        startSnap := Vector.ofFn fun b => if b.val < bands then 800 else 0
        heldSnap := Vector.ofFn fun b => if b.val < bands then 800 else 0
        glare := false, passTimer := some 500 } := rfl

/-- A new segment takes no sensor from another (R3). -/
theorem assigned_of_defined {i : SegId} {cfg : SegConfig} {s : State} (hi : configured s i = false) {k : SensorId}
    (h : assigned s.layout k = true) : assigned (defineSegment i cfg s).layout k = true := by
  obtain ⟨j, hj⟩ := assigned_iff.mp h
  have hij : i ≠ j := by
    rintro rfl
    rw [segUses, show s.layout.segs[i].configured = false from hi] at hj
    cases hj
  refine assigned_iff.mpr ⟨j, ?_⟩
  rw [show (defineSegment i cfg s).layout.segs[j] = s.layout.segs[j] from (updAt_get _ _ _ _).trans (if_neg hij)]
  exact hj

/-- The groups of a segment that is not configured are not queued (R2, R8). -/
theorem queued_of_unconfigured {s : State} (he : ExistenceLaw s) (hq : QueueLaw s.lum) {g : GroupId}
    (hc : configured s (segOf g) = false) : queued s.lum.link g = false := by
  refine queued_eq_false.mpr fun e hmem heq => ?_
  obtain ⟨r, hr, _⟩ := hq.2 e hmem
  have hex := he g
  rw [hc, Bool.false_and, groupExists, ← heq, Option.mem_def.mp hr] at hex
  cases hex

/-- The groups and the link of an accepted SEG_DEFINE: those of its bands are created in ascending order. -/
theorem defineSegment_lum {i : SegId} {cfg : SegConfig} {s : State} (hi : configured s i = false) (he : ExistenceLaw s)
    (hq : QueueLaw s.lum) :
    (∀ g : GroupId, (defineSegment i cfg s).lum.groups[g] =
      if g ∈ (bandsBelow cfg.bandCount).map (groupOf i) then
        some { newGroup cfg.fallback with unsent := decide (s.lum.link.state = .draining ∨ s.lum.link.state = .paused) }
      else s.lum.groups[g]) ∧
    (defineSegment i cfg s).lum.link =
      if s.lum.link.state = .draining ∨ s.lum.link.state = .paused then s.lum.link
      else ((bandsBelow cfg.bandCount).map (groupOf i)).foldl (appended cfg.fallback) s.lum.link := by
  refine foldl_createGroup _ _ s.lum (((List.nodup_finRange 3).filter _).map (groupOf_injective i)) fun g hg => ?_
  obtain ⟨b, _, rfl⟩ := List.mem_map.mp hg
  exact queued_of_unconfigured he hq (by rw [segOf_groupOf]; exact hi)

/-- Settles O26. -/
theorem segDefineAccepted : Obligations.SegDefineAccepted := by
  unfold Obligations.SegDefineAccepted
  intro p link tag i n a c s h hl hc hi he hq
  obtain ⟨q, hsec⟩ := secondary?_some hc
  have hq' := secondary?_eq hsec
  have hclamp : clampTo 1 3 n = max 1 (min 3 n) := by rw [clampTo_eq (by omega)]; omega
  have hsecond : ∀ k, (if q = some a then none else q) = some k ↔ c = k.val ∧ c ≠ a.val := fun k => by
    rw [← hq' k, Ne, ← hq' a]
    split
    · next e => simp [e]
    · next e => simp [e]
  have hstatus : (clampTo 1 3 n != n || (if q = some a then none else q) != q) = true ↔ ¬ (1 ≤ n ∧ n ≤ 3 ∧ c ≠ a.val) := by
    have h1 : clampTo 1 3 n = n ↔ 1 ≤ n ∧ n ≤ 3 := clampTo_eq_self (by omega)
    have h2 : (if q = some a then none else q) = q ↔ c ≠ a.val := by
      rw [Ne, ← hq' a]
      split
      · next e => simp [e]
      · next e => simp [e]
    rw [Bool.or_eq_true, bne_iff_ne, bne_iff_ne, Ne, h1, Ne, h2, ← not_and_or, and_assoc]
  have hacc := segDefine_accepted (n := n) (a := a) hl hsec hi
  revert hsecond hstatus hacc
  generalize (if q = some a then none else q) = second
  generalize hb : clampTo 1 3 n = bands at hclamp
  intro hsecond hstatus hacc
  obtain ⟨hgroups, hlink⟩ := defineSegment_lum (cfg := definedConfig bands a second) hi he hq
  refine ⟨defineSegment i (definedConfig bands a second) s, bands, second, ?_, hclamp, hsecond, rfl,
    congrArg (s.ctrls.set i) (definedCtrl_definedConfig bands a second), fun b => ?_, fun g hg => ?_, ?_, fun hs => ?_,
    fun hs => ?_, fun hs => ?_, reassign_assigning (fun k => assigned_of_defined hi) _, rfl, rfl, rfl, rfl, rfl, rfl⟩
  · rw [exec_segDefine h, hacc, ← okStatus_eq hstatus]; rfl
  · have hnone : s.lum.groups[groupOf i b] = none := by
      have hex := he (groupOf i b)
      rw [segOf_groupOf, hi, Bool.false_and, groupExists, Option.isSome_eq_false_iff, Option.isNone_iff_eq_none] at hex
      exact hex
    rw [hgroups, hnone]
    simp only [mem_map_groupOf, true_and]
    rfl
  · rw [hgroups, if_neg fun hmem => ?_]
    obtain ⟨b, _, rfl⟩ := List.mem_map.mp hmem
    exact hg (segOf_groupOf i b)
  · exact (runsOn_foldl_createGroup _ _ s.lum).eq_with
  · rw [hlink, if_pos hs]
  · rw [hlink, if_neg (by rcases hs with hs | hs <;> simp [hs])]
    rfl
  · have hwait : sends s.lum.link = false ∨ s.lum.link.tx ≠ none :=
      hs.elim (fun hs => .inr hs.2) fun hs => .inl (by simp [sends, hs])
    rw [hlink, if_neg (by rcases hs with ⟨hs, _⟩ | hs <;> simp [hs]), foldl_appended_waiting _ _ _ hwait, List.map_map]
    exact ⟨rfl, rfl, rfl⟩

end Sys2Proof.Proofs
end

section
/-! PROOFS. The accepted SEG_REMOVE (R7 to R9): what the removal takes away stays away while the other segments are informed,
and in a state that keeps the joint law informing them changes nothing. -/

namespace Sys2Proof.Proofs

open Sys2Proof Sys2Proof.Machine Sys2Proof.Safety Sys2Proof.Laws

/-! ## Changes away from a segment -/

/-- Nothing that the link holds is of the segment: no queue entry, and no level frame that is still to be recorded (R8). -/
structure LinkClear (i : SegId) (k : Link) : Prop where
  queue : ∀ e ∈ k.queue, segOf e.1 ≠ i
  tx : ∀ g : GroupId, segOf g = i → ∀ level, k.tx ≠ some (.setLevel g level true)

theorem LinkClear.arbitrate {i : SegId} {k : Link} (h : LinkClear i k) : LinkClear i (arbitrate k) := by
  refine ⟨fun e he => h.queue e (mem_of_mem_arbitrate he), fun g hg level => ?_⟩
  rcases arbitrate_cases k with ⟨hk, _⟩ | ⟨_, _, _, _, hk⟩ | ⟨a, n, rest, _, _, hq, _, hk⟩ <;> rw [hk]
  · exact h.tx g hg level
  · simp
  · have ha : segOf a ≠ i := h.queue (a, n) (hq ▸ List.mem_cons_self)
    intro e
    injection e with e; injection e with e
    exact ha (e ▸ hg)

theorem LinkClear.placed {i : SegId} {k : Link} (h : LinkClear i k) {g : GroupId} (hg : segOf g ≠ i) (unsent : Bool) (n : Nat) :
    LinkClear i (placed unsent g n k) := by
  unfold Sys2Proof.Safety.placed
  split
  · refine ⟨fun e he => ?_, h.tx⟩
    obtain ⟨e₀, he₀, rfl⟩ := List.mem_map.mp he
    split
    · exact hg
    · exact h.queue e₀ he₀
  · split
    · exact h
    · refine LinkClear.arbitrate ⟨fun e he => ?_, h.tx⟩
      rcases List.mem_append.mp he with he | he
      · exact h.queue e he
      · rw [List.mem_singleton.mp he]; exact hg

/-- Groups and link change for other segments alone: no group of the segment changes, none is created or removed, the link
runs on, and what is clear of the segment stays so. -/
structure LumAway (i : SegId) (l l' : Lum) : Prop where
  groups : ∀ g : GroupId, segOf g = i → l'.groups[g] = l.groups[g]
  exist : ∀ g : GroupId, groupExists l' g = groupExists l g
  runsOn : RunsOn l.link l'.link
  clear : LinkClear i l.link → LinkClear i l'.link

theorem LumAway.refl (i : SegId) (l : Lum) : LumAway i l l := ⟨fun _ _ => rfl, fun _ => rfl, .refl _, id⟩

theorem LumAway.trans {i : SegId} {a b c : Lum} (h : LumAway i a b) (k : LumAway i b c) : LumAway i a c :=
  ⟨fun g hg => (k.groups g hg).trans (h.groups g hg), fun g => (k.exist g).trans (h.exist g), h.runsOn.trans k.runsOn,
    k.clear ∘ h.clear⟩

/-- A demand handed to a group of another segment (R98). -/
theorem lumAway_demand {i : SegId} {g : GroupId} (hg : segOf g ≠ i) (z : StepSizes) (n : Nat) (l : Lum) :
    LumAway i l (demand z g n l) := by
  refine ⟨fun j hj => demand_other z g j n l fun e => hg (e ▸ hj), fun j => demand_exists z g j n l, ?_, fun h => ?_⟩
  all_goals rw [demand_link_eq]; unfold linkDemanded; split
  · exact .refl _
  · split
    · exact runsOn_placed ..
    · exact .refl _
  · exact h
  · split
    · exact h.placed hg _ _
    · exact h

/-- Only other segments' controllers, groups, queue entries and event sets change. -/
structure Away (i : SegId) (s t : State) : Prop where
  quiet : Quiet s t
  ctrl : t.ctrls[i] = s.ctrls[i]
  lum : LumAway i s.lum t.lum

theorem Away.refl (i : SegId) (s : State) : Away i s s := ⟨.refl s, rfl, .refl i s.lum⟩

theorem Away.trans {i : SegId} {s t u : State} (h : Away i s t) (k : Away i t u) : Away i s u :=
  ⟨h.quiet.trans k.quiet, k.ctrl.trans h.ctrl, h.lum.trans k.lum⟩

/-- Recomposing another segment (R70). -/
theorem lumAway_recompose {i j : SegId} (h : j ≠ i) (s : State) : LumAway i s.lum (recompose j s).lum :=
  List.foldlRecOn (bandsOf s j) _ (motive := fun l : Lum => LumAway i s.lum l) (.refl i s.lum) fun _ hl _ _ =>
    hl.trans (lumAway_demand (by rw [segOf_groupOf]; exact h) _ _ _)

/-- Informing any segment of a table change is away from an unconfigured one (R91). -/
theorem away_informSegment {i : SegId} {s : State} (hi : configured s i = false) (j : SegId) : Away i s (informSegment s j) := by
  refine ⟨quiet_informSegment s j, ?_, ?_⟩
  · by_cases h : j = i
    · subst h; rw [informSegment, if_neg (by simp [hi])]
    · exact informSegment_other s j i h
  · unfold informSegment
    split
    · next hj =>
      have hji : j ≠ i := by rintro rfl; rw [hi] at hj; cases hj
      have := lumAway_recompose hji (changeMode j (modeByCoverage (modeOf s j) (isLocked s j) (isHeld s j)) s)
      rwa [changeMode_lum] at this
    · exact .refl i s.lum

/-- Informing segments of a table change is away from an unconfigured one (R91). -/
theorem away_foldl_informSegment {i : SegId} {s : State} (hi : configured s i = false) (l : List SegId) :
    Away i s (l.foldl informSegment s) :=
  List.foldlRecOn l _ (motive := fun u : State => Away i s u) (.refl i s) fun u hu j _ =>
    hu.trans (away_informSegment (by rw [configured, segCfg, hu.quiet.layout]; exact hi) j)

/-! ## Informing settled segments -/

/-- In the right mode the coverage asks for no other (R56). -/
theorem modeByCoverage_of_right {s : State} {i : SegId} {m : Mode} (h : RightMode s i m) :
    modeByCoverage m (isLocked s i) (isHeld s i) = m := by
  obtain ⟨hu, hc, hl, hh⟩ := h
  cases hlock : isLocked s i <;> cases hhold : isHeld s i <;> cases m <;> simp_all [modeByCoverage]

/-- A demand equal to the old one changes nothing (R98). -/
theorem demand_of_demanded {z : StepSizes} {g : GroupId} {n : Nat} {l : Lum} (h : ∀ r ∈ l.groups[g], r.demanded = n) :
    demand z g n l = l := by
  unfold demand
  split
  · rfl
  · next r hr => exact if_pos (h r hr)

/-- Recomposing a composed segment changes nothing (R68, R70). -/
theorem recompose_of_composed {s : State} {i : SegId} (h : ComposedAt s i) : recompose i s = s := by
  have hlum : (recompose i s).lum = s.lum :=
    List.foldlRecOn (bandsOf s i) _ (motive := fun l : Lum => l = s.lum) rfl fun l hl b _ => by
      subst hl; exact demand_of_demanded (h b)
  exact congrArg s.setLum hlum

/-- A settled segment informed of a table change stays as it is (R56, R91). -/
theorem informSegment_of_settled {s : State} {i : SegId} (h : Settled s i) : informSegment s i = s := by
  unfold informSegment
  split
  · next hc => rw [modeByCoverage_of_right (h.mode.right hc), changeMode, if_pos rfl, recompose_of_composed h.composed]
  · rfl

/-! ## The removal before the other segments are informed -/

/-- The state in which the segments are informed of a removal. -/
def removedUninformed (i : SegId) (s : State) : State :=
  setEntries (takeOut (fun _ => true) (maskOf i) s.table.entries) (removedUntabled i s)

/-- The segments that a removal informs: those that share an entry with the removed one (R9, R91). -/
def sharing (i : SegId) (s : State) : List SegId := maskSegs (takenFrom (fun _ => true) (maskOf i) s.table.entries)

/-- The state of a removal when its segments are informed. -/
def removedInformed (i : SegId) (s : State) : State := (sharing i s).foldl informSegment (removedUninformed i s)

theorem removeSegment_informed (i : SegId) (s : State) :
    removeSegment i s = (removedInformed i s).setPorts ((removedInformed i s).ports.map (clearEventsAt i)) := rfl

theorem not_ownsGroup (i : SegId) (g : GroupId) : (!ownsGroup i g) = decide (segOf g ≠ i) := by
  rw [ownsGroup, beq_eq_decide, decide_not]

section
variable (i : SegId) (s : State)

theorem removedUninformed_configured : configured (removedUninformed i s) i = false := by
  rw [configured, show segCfg (removedUninformed i s) i = _ from removedUntabled_segCfg i s i, if_pos rfl]; rfl

theorem away_removedInformed : Away i (removedUninformed i s) (removedInformed i s) :=
  away_foldl_informSegment (removedUninformed_configured i s) _

/-- The link of a removal holds nothing of the segment (R8). -/
theorem removedUninformed_clear : LinkClear i (removedUninformed i s).lum.link := by
  refine ⟨fun e he => ?_, fun g hg level h => ?_⟩
  · have := (List.mem_filter.mp he).2
    rw [not_ownsGroup] at this
    exact of_decide_eq_true this
  · obtain ⟨x, _, hx⟩ := Option.map_eq_some_iff.mp h
    cases x with
    | setLevel a n kept =>
      injection hx with ha _ hk
      subst ha
      rw [not_ownsGroup, hg] at hk
      simp at hk
    | query => cases hx
    | window => cases hx

/-- A removal takes no sensor into use (R3). -/
theorem assigned_of_removed {k : SensorId} (h : assigned (removedUninformed i s).layout k = true) :
    assigned s.layout k = true := by
  obtain ⟨j, hj⟩ := assigned_iff.mp h
  have hcfg := (removedUntabled_segCfg i s j)
  have hj : segUses (segCfg (removedUntabled i s) j) k = true := hj
  rw [hcfg] at hj
  refine assigned_iff.mpr ⟨j, ?_⟩
  split at hj
  · cases hj
  · exact hj

/-- The table of a removal (R9). -/
theorem removedUninformed_table : (removedUninformed i s).table = { s.table with
    entries := s.table.entries.filterMap fun e =>
      if e.mask &&& ~~~maskOf i = 0 then none else some { e with mask := e.mask &&& ~~~maskOf i } } := by
  simp only [removedUninformed, setEntries_table, takeOut, maskMinus, if_true]
  rfl

theorem onlyEvents_removedUninformed : OnlyEvents s (removedUninformed i s) := (quiet_raiseEvent i .modeChange s).ports

end

/-- A layout that gives sensors up empties their holders and voids a poll of one (R26). -/
theorem reassign_releasing {a b : Layout} (h : ∀ k, assigned b k = true → assigned a k = true) (x : SensorLink) :
    reassign a b x = { x with
      holders := Vector.ofFn fun k =>
        if assigned a k = true ∧ assigned b k = false then ⟨.noData, none, false, 0, none⟩ else x.holders[k]
      poll := x.poll.map fun q =>
        if assigned a q.channel = true ∧ assigned b q.channel = false then { q with void := true } else q } := by
  have hholders : ∀ k : SensorId, (if assigned a k = assigned b k then x.holders[k] else Holder.empty) =
      if assigned a k = true ∧ assigned b k = false then ⟨.noData, none, false, 0, none⟩ else x.holders[k] := fun k => by
    have := h k
    cases ha : assigned a k <;> cases hb : assigned b k <;> simp_all [Holder.empty]
  simp only [reassign, hholders, Bool.and_eq_true, Bool.not_eq_true']

/-- In a state that keeps the joint law a removal leaves nothing for the informed segments to do (R56, R68). -/
theorem removedInformed_of_jointLaw {i : SegId} {s : State} (h : JointLaw s) (hm : modeOf s i ≠ .calibrating) :
    removedInformed i s = removedUninformed i s :=
  List.foldlRecOn (sharing i s) _ (motive := fun u : State => u = removedUninformed i s) rfl fun u hu j _ => by
    subst hu; exact informSegment_of_settled (settled_removed h hm j)

/-! ## SEG_REMOVE accepted (R7 to R9) -/

theorem segRemove_accepted {i : SegId} {s : State} (hl : s.layout.lock = false) (hc : configured s i = true)
    (hm : modeOf s i ≠ .calibrating) : segRemove i.val s = accept false (removeSegment i s) := by
  rw [segRemove, if_neg (by simp [hl]), segId?_val]
  exact (if_neg (by simp [hc])).trans (if_neg hm)

theorem removeSegment_ports (i : SegId) (s : State) (q : PortId) :
    (removeSegment i s).ports[q] = clearEventsAt i (removedInformed i s).ports[q] := by
  simp [removeSegment_informed]

/-- What a removal leaves of the transmission and the query unit (R8, R121). -/
theorem removed_progress (i : SegId) (s : State) :
    (∀ x, s.lum.link.tx = some x → (removeSegment i s).lum.link.tx = some
      (match x with
      | .setLevel g level kept => .setLevel g level (kept && decide (segOf g ≠ i))
      | .query g item owned => .query g item owned
      | .window g item owned => .window g item owned)) ∧
    (removeSegment i s).lum.link.unit =
      match s.lum.link.unit with
      | .idle => .idle
      | .waiting kept => .waiting (kept && decide (segOf s.lum.link.record.group ≠ i))
      | .inFlight kept => .inFlight (kept && decide (segOf s.lum.link.record.group ≠ i)) := by
  have hrun := (away_removedInformed i s).lum.runsOn
  refine ⟨fun x hx => hrun.tx _ ?_, hrun.unit.trans ?_⟩
  · have htx : (removedUninformed i s).lum.link.tx = s.lum.link.tx.map (txWithout (ownsGroup i)) := rfl
    rw [htx, hx, Option.map_some]
    cases x <;> simp only [txWithout, not_ownsGroup]
  · have hunit : (removedUninformed i s).lum.link.unit =
        unitWithout (ownsGroup i s.lum.link.record.group) s.lum.link.unit := rfl
    rw [hunit]
    cases s.lum.link.unit <;> simp only [unitWithout, not_ownsGroup]

/-- What stays of the other segments in a state that keeps the joint law (R8). -/
theorem removed_others {i : SegId} {s : State} (h : JointLaw s) (hm : modeOf s i ≠ .calibrating) :
    (removeSegment i s).lum.link.lastGrant = s.lum.link.lastGrant ∧
    (s.lum.link.tx = none → (removeSegment i s).lum.link.tx = none) ∧
    (∀ j : SegId, j ≠ i → (removeSegment i s).ctrls[j] = s.ctrls[j] ∧
      ∀ q : PortId, (removeSegment i s).ports[q].events[j] = s.ports[q].events[j]) ∧
    (∀ g : GroupId, segOf g ≠ i → (removeSegment i s).lum.groups[g] = s.lum.groups[g]) ∧
    (removeSegment i s).lum.link.queue = s.lum.link.queue.filter fun e => segOf e.1 ≠ i := by
  have hinf := removedInformed_of_jointLaw h hm
  have hports : ∀ q : PortId, (removeSegment i s).ports[q] = clearEventsAt i (offerAt i .modeChange s.ports[q]) := fun q => by
    rw [removeSegment_ports, hinf]
    exact congrArg _ (offerEvent_get i .modeChange s.ports q)
  have hlum : (removeSegment i s).lum = (removedUninformed i s).lum := by
    rw [removeSegment_informed, setPorts_lum, hinf]
  have hctrls : (removeSegment i s).ctrls = (removedUninformed i s).ctrls := by
    rw [removeSegment_informed, setPorts_ctrls, hinf]
  rw [hlum, hctrls]
  refine ⟨rfl, fun htx => ?_, fun j hj => ⟨(removedUntabled_ctrls i s j).trans (if_neg hj.symm), fun q => ?_⟩, fun g hg => ?_, ?_⟩
  · exact congrArg (Option.map _) htx
  · rw [hports]
    refine (set_get _ i j _).trans ((if_neg hj.symm).trans ?_)
    rw [offerAt_events, if_neg fun e => hj e.1.symm]
  · exact (removedUntabled_groups i s g).trans (if_neg hg)
  · exact congrArg (List.filter · s.lum.link.queue) (funext fun e => not_ownsGroup i e.1)

/-- Settles O27. -/
theorem segRemoveAccepted : Obligations.SegRemoveAccepted := by
  unfold Obligations.SegRemoveAccepted
  intro p link tag i s h hl hc hm
  obtain ⟨hquiet, hctrl, hgroups, hexist, hrun, hclear⟩ := away_removedInformed i s
  have hclear := hclear (removedUninformed_clear i s)
  have hblank : (removeSegment i s).ctrls[i] = Ctrl.blank :=
    hctrl.trans ((removedUntabled_ctrls i s i).trans (if_pos rfl))
  have hports := removeSegment_ports i s
  have hlayout : (removeSegment i s).layout = (removedUninformed i s).layout := hquiet.layout
  have hcoupling : (removeSegment i s).coupling = purgeLists (ownsGroup i) s.coupling := hquiet.coupling
  obtain ⟨htx, hunit⟩ := removed_progress i s
  refine ⟨removeSegment i s, ?_, hlayout, congrArg Ctrl.mode hblank, congrArg Ctrl.passTimer hblank, fun g hg => ⟨?_, ?_, ?_⟩,
    fun g hg => ?_, fun k => ?_, by rw [hcoupling]; rfl, hquiet.table.trans (removedUninformed_table i s),
    ?_, fun q => ?_, fun q => ?_, hquiet.energy, hquiet.cal, hquiet.pending, htx, hrun.record, hunit, hrun.state,
    hrun.pauseInForce, hrun.faultReported, fun hj => removed_others hj hm⟩
  · rw [exec_segRemove h, segRemove_accepted hl hc hm]; rfl
  · exact (hgroups g hg).trans ((removedUntabled_groups i s g).trans (if_pos hg))
  · exact queued_eq_false.mpr fun e he heq => hclear.queue e he (heq ▸ hg)
  · exact hclear.tx g hg
  · refine (hexist g).trans ?_
    exact congrArg Option.isSome ((removedUntabled_groups i s g).trans (if_neg hg))
  · rw [hcoupling, purgeLists]
    simp only [Fin.getElem_fin, Vector.getElem_map, not_ownsGroup]
  · rw [hlayout]
    exact hquiet.sensors.trans (reassign_releasing (fun k => assigned_of_removed i s) s.sensors)
  · rw [hports]; exact (set_get _ i i _).trans (if_pos rfl)
  · rw [hports]
    have hevents := onlyEvents_removedUninformed i s q
    rw [← hquiet.ports q] at hevents
    exact hevents

end Sys2Proof.Proofs
end

section
/-! PROOFS. The sensor link (Section 2): turns and rounds, what the judgment of a poll does, and the holders. -/

namespace Sys2Proof.Proofs

open Sys2Proof Sys2Proof.Machine Sys2Proof.Safety Sys2Proof.Laws

/-! ## Turns and rounds (R18 to R20) -/

/-- The turn after a channel goes to the first assigned sensor from there on (R19). -/
theorem nextAssigned_eq_some {y : Layout} {n : Nat} {k : SensorId} :
    nextAssigned y n = some k ↔
      n ≤ k.val ∧ assigned y k = true ∧ ∀ j : SensorId, n ≤ j.val → j < k → assigned y j = false := by
  rw [nextAssigned, List.find?_eq_some_iff_getElem]
  simp only [List.length_finRange, List.getElem_finRange, Bool.and_eq_true, decide_eq_true_eq, and_assoc]
  refine and_congr_right fun _ => and_congr_right fun _ => ⟨?_, fun h => ⟨k.val, k.isLt, rfl, fun j hj => ?_⟩⟩
  · rintro ⟨i, hi, rfl, h⟩ j hn hj
    simpa [hn] using h j.val hj
  · have := h ⟨j, by omega⟩
    by_cases hn : n ≤ j
    · simpa [hn] using this hn hj
    · simp [hn]

/-- No turn is left from a channel on where no sensor is assigned there (R19). -/
theorem nextAssigned_eq_none {y : Layout} {n : Nat} :
    nextAssigned y n = none ↔ ∀ k : SensorId, n ≤ k.val → assigned y k = false := by
  simp [nextAssigned]

theorem takeTurns_next {y : Layout} {n : Nat} {k : SensorId} (h : nextAssigned y n = some k) (x : SensorLink) :
    takeTurns y n x = pollChannel k x := by
  rw [takeTurns, h]

/-- Behind the last turn the round ends (R19). -/
theorem takeTurns_last {y : Layout} {n : Nat} {x : SensorLink} (h : nextAssigned y n = none) (hl : x.lateStart = false) :
    takeTurns y n x = { x with round := none } := by
  simp only [takeTurns, h, hl, if_neg Bool.false_ne_true]

/-- Behind the last turn a late start begins the next round (R18). -/
theorem takeTurns_late {y : Layout} {n : Nat} {x : SensorLink} (h : nextAssigned y n = none) (hl : x.lateStart = true) :
    takeTurns y n x = startRound y { x with lateStart := false, round := none } := by
  simp only [takeTurns, h, hl, if_true]

theorem startRound_first {y : Layout} {k : SensorId} (h : nextAssigned y 0 = some k) (x : SensorLink) :
    startRound y x = pollChannel k x := by
  rw [startRound, h]

/-- With no sensor assigned a round ends as it starts (R19). -/
theorem startRound_unassigned {y : Layout} (h : nextAssigned y 0 = none) (x : SensorLink) :
    startRound y x = { x with round := none } := by
  rw [startRound, h]

/-- A round polls the first assigned sensor and leaves timer, holders and late start as they are (R19). -/
theorem startRound_spec (y : Layout) (x : SensorLink) :
    (startRound y x).roundTimer = x.roundTimer ∧ (startRound y x).holders = x.holders ∧
    (startRound y x).lateStart = x.lateStart ∧
    ((∀ k : SensorId, assigned y k = false) → (startRound y x).round = none ∧ (startRound y x).poll = x.poll) ∧
    ∀ k : SensorId, assigned y k = true → (∀ j : SensorId, j < k → assigned y j = false) →
      (startRound y x).round = some k ∧ (startRound y x).poll = some ⟨k, .awaiting, false, false⟩ := by
  cases hn : nextAssigned y 0 with
  | none =>
    rw [startRound_unassigned hn]
    refine ⟨rfl, rfl, rfl, fun _ => ⟨rfl, rfl⟩, fun k hk _ => ?_⟩
    rw [nextAssigned_eq_none.mp hn k (Nat.zero_le _)] at hk
    cases hk
  | some c =>
    obtain ⟨-, hc, -⟩ := nextAssigned_eq_some.mp hn
    rw [startRound_first hn]
    refine ⟨rfl, rfl, rfl, fun hnone => ?_, fun k hk hfirst => ?_⟩
    · rw [hnone c] at hc
      cases hc
    · have hck : nextAssigned y 0 = some k := nextAssigned_eq_some.mpr ⟨Nat.zero_le _, hk, fun j _ => hfirst j⟩
      cases hn.symm.trans hck
      exact ⟨rfl, rfl⟩

/-- On an idle link the round timer starts a round (R18). -/
theorem roundExpiry_idle {x : SensorLink} (h : x.round = none) (y : Layout) :
    roundExpiry y x = startRound y { x with roundTimer := 250 } := by
  simp only [roundExpiry, h]

/-- A round in progress is followed by one late start (R18). -/
theorem roundExpiry_running {x : SensorLink} {c : SensorId} (h : x.round = some c) (y : Layout) :
    roundExpiry y x = { x with roundTimer := 250, lateStart := true } := by
  simp only [roundExpiry, h]

/-- The gap behind a polled channel ends with the turns from the next channel on, or from channel 0 (R20, R30; log 31). -/
theorem turnaround_eq {y : Layout} {x : SensorLink} {q : Poll} (hq : x.poll = some q) (hst : q.stage = .turnaround) :
    turnaround y x = takeTurns y (if q.outlived then 0 else q.channel.val + 1) { x with poll := none } := by
  simp only [turnaround, hq, hst]

/-- Settles O42: a round starts with the first assigned sensor, and a turn goes to the first one from a channel on. -/
theorem roundsRule : Obligations.RoundsRule := by
  unfold Obligations.RoundsRule
  constructor
  · intro s
    refine ⟨roundExpiry s.layout s.sensors, rfl, ?_⟩
    cases hr : s.sensors.round with
    | some c =>
      rw [roundExpiry_running hr]
      exact ⟨rfl, rfl, fun _ => ⟨rfl, hr, rfl⟩, nofun⟩
    | none =>
      rw [roundExpiry_idle hr]
      obtain ⟨htimer, hholders, hlate, hempty, hfirst⟩ := startRound_spec s.layout { s.sensors with roundTimer := 250 }
      exact ⟨htimer, hholders, fun h => absurd rfl h, fun _ => ⟨hlate, hempty, hfirst⟩⟩
  · intro q s hq hst
    refine ⟨turnaround s.layout s.sensors, rfl, ?_⟩
    rw [turnaround_eq hq hst]
    generalize (if q.outlived then 0 else q.channel.val + 1) = n
    cases hn : nextAssigned s.layout n with
    | some c =>
      obtain ⟨hle, hc, -⟩ := nextAssigned_eq_some.mp hn
      rw [takeTurns_next hn]
      refine ⟨rfl, rfl, fun k hk hka hfirst => ?_, fun hnone => ?_⟩
      · cases hn.symm.trans (nextAssigned_eq_some.mpr ⟨hk, hka, hfirst⟩)
        exact ⟨rfl, rfl, rfl⟩
      · rw [hnone c hle] at hc
        cases hc
    | none =>
      have hnone := nextAssigned_eq_none.mp hn
      have hno : ∀ k : SensorId, n ≤ k.val → assigned s.layout k ≠ true := fun k hk => by simp [hnone k hk]
      cases s.sensors.lateStart with
      | false =>
        rw [takeTurns_last hn rfl]
        exact ⟨rfl, rfl, fun k hk hka => absurd hka (hno k hk), fun _ => ⟨rfl, fun _ => ⟨rfl, rfl⟩, nofun⟩⟩
      | true =>
        rw [takeTurns_late hn rfl]
        obtain ⟨htimer, hholders, hlate, hempty, hfirst⟩ :=
          startRound_spec s.layout { s.sensors with poll := none, lateStart := false, round := none }
        exact ⟨htimer, hholders, fun k hk hka => absurd hka (hno k hk), fun _ =>
          ⟨hlate, fun h => hempty (h.resolve_left nofun), fun _ => hfirst⟩⟩

/-! ## Misses (R23) -/

/-- Short of the third miss a holder in NO_DATA or SUSPECT only counts it. -/
theorem holderMiss_counted {h : Holder} (hs : h.state = .noData ∨ h.state = .suspect) (hm : h.miss ≤ 1) :
    holderMiss h = { h with miss := h.miss + 1 } := by
  have h3 : ¬ 3 ≤ h.miss + 1 := by omega
  have hmin : min 3 (h.miss + 1) = h.miss + 1 := by omega
  rcases hs with hs | hs <;> simp only [holderMiss, hs, h3, hmin, if_false]

/-- The third miss makes a holder in NO_DATA or SUSPECT stale. -/
theorem holderMiss_third {h : Holder} (hs : h.state = .noData ∨ h.state = .suspect) (hm : h.miss = 2) :
    holderMiss h = { h with state := .stale, miss := 3 } := by
  rcases hs with hs | hs <;> simp [holderMiss, hs, hm]

theorem holderMiss_fresh {h : Holder} (hs : h.state = .fresh) :
    holderMiss h = { h with state := .suspect, miss := h.miss + 1 } := by
  simp only [holderMiss, hs]

theorem holderMiss_stale {h : Holder} (hs : h.state = .stale) : holderMiss h = { h with miss := min 3 (h.miss + 1) } := by
  simp only [holderMiss, hs]

/-! ## The judgment of a poll (R20, R21, R28) -/

section
variable {f : SensorId → ReplyOutcome} {q : Poll} {s : State}

/-- Nothing is judged while no reply is awaited (log 2). -/
theorem judgePoll_idle (h : ∀ q ∈ s.sensors.poll, q.stage = .turnaround) : judgePoll f s = s := by
  unfold judgePoll
  split
  · rfl
  · next q hq => rw [h q hq]

/-- The outcome of a void poll is discarded (R26, R30). -/
theorem judgePoll_void (hq : s.sensors.poll = some q) (hst : q.stage = .awaiting) (hv : q.void = true) :
    judgePoll f s = { s with sensors := { s.sensors with poll := some { q with stage := .turnaround } } } := by
  simp only [judgePoll, hq, hst, hv, if_true]
  rfl

/-- The outcome of a poll that counts goes to the holder of its channel and to the sequencer (R21, R28). -/
theorem judgePoll_counts (hq : s.sensors.poll = some q) (hst : q.stage = .awaiting) (hv : q.void = false) :
    judgePoll f s = { s with
      sensors := { s.sensors with
        poll := some { q with stage := .turnaround }
        holders := s.sensors.holders.set q.channel
          (applyOutcome (f q.channel) s.table.uptime s.sensors.holders[q.channel]) }
      cal := deliver q.channel (f q.channel) s.cal } := by
  simp only [judgePoll, hq, hst, hv, if_neg Bool.false_ne_true]
  rfl

end

/-- A reply with a good check and status OK or SATURATED is good (R21). -/
theorem judgeSensorReply_good {c : SensorId} {hi lo st chk : Byte} (hc : crc8 [BitVec.ofNat 8 c.val, hi, lo, st] = chk)
    (hst : st = 0x00 ∨ st = 0x01) :
    judgeSensorReply c hi lo st chk = .good (256 * hi.toNat + lo.toNat) (decide (st = 0x01)) := by
  rw [judgeSensorReply, if_pos hc, Nat.mul_comm 256]
  rcases hst with rfl | rfl <;> rfl

/-- A reply with a bad check or an unknown status is a miss (R21). -/
theorem judgeSensorReply_miss {c : SensorId} {hi lo st chk : Byte}
    (h : crc8 [BitVec.ofNat 8 c.val, hi, lo, st] ≠ chk ∨ st ≠ 0x00 ∧ st ≠ 0x01 ∧ st ≠ 0x02) :
    judgeSensorReply c hi lo st chk = .miss := by
  unfold judgeSensorReply
  split
  · next hc =>
    obtain ⟨h0, h1, h2⟩ := h.resolve_left (absurd hc)
    rw [sensorCode?, if_neg h0, if_neg h1, if_neg h2]
  · rfl

/-- A reply with a good check and status FAULT is a FAULT (R21). -/
theorem judgeSensorReply_fault (c : SensorId) (hi lo : Byte) :
    judgeSensorReply c hi lo 0x02 (crc8 [BitVec.ofNat 8 c.val, hi, lo, 0x02]) = .fault := by
  rw [judgeSensorReply, if_pos rfl]
  rfl

/-- A sample is dropped outside a sampling window and for a sensor that is not involved (R142). -/
theorem deliverSample_dropped {c : SensorId} {r : CalRun} (h : r.stage ≠ .sample ∨ c ∉ r.sensors) (v : Nat) :
    deliverSample c v r = r := by
  refine if_neg fun hc => ?_
  simp only [Bool.and_eq_true, decide_eq_true_eq, List.contains_iff_mem] at hc
  exact h.elim (absurd hc.1) (absurd hc.2)

/-- An involved sensor's sample in an open window is added to what the run gathered for it (R142). -/
theorem deliverSample_taken {c : SensorId} {r : CalRun} (hst : r.stage = .sample) (hc : c ∈ r.sensors) (v : Nat) :
    deliverSample c v r = { r with gathered := r.gathered.set c (addSample r.phase v r.gathered[c]) } :=
  if_pos (by simp [hst, hc])

/-- Settles O43. -/
theorem goodReplyStored : Obligations.GoodReplyStored := by
  unfold Obligations.GoodReplyStored
  intro hi lo st chk q s hq hst hv hcrc hstatus
  have hexec : exec (.sensorReply hi lo st chk) s = .next (judgePoll (fun c => judgeSensorReply c hi lo st chk) s) := rfl
  rw [hexec, judgePoll_counts hq hst hv, judgeSensorReply_good hcrc hstatus]
  generalize 256 * hi.toNat + lo.toNat = raw
  refine ⟨deliver q.channel (.good raw (decide (st = 0x01))) s.cal, ?_, rfl, fun hr => ?_, fun r hr =>
    ⟨fun h => ?_, fun h hmem => ?_⟩⟩
  · rw [Bool.decide_or]
    rfl
  · rw [deliver, hr]
    rfl
  · rw [deliver, hr, Option.map_some, deliverSample_dropped h]
  · rw [deliver, hr, Option.map_some, deliverSample_taken h hmem]
    cases r.phase <;> rfl

/-- The events that end the wait for a reply have it judged. -/
theorem exec_judges {c : Instr} (h : c = .replyWindowTimeout ∨ c = .interByteGap ∨
    ∃ hi lo st chk, c = .sensorReply hi lo st chk) : ∃ f, ∀ s, exec c s = .next (judgePoll f s) := by
  rcases h with rfl | rfl | ⟨hi, lo, st, chk, rfl⟩ <;> exact ⟨_, fun _ => rfl⟩

/-- Settles O44. -/
theorem missesAndFaults : Obligations.MissesAndFaults := by
  unfold Obligations.MissesAndFaults
  refine ⟨fun h => ?_, fun q s hq hst hv c => ⟨fun hc => ?_, ?_⟩, fun q c s hq hst hv hc => ?_⟩
  · refine ⟨fun hs => holderMiss_counted (.inl hs), fun hs => holderMiss_third (.inl hs), fun hs hm => ?_, fun hs hm => ?_,
      fun hs => holderMiss_third (.inr hs), fun hs hm => ?_, fun hs hm => ?_, rfl⟩
    · rw [holderMiss_fresh hs, hm]
    · rw [holderMiss_counted (.inr hs) (by omega), hm]
    · rw [holderMiss_stale hs, show min 3 (h.miss + 1) = h.miss + 1 by omega]
    · rw [holderMiss_stale hs, show min 3 (h.miss + 1) = h.miss by omega]
  · have hmiss : ∃ f, exec c s = .next (judgePoll f s) ∧ f q.channel = .miss := by
      rcases hc with rfl | rfl | ⟨hi, lo, st, chk, rfl, hbad⟩
      · exact ⟨_, rfl, rfl⟩
      · exact ⟨_, rfl, rfl⟩
      · exact ⟨_, rfl, judgeSensorReply_miss hbad⟩
    obtain ⟨f, hexec, hf⟩ := hmiss
    rw [hexec, judgePoll_counts hq hst hv, hf]
    rfl
  · rintro ⟨hi, lo, rfl⟩
    have hexec : exec (.sensorReply hi lo 0x02 (crc8 [BitVec.ofNat 8 q.channel.val, hi, lo, 0x02])) s =
      .next (judgePoll (fun c => judgeSensorReply c hi lo 0x02 (crc8 [BitVec.ofNat 8 q.channel.val, hi, lo, 0x02])) s) := rfl
    rw [hexec, judgePoll_counts hq hst hv, judgeSensorReply_fault]
    rfl
  · obtain ⟨f, hexec⟩ := exec_judges hc
    rw [hexec, judgePoll_void hq hst hv]

end Sys2Proof.Proofs
end

section
/-! PROOFS. The law of the sample holders and of the poll in flight (R17, R25, R26): which commands reach the sensor link or
the assignment of its sensors, and what those that do leave of the law. -/

namespace Sys2Proof.Proofs

open Sys2Proof Sys2Proof.Machine Sys2Proof.Safety Sys2Proof.Laws

/-! ## Changes that leave the sensor link and its assignment alone -/

/-- The sensor link is the same, and so are the sensors assigned. -/
structure SensorsKept (s t : State) : Prop where
  sensors : t.sensors = s.sensors
  assigned : ∀ k, assigned t.layout k = assigned s.layout k

theorem SensorsKept.of_segs {s t : State} (hl : t.layout.segs = s.layout.segs) (hs : t.sensors = s.sensors) :
    SensorsKept s t := ⟨hs, fun k => by simp only [Machine.assigned, hl]⟩

theorem SensorsKept.refl (s : State) : SensorsKept s s := ⟨rfl, fun _ => rfl⟩

theorem SensorsKept.trans {s t u : State} (h : SensorsKept s t) (k : SensorsKept t u) : SensorsKept s u :=
  ⟨k.sensors.trans h.sensors, fun i => (k.assigned i).trans (h.assigned i)⟩

/-- What is done before, over other blocks, changes nothing of it. -/
theorem SensorsKept.after {s t u : State} (h : SensorsKept u t) (hl : u.layout.segs = s.layout.segs)
    (hs : u.sensors = s.sensors) : SensorsKept s t := (SensorsKept.of_segs hl hs).trans h

/-- Nor does what is done then over other blocks. -/
theorem SensorsKept.before {s t u : State} (h : SensorsKept s t) (hl : u.layout.segs = t.layout.segs)
    (hs : u.sensors = t.sensors) : SensorsKept s u := h.trans (.of_segs hl hs)

theorem SensorsKept.foldl {α : Type} {f : State → α → State} (h : ∀ s a, SensorsKept s (f s a)) (l : List α) (s : State) :
    SensorsKept s (l.foldl f s) :=
  List.foldlRecOn l f (SensorsKept.refl s) fun u hu a _ => hu.trans (h u a)

theorem SensorsKept.of_quiet {s t : State} (h : Quiet s t) : SensorsKept s t :=
  ⟨h.sensors, fun _ => by rw [h.layout]⟩

theorem sensorsKept_accept {s t : State} (clamped : Bool) (h : SensorsKept s t) :
    SensorsKept s (accept clamped t).state := h

/-! ### Table changes and the run -/

theorem sensorsKept_endRun (r : CalRun) (res : CalResult) (s : State) : SensorsKept s (endRun r res s) := by
  obtain ⟨_, hlayout, hsensors, _⟩ := endRun_frame r res s
  exact .of_segs (by rw [hlayout]) hsensors

theorem sensorsKept_abortRun (why : AbortReason) (s : State) : SensorsKept s (abortRun why s) := by
  unfold abortRun
  split
  · exact .refl s
  · exact sensorsKept_endRun _ _ s

theorem sensorsKept_tableChange (entries : List Entry) (inserted : Option Entry) (informed : SegMask) (s : State) :
    SensorsKept s (tableChange entries inserted informed s) := by
  obtain ⟨u, h, hu⟩ := tableChange_cases entries inserted informed s
  rw [h]
  refine SensorsKept.trans ?_ (.of_quiet (Quiet.foldl quiet_informSegment _ u))
  rcases hu with ⟨rfl, _⟩ | ⟨r, res, _, rfl⟩
  · exact .of_segs rfl rfl
  · exact (sensorsKept_endRun r res _).after rfl rfl

theorem sensorsKept_testFadeWait (s : State) : SensorsKept s (testFadeWait s) := by
  unfold testFadeWait
  split
  · exact .refl s
  · split
    · exact .of_segs rfl rfl
    · exact .refl s

theorem sensorsKept_beginRun (m : SegMask) (q : CalParams) (clamped : Bool) (s : State) :
    SensorsKept s (beginRun m q clamped s) := by
  refine SensorsKept.trans ?_ (sensorsKept_testFadeWait _)
  exact (SensorsKept.foldl (f := enterCalibrating) (fun s i => .of_quiet (quiet_remode i .calibrating s))
    (maskSegs m) _).after rfl rfl

theorem sensorsKept_calStart (m : SegMask) (base high low half su opt : Nat) (s : State) :
    SensorsKept s (calStart m base high low half su opt s).state := by
  unfold calStart
  dsimp only
  repeat' split
  all_goals first | exact .refl s | exact sensorsKept_beginRun _ _ _ s

theorem sensorsKept_enterPhase (f : Phase) (probe cycle : Nat) (r : CalRun) (s : State) :
    SensorsKept s (enterPhase f probe cycle r s) := by
  refine SensorsKept.trans ?_ (sensorsKept_testFadeWait _)
  exact (SensorsKept.foldl (f := fun s i => recompose i s) (fun s i => .of_quiet (quiet_recompose i s))
    (changedSegs r _) _).after rfl rfl

theorem sensorsKept_commit (r : CalRun) (s : State) : SensorsKept s (commit r s) := by
  have h : ∀ x, SensorsKept s (s.setCoupling x) := fun _ => .of_segs rfl rfl
  exact (h _).trans (sensorsKept_endRun r (commitResult r s.cal.result) _)

theorem sensorsKept_nextPhase (r : CalRun) (s : State) : SensorsKept s (nextPhase r s) := by
  unfold nextPhase
  dsimp only
  repeat' split
  all_goals first | exact sensorsKept_enterPhase _ _ _ _ s | exact sensorsKept_commit _ s

theorem sensorsKept_calStageTimerExpiry (s : State) : SensorsKept s (calStageTimerExpiry s) := by
  unfold calStageTimerExpiry
  split
  · exact .refl s
  · split
    · unfold stageExpiry
      split
      · exact .refl s
      · exact .of_segs rfl rfl
      · exact sensorsKept_nextPhase _ s
      · exact sensorsKept_nextPhase _ s
    · exact .refl s

/-! ### The request table -/

theorem sensorsKept_replaceOver (sel : Entry → Bool) (m : SegMask) (new : Entry) (clamped : Bool) (s : State) :
    SensorsKept s (replaceOver sel m new clamped s).state := by
  unfold replaceOver
  dsimp only
  split
  · exact .refl s
  · exact sensorsKept_accept _ (sensorsKept_tableChange _ _ _ s)

theorem sensorsKept_releaseOver (sel : Entry → Bool) (m : SegMask) (clamped : Bool) (s : State) :
    SensorsKept s (releaseOver sel m clamped s).state :=
  sensorsKept_accept _ (sensorsKept_tableChange _ _ _ s)

theorem sensorsKept_overrideSet (m : SegMask) (level minutes : Nat) (s : State) :
    SensorsKept s (overrideSet m level minutes s).state := by
  unfold overrideSet
  dsimp only
  split
  · exact .refl s
  · exact sensorsKept_replaceOver _ _ _ _ s

theorem sensorsKept_overrideCancel (m : SegMask) (s : State) : SensorsKept s (overrideCancel m s).state := by
  unfold overrideCancel
  dsimp only
  split
  · exact .refl s
  · exact sensorsKept_releaseOver _ _ _ s

theorem sensorsKept_lockSet (m : SegMask) (level : Nat) (s : State) : SensorsKept s (lockSet m level s).state := by
  unfold lockSet
  dsimp only
  split
  · exact .refl s
  · exact sensorsKept_replaceOver _ _ _ _ s

theorem sensorsKept_lockRelease (m : SegMask) (s : State) : SensorsKept s (lockRelease m s).state := by
  unfold lockRelease
  dsimp only
  split
  · exact .refl s
  · exact sensorsKept_releaseOver _ _ _ s

theorem sensorsKept_holdSet (m : SegMask) (seconds : Nat) (s : State) : SensorsKept s (holdSet m seconds s).state := by
  unfold holdSet
  dsimp only
  split
  · exact .refl s
  · exact sensorsKept_replaceOver _ _ _ _ s

theorem sensorsKept_holdSettled (m : SegMask) (s : State) : SensorsKept s (holdSettled m s).state := by
  unfold holdSettled
  dsimp only
  split
  · exact .refl s
  · split
    · exact .refl s
    · split
      · exact sensorsKept_releaseOver _ _ _ s
      · exact sensorsKept_replaceOver _ _ _ _ s

theorem sensorsKept_capSet (id : Nat) (m : SegMask) (level minutes : Nat) (s : State) :
    SensorsKept s (capSet id m level minutes s).state := by
  unfold capSet
  dsimp only
  split
  · exact .refl s
  · split
    · exact .refl s
    · split
      · exact sensorsKept_accept _ (sensorsKept_tableChange _ _ _ s)
      · split
        · exact .refl s
        · exact sensorsKept_accept _ (sensorsKept_tableChange _ _ _ s)

theorem sensorsKept_capCancel (id : Nat) (s : State) : SensorsKept s (capCancel id s).state := by
  unfold capCancel
  split
  · exact .refl s
  · split
    · exact .refl s
    · exact sensorsKept_accept _ (sensorsKept_tableChange _ _ _ s)

theorem sensorsKept_departDue (s : State) : SensorsKept s (departDue s) := by
  unfold departDue
  exact (sensorsKept_tableChange _ _ _ _).after rfl rfl

/-! ### Groups, the link, energy and coupling -/

theorem sensorsKept_fadeStep (g : GroupId) (s : State) : SensorsKept s (fadeStep g s) := by
  unfold fadeStep
  dsimp only
  split
  · exact (sensorsKept_testFadeWait _).after rfl rfl
  · exact .of_segs rfl rfl

theorem sensorsKept_freeLink (s : State) : SensorsKept s (freeLink s) := by
  unfold freeLink
  dsimp only
  split <;> exact .of_segs rfl rfl

theorem sensorsKept_setLevelDone (s : State) : SensorsKept s (setLevelDone s) := by
  unfold setLevelDone
  split
  · exact (sensorsKept_freeLink _).after rfl rfl
  · exact .refl s

theorem sensorsKept_applyOutcomeToGroup (o : QueryOutcome) (s : State) : SensorsKept s (applyOutcomeToGroup o s) := by
  unfold applyOutcomeToGroup handAnswer
  dsimp only
  repeat' split
  all_goals exact .of_segs rfl rfl

theorem sensorsKept_windowEnd (a : Answer) (s : State) : SensorsKept s (windowEnd a s) := by
  unfold windowEnd
  split
  · refine SensorsKept.trans ?_ (sensorsKept_freeLink _)
    split
    · exact (sensorsKept_applyOutcomeToGroup _ s).before rfl rfl
    · exact .of_segs rfl rfl
  · exact .refl s

theorem sensorsKept_busFault (s : State) : SensorsKept s (busFault s) := by
  unfold busFault
  split
  · exact .refl s
  · refine SensorsKept.trans ?_ (sensorsKept_abortRun _ _)
    split <;> exact .of_segs rfl rfl

theorem sensorsKept_linkPause (s : State) : SensorsKept s (linkPause s).state := by
  unfold linkPause
  split
  · exact .refl s
  · split
    · exact .refl s
    · exact .refl s
    · exact .refl s
    · exact sensorsKept_accept _ ((sensorsKept_freeLink _).after rfl rfl)

theorem sensorsKept_linkResume (s : State) : SensorsKept s (linkResume s).state := by
  unfold linkResume
  split <;> exact .of_segs rfl rfl

theorem sensorsKept_queryDriver (p : PortId) (g i : Nat) (s : State) : SensorsKept s (queryDriver p g i s).state := by
  unfold queryDriver
  repeat' split
  all_goals exact .of_segs rfl rfl

theorem sensorsKept_groupClearFail (g : Nat) (s : State) : SensorsKept s (groupClearFail g s).state := by
  unfold groupClearFail
  repeat' split
  all_goals exact .of_segs rfl rfl

theorem sensorsKept_powerSet (g w : Nat) (s : State) : SensorsKept s (powerSet g w s).state := by
  unfold powerSet
  repeat' split
  all_goals exact .of_segs rfl rfl

theorem sensorsKept_setEnergy (s : State) (x : Vector Energy 16) : SensorsKept s (s.setEnergy x) := .of_segs rfl rfl

theorem sensorsKept_energyClear (m : SegMask) (s : State) : SensorsKept s (energyClear m s).state := by
  unfold energyClear
  dsimp only
  split
  · exact .refl s
  · exact sensorsKept_accept _ (sensorsKept_setEnergy s _)

theorem sensorsKept_couplingWrite (k d n : Nat) (ps : List (Nat × Nat)) (s : State) :
    SensorsKept s (couplingWrite k d n ps s).state := by
  unfold couplingWrite
  dsimp only
  repeat' split
  all_goals exact .of_segs rfl rfl

/-! ### Tuning and glare -/

/-- A configuration record rewritten but for what it says of sensors. -/
theorem sensorsKept_updSeg (i : SegId) {f : SegConfig → SegConfig} (hf : ∀ c k, segUses (f c) k = segUses c k) (s : State) :
    SensorsKept s (updSeg i f s) := by
  refine ⟨rfl, fun k => ?_⟩
  have huses : ∀ j : SegId, segUses (updSeg i f s).layout.segs[j] k = segUses s.layout.segs[j] k := fun j => by
    rw [updSeg_layout, updAt_get]
    split
    · exact hf _ k
    · rfl
  simp only [assigned, huses]

theorem sensorsKept_retune (i : SegId) {f : SegConfig → SegConfig} (hf : ∀ c k, segUses (f c) k = segUses c k) (s : State) :
    SensorsKept s (retune i f s) :=
  (sensorsKept_updSeg i hf s).before rfl rfl

theorem sensorsKept_segTune (n : Nat) (x : Tuning) (s : State) : SensorsKept s (segTune n x s).state := by
  unfold segTune
  split
  · exact .refl s
  · split
    · exact .refl s
    · split
      · exact .refl s
      · exact sensorsKept_accept _ (sensorsKept_retune _ (fun _ _ => by rfl) s)

theorem sensorsKept_bandSet (n b : Nat) (q : BandConfig) (s : State) : SensorsKept s (bandSet n b q s).state := by
  unfold bandSet
  repeat' split
  all_goals first | exact .refl s | exact sensorsKept_accept _ (sensorsKept_retune _ (fun _ _ => by rfl) s)

theorem sensorsKept_writeThreshold (n : Nat) (s : State) (i : SegId) : SensorsKept s (writeThreshold n s i) := by
  have h : SensorsKept s (updSeg i (fun c => { c with glareThreshold := n }) s) := sensorsKept_updSeg i (fun _ _ => by rfl) s
  unfold writeThreshold
  dsimp only
  split
  · exact h.trans (.of_quiet (onCtrl_setGlare i false _).quiet)
  · exact h

theorem sensorsKept_glareSet (m : SegMask) (n : Nat) (s : State) : SensorsKept s (glareSet m n s).state := by
  unfold glareSet
  dsimp only
  split
  · exact .refl s
  · exact sensorsKept_accept _ (.foldl (sensorsKept_writeThreshold _) _ s)

theorem sensorsKept_passSegment (i : SegId) (s : State) : SensorsKept s (passSegment i s) := by
  rw [passSegment_eq]
  exact .of_quiet ((onCtrl_passed i s).quiet.trans (quiet_recompose i _))

/-! ## The law of the link -/

/-- The law of the sensor link under a layout: holders in range, those of unassigned sensors empty, and the channel of a poll
that counts assigned. -/
structure SensorLinkLaw (y : Layout) (x : SensorLink) : Prop where
  holder : ∀ k : SensorId, HolderLaw x.holders[k]
  empty : ∀ k : SensorId, assigned y k = false → x.holders[k] = Holder.empty
  poll : ∀ q ∈ x.poll, q.void = false → assigned y q.channel = true

theorem sensorLaw_iff {s : State} : SensorLaw s ↔ SensorLinkLaw s.layout s.sensors :=
  ⟨fun ⟨h, hp⟩ => ⟨fun k => (h k).1, fun k => (h k).2, hp⟩, fun ⟨h, he, hp⟩ => ⟨fun k => ⟨h k, he k⟩, hp⟩⟩

theorem SensorsKept.sensorLaw {s t : State} (h : SensorsKept s t) (hs : SensorLaw s) : SensorLaw t := by
  obtain ⟨hholder, hempty, hpoll⟩ := sensorLaw_iff.mp hs
  rw [sensorLaw_iff, h.sensors]
  exact ⟨hholder, fun k hk => hempty k (h.assigned k ▸ hk), fun q hq hv => (h.assigned _).trans (hpoll q hq hv)⟩

/-! ### Holders (R17, R22 to R24) -/

theorem holderLaw_empty : HolderLaw Holder.empty := by simp [HolderLaw, Holder.empty]

theorem holderLaw_good (raw : Nat) (saturated : Bool) (uptime : Nat) (h : Holder) :
    HolderLaw (holderGood raw saturated uptime h) := by
  simp [HolderLaw, holderGood, clampedReading]

/-- A STALE holder may stand with any count of misses. -/
theorem holderLaw_staled {h : Holder} (hl : HolderLaw h) {n : Nat} (hn : n ≤ 3) :
    HolderLaw { h with state := .stale, miss := n } := by
  obtain ⟨_, hvalue, hgood, _⟩ := hl
  exact ⟨hn, hvalue, hgood, nofun, nofun, nofun⟩

theorem holderLaw_fault {h : Holder} (hl : HolderLaw h) : HolderLaw (holderFault h) := holderLaw_staled hl hl.1

theorem holderLaw_miss {h : Holder} (hl : HolderLaw h) : HolderLaw (holderMiss h) := by
  obtain ⟨hmiss, hvalue, hgood, hnoData, hfresh, hsuspect⟩ := hl
  have hcounted : h.state = .noData ∨ h.state = .suspect → h.miss ≤ 2 → HolderLaw (holderMiss h) := fun hs hm => by
    rcases Nat.lt_or_ge h.miss 2 with hlt | hge
    · rw [holderMiss_counted hs (by omega)]
      refine ⟨by dsimp only; omega, hvalue, hgood, fun hst => ?_, fun hst => ?_, fun hst => ?_⟩
      · obtain ⟨hv, hsat, _⟩ := hnoData hst
        exact ⟨hv, hsat, by dsimp only; omega⟩
      · have hst : h.state = .fresh := hst
        simp [hst] at hs
      · obtain ⟨hv, _, _⟩ := hsuspect hst
        exact ⟨hv, by dsimp only; omega, by dsimp only; omega⟩
    · rw [holderMiss_third hs (by omega)]
      exact holderLaw_staled ⟨hmiss, hvalue, hgood, hnoData, hfresh, hsuspect⟩ (Nat.le_refl 3)
  cases hst : h.state with
  | noData => exact hcounted (.inl hst) (hnoData hst).2.2
  | suspect => exact hcounted (.inr hst) (hsuspect hst).2.2
  | fresh =>
    obtain ⟨hv, hzero⟩ := hfresh hst
    rw [holderMiss_fresh hst, hzero]
    exact ⟨Nat.le_add_left 1 2, hvalue, hgood, nofun, nofun, fun _ => ⟨hv, Nat.le_refl 1, Nat.le_succ 1⟩⟩
  | stale =>
    have hlaw := holderLaw_staled ⟨hmiss, hvalue, hgood, hnoData, hfresh, hsuspect⟩ (Nat.min_le_left 3 (h.miss + 1))
    rw [holderMiss_stale hst]
    rwa [← hst] at hlaw

theorem holderLaw_applyOutcome (o : ReplyOutcome) (uptime : Nat) {h : Holder} (hl : HolderLaw h) :
    HolderLaw (applyOutcome o uptime h) := by
  cases o with
  | good raw saturated => exact holderLaw_good raw saturated uptime h
  | fault => exact holderLaw_fault hl
  | miss => exact holderLaw_miss hl

/-! ### Rounds and polls -/

section
variable {y : Layout} {x : SensorLink}

/-- A poll is sent to assigned sensors alone (R19). -/
theorem SensorLinkLaw.pollChannel (h : SensorLinkLaw y x) {c : SensorId} (hc : assigned y c = true) :
    SensorLinkLaw y (pollChannel c x) :=
  ⟨h.holder, h.empty, fun q hq _ => by cases hq; exact hc⟩

theorem SensorLinkLaw.startRound (h : SensorLinkLaw y x) : SensorLinkLaw y (startRound y x) := by
  cases hn : nextAssigned y 0 with
  | some c =>
    rw [startRound_first hn]
    exact h.pollChannel (nextAssigned_eq_some.mp hn).2.1
  | none =>
    rw [startRound_unassigned hn]
    exact ⟨h.holder, h.empty, h.poll⟩

theorem SensorLinkLaw.takeTurns (h : SensorLinkLaw y x) (n : Nat) : SensorLinkLaw y (takeTurns y n x) := by
  cases hn : nextAssigned y n with
  | some c =>
    rw [takeTurns_next hn]
    exact h.pollChannel (nextAssigned_eq_some.mp hn).2.1
  | none =>
    cases hl : x.lateStart with
    | false =>
      rw [takeTurns_last hn hl]
      exact ⟨h.holder, h.empty, h.poll⟩
    | true =>
      rw [takeTurns_late hn hl]
      exact SensorLinkLaw.startRound ⟨h.holder, h.empty, h.poll⟩

theorem SensorLinkLaw.roundExpiry (h : SensorLinkLaw y x) : SensorLinkLaw y (roundExpiry y x) := by
  cases hr : x.round with
  | some c =>
    rw [roundExpiry_running hr]
    exact ⟨h.holder, h.empty, h.poll⟩
  | none =>
    rw [roundExpiry_idle hr]
    exact SensorLinkLaw.startRound ⟨h.holder, h.empty, h.poll⟩

theorem SensorLinkLaw.turnaround (h : SensorLinkLaw y x) : SensorLinkLaw y (turnaround y x) := by
  unfold Machine.turnaround
  split
  · exact h
  · split
    · exact h
    · have hended : SensorLinkLaw y { x with poll := none } := ⟨h.holder, h.empty, fun q hq => by cases hq⟩
      exact hended.takeTurns _

/-- With every holder empty the law is that of the poll. -/
theorem sensorLinkLaw_emptied (hh : x.holders = Vector.replicate 32 Holder.empty)
    (hp : ∀ q ∈ x.poll, q.void = false → assigned y q.channel = true) : SensorLinkLaw y x := by
  have hk : ∀ k : SensorId, x.holders[k] = Holder.empty := fun k => by simp [hh]
  exact ⟨fun k => by rw [hk]; exact holderLaw_empty, fun k _ => hk k, hp⟩

/-- A warm restart empties the holders; a poll in flight is void, and the round it begins polls an assigned sensor (R30). -/
theorem sensorLinkLaw_restartSensors (y : Layout) (x : SensorLink) : SensorLinkLaw y (restartSensors y x) := by
  obtain ⟨_, _, hholders⟩ := restartSensors_frame y x
  refine sensorLinkLaw_emptied hholders fun q hq hv => ?_
  have hround := restartSensors_round y x
  cases hp : x.poll with
  | some q' =>
    simp only [hp] at hround
    rw [hround.2] at hq
    cases hq
    cases hv
  | none =>
    simp only [hp] at hround
    rw [hround.2] at hq
    obtain ⟨c, hc, rfl⟩ := Option.map_eq_some_iff.mp hq
    exact (nextAssigned_eq_some.mp hc).2.1

end

/-- A change of the layout empties the holders of the sensors whose assignment it changes and voids the poll of one given up
(R25, R26). -/
theorem SensorLinkLaw.reassign {a b : Layout} {x : SensorLink} (h : SensorLinkLaw a x) : SensorLinkLaw b (reassign a b x) := by
  have hk : ∀ k : SensorId, (Machine.reassign a b x).holders[k] =
      if assigned a k = assigned b k then x.holders[k] else Holder.empty := fun k => ofFn_get _ k
  refine ⟨fun k => ?_, fun k hb => ?_, fun q hq hv => ?_⟩
  · rw [hk]
    split
    · exact h.holder k
    · exact holderLaw_empty
  · rw [hk]
    split
    · next hab => exact h.empty k (hab.trans hb)
    · rfl
  · obtain ⟨q', hq', rfl⟩ := Option.map_eq_some_iff.mp hq
    split at hv
    · cases hv
    · next hgiven =>
      rw [if_neg hgiven]
      simpa [h.poll q' hq' hv] using hgiven

/-- A judged poll writes the holder of its channel, which is assigned where the poll counts (R21, R26). -/
theorem sensorLaw_judgePoll {s : State} (h : SensorLaw s) (f : SensorId → ReplyOutcome) : SensorLaw (judgePoll f s) := by
  have hl := sensorLaw_iff.mp h
  by_cases hidle : ∀ q ∈ s.sensors.poll, q.stage = .turnaround
  · rwa [judgePoll_idle hidle]
  · push Not at hidle
    obtain ⟨q, hq, hst⟩ := hidle
    have hst : q.stage = .awaiting := by cases hs : q.stage <;> simp_all
    rw [sensorLaw_iff]
    cases hv : q.void with
    | true =>
      rw [judgePoll_void hq hst hv]
      refine ⟨hl.holder, hl.empty, fun q' hq' hv' => ?_⟩
      cases hq'
      exact absurd (hv.symm.trans hv') (by decide)
    | false =>
      have hc := hl.poll q hq hv
      rw [judgePoll_counts hq hst hv]
      refine ⟨fun k => ?_, fun k hk => ?_, fun q' hq' _ => ?_⟩
      · rw [set_get]
        split
        · exact holderLaw_applyOutcome _ _ (hl.holder _)
        · exact hl.holder k
      · rw [set_get, if_neg (by rintro rfl; rw [hk] at hc; cases hc)]
        exact hl.empty k hk
      · cases hq'
        exact hc

/-! ### The layout requests and the resets -/

theorem sensorLaw_segDefine {s : State} (h : SensorLaw s) (n b p q : Nat) : SensorLaw (segDefine n b p q s).state := by
  have hdefine : ∀ i cfg, SensorLaw (defineSegment i cfg s) := fun i cfg =>
    sensorLaw_iff.mpr (sensorLaw_iff.mp h).reassign
  unfold segDefine
  split
  · exact h
  · split
    · split
      · exact h
      · exact hdefine _ _
    · exact h

theorem sensorLaw_segRemove {s : State} (h : SensorLaw s) (n : Nat) : SensorLaw (segRemove n s).state := by
  have hremove : ∀ i, SensorLaw (removeSegment i s) := fun i => by
    have huninformed : SensorLaw (removedUninformed i s) := sensorLaw_iff.mpr (sensorLaw_iff.mp h).reassign
    exact ((SensorsKept.of_quiet (away_removedInformed i s).quiet).before rfl rfl).sensorLaw huninformed
  unfold segRemove
  split
  · exact h
  · split
    · exact h
    · split
      · exact h
      · split
        · exact h
        · exact hremove _

theorem sensorLaw_restart {s : State} (h : SensorLaw s) (p : PortId) : SensorLaw (restart p s) := by
  unfold restart
  split
  · exact h
  · exact h
  · exact h
  · exact sensorLaw_iff.mpr (sensorLinkLaw_restartSensors _ _)

theorem sensorLaw_powerOn (a b c : StrapPins) (s : State) : SensorLaw (powerOn a b c s) :=
  sensorLaw_iff.mpr (sensorLinkLaw_emptied rfl fun q hq => by cases hq)

/-! ## Every step -/

/-- Every command keeps the law of the sensor link. -/
theorem sensorLaw_exec {c : Instr} {s t : State} (h : SensorLaw s) (he : exec c s = .next t) : SensorLaw t := by
  have hserve : ∀ {p : PortId} {k : Kind} {owner : Body → State → Response},
      (∀ b, SensorLaw (owner b s).state) → SensorLaw (serve p k owner s) := fun ho =>
    serve_keeps (P := SensorLaw) (fun u x hu => SensorsKept.sensorLaw (s := u) (.of_segs rfl rfl) hu) h ho
  have keeps : ∀ {t}, SensorsKept s t → SensorLaw t := fun k => k.sensorLaw h
  cases c
  all_goals injection he with he; subst he
  case powerOnReset => exact sensorLaw_powerOn _ _ _ s
  case selectAssert | selectRelease => exact keeps (.of_segs rfl rfl)
  case nop | ident | causesRead | queryResult | calResultRead => exact hserve fun _ => h
  case eventsRead | layoutLock => exact hserve fun _ => keeps (.of_segs rfl rfl)
  case causesClear | enablesWrite | settleSet => refine hserve fun b => ?_; split <;> exact keeps (.of_segs rfl rfl)
  case segRead => refine hserve fun b => ?_; split; exacts [by unfold segRead; split <;> exact h, h]
  case sensorRead => refine hserve fun b => ?_; split; exacts [by unfold sensorRead; split <;> exact h, h]
  case tableRead => refine hserve fun b => ?_; split; exacts [by unfold tableRead; split <;> exact h, h]
  case couplingRead => refine hserve fun b => ?_; split; exacts [by unfold couplingRead; split <;> exact h, h]
  case energyRead => refine hserve fun b => ?_; split; exacts [by unfold energyRead; split <;> exact h, h]
  case segDefine => refine hserve fun b => ?_; split; exacts [sensorLaw_segDefine h _ _ _ _, h]
  case segRemove => refine hserve fun b => ?_; split; exacts [sensorLaw_segRemove h _, h]
  case segTune => refine hserve fun b => ?_; split; exacts [keeps (sensorsKept_segTune _ _ s), h]
  case bandSet => refine hserve fun b => ?_; split; exacts [keeps (sensorsKept_bandSet _ _ _ s), h]
  case couplingWrite => refine hserve fun b => ?_; split; exacts [keeps (sensorsKept_couplingWrite _ _ _ _ s), h]
  case overrideSet => refine hserve fun b => ?_; split; exacts [keeps (sensorsKept_overrideSet _ _ _ s), h]
  case overrideCancel => refine hserve fun b => ?_; split; exacts [keeps (sensorsKept_overrideCancel _ s), h]
  case lockSet => refine hserve fun b => ?_; split; exacts [keeps (sensorsKept_lockSet _ _ s), h]
  case lockRelease => refine hserve fun b => ?_; split; exacts [keeps (sensorsKept_lockRelease _ s), h]
  case holdSet => refine hserve fun b => ?_; split; exacts [keeps (sensorsKept_holdSet _ _ s), h]
  case holdSettled => refine hserve fun b => ?_; split; exacts [keeps (sensorsKept_holdSettled _ s), h]
  case capSet => refine hserve fun b => ?_; split; exacts [keeps (sensorsKept_capSet _ _ _ _ s), h]
  case capCancel => refine hserve fun b => ?_; split; exacts [keeps (sensorsKept_capCancel _ s), h]
  case calStart => refine hserve fun b => ?_; split; exacts [keeps (sensorsKept_calStart _ _ _ _ _ _ _ s), h]
  case calAbort => exact hserve fun _ => keeps (sensorsKept_abortRun _ s)
  case linkPause => exact hserve fun _ => keeps (sensorsKept_linkPause s)
  case linkResume => exact hserve fun _ => keeps (sensorsKept_linkResume s)
  case groupClearFail => refine hserve fun b => ?_; split; exacts [keeps (sensorsKept_groupClearFail _ s), h]
  case powerSet => refine hserve fun b => ?_; split; exacts [keeps (sensorsKept_powerSet _ _ s), h]
  case energyClear => refine hserve fun b => ?_; split; exacts [keeps (sensorsKept_energyClear _ s), h]
  case glareSet => refine hserve fun b => ?_; split; exacts [keeps (sensorsKept_glareSet _ _ s), h]
  case queryDriver => refine hserve fun b => ?_; split; exacts [keeps (sensorsKept_queryDriver _ _ _ s), h]
  case restart => exact sensorLaw_restart h _
  case roundTimerExpiry => exact sensorLaw_iff.mpr (sensorLaw_iff.mp h).roundExpiry
  case turnaroundEnd => exact sensorLaw_iff.mpr (sensorLaw_iff.mp h).turnaround
  case sensorReply | replyWindowTimeout | interByteGap => exact sensorLaw_judgePoll h _
  case pass => split; exacts [keeps (sensorsKept_passSegment _ s), h]
  case fadeStep => exact keeps (sensorsKept_fadeStep _ s)
  case uptimeTick => exact keeps ((sensorsKept_departDue _).after rfl rfl)
  case entryExpiry => exact keeps (sensorsKept_departDue s)
  case energyTick => exact keeps (sensorsKept_setEnergy s _)
  case queryFrameCompletion => exact keeps (.of_segs rfl rfl)
  case setLevelCompletion => exact keeps (sensorsKept_setLevelDone s)
  case answerWindowEnd => exact keeps (sensorsKept_windowEnd _ s)
  case busFault => exact keeps (sensorsKept_busFault s)
  case busRestoration => split <;> exact keeps (.of_segs rfl rfl)
  case calStageTimerExpiry => exact keeps (sensorsKept_calStageTimerExpiry s)

/-- Settles O11: holders are written by judged polls alone and emptied where an assignment changes, and a poll that counts
goes to an assigned sensor. -/
theorem sensorLawKept : Obligations.SensorLawKept := by
  unfold Obligations.SensorLawKept
  exact step_keeps (fun _ _ h => h) fun c s t h he => sensorLaw_exec h he

end Sys2Proof.Proofs
end

section
/-! PROOFS. The reading requests of holders, coupling lists and the table (R29, R40, R94), and the refusals of numbers, masks
and a full table (R72, R73, R81, R89, R90, R109, R110). -/

namespace Sys2Proof.Proofs

open Sys2Proof Sys2Proof.Machine Sys2Proof.Safety Sys2Proof.Laws

/-! ## What an owning block answers is replied -/

section
variable {p : PortId} {r : Request} {s : State} {c : Instr} {owner : Body → State → Response}

/-- A request that its owning block refuses changes nothing but the port (R81, R162). -/
theorem exec_refused {st : Status} (he : exec c s = .next (serve p (kindOf r.body) owner s)) (h : Runs p r s)
    (ho : owner r.body s = refuse st s) : exec c s = .next (placeReply p r st [] s) := by
  rw [he, serve_runs owner h, ho]
  rfl

/-- A reading request is replied OK with its payload and changes nothing but the port (R179). -/
theorem exec_answered {l : List Byte} (he : exec c s = .next (serve p (kindOf r.body) owner s)) (h : Runs p r s)
    (ho : owner r.body s = answer l s) : exec c s = .next (placeReply p r .ok l s) := by
  rw [he, serve_runs owner h, ho]
  rfl

end

/-! ## Refusals -/

section
variable {s : State} {m : SegMask} {n id : Nat}

theorem segRead_range (h : 16 ≤ n) : segRead n s = refuse .range s := by rw [segRead, segId?_none h]
theorem sensorRead_range (h : 32 ≤ n) : sensorRead n s = refuse .range s := by rw [sensorRead, sensorId?_none h]
theorem tableRead_range (h : 32 ≤ n) : tableRead n s = refuse .range s := if_pos h
theorem couplingRead_range (h : 32 ≤ n) : couplingRead n s = refuse .range s := by rw [couplingRead, sensorId?_none h]
theorem energyRead_range (h : 16 ≤ n) : energyRead n s = refuse .range s := if_pos h

theorem capSet_range (h : 8 ≤ id) (level minutes : Nat) : capSet id m level minutes s = refuse .range s := if_pos h
theorem capCancel_range (h : 8 ≤ id) : capCancel id s = refuse .range s := if_pos h

theorem overrideSet_notConfigured (h : m &&& configuredMask s = 0) (level minutes : Nat) :
    overrideSet m level minutes s = refuse .notConfigured s := if_pos h
theorem overrideCancel_notConfigured (h : m &&& configuredMask s = 0) : overrideCancel m s = refuse .notConfigured s :=
  if_pos h
theorem lockSet_notConfigured (h : m &&& configuredMask s = 0) (level : Nat) : lockSet m level s = refuse .notConfigured s :=
  if_pos h
theorem lockRelease_notConfigured (h : m &&& configuredMask s = 0) : lockRelease m s = refuse .notConfigured s := if_pos h
theorem holdSet_notConfigured (h : m &&& configuredMask s = 0) (seconds : Nat) :
    holdSet m seconds s = refuse .notConfigured s := if_pos h
theorem holdSettled_notConfigured (h : m &&& configuredMask s = 0) : holdSettled m s = refuse .notConfigured s := if_pos h
theorem glareSet_notConfigured (h : m &&& configuredMask s = 0) (threshold : Nat) :
    glareSet m threshold s = refuse .notConfigured s := if_pos h
theorem energyClear_notConfigured (h : m &&& configuredMask s = 0) : energyClear m s = refuse .notConfigured s := if_pos h

theorem capSet_notConfigured (hid : id < 8) (h : m &&& configuredMask s = 0) (level minutes : Nat) :
    capSet id m level minutes s = refuse .notConfigured s :=
  (if_neg (Nat.not_le_of_lt hid)).trans (if_pos h)

/-- A cap to be appended finds the table full (R81, check 3). -/
theorem capSet_full (hid : id < 8) (hm : m &&& configuredMask s ≠ 0) (hnew : ∀ e ∈ s.table.entries, isCap id e = false)
    (hfull : 32 ≤ s.table.entries.length) (level minutes : Nat) : capSet id m level minutes s = refuse .tableFull s := by
  have hfind : s.table.entries.find? (isCap id) = none :=
    List.find?_eq_none.mpr fun e he => Bool.eq_false_iff.mp (hnew e he)
  refine (if_neg (Nat.not_le_of_lt hid)).trans ((if_neg hm).trans ?_)
  rw [hfind]
  exact if_pos (by simp only [tableFull, List.length_append, List.length_singleton, decide_eq_true_eq]; omega)

end

/-- Settles O35: each clause meets the check it names with the checks before it passed. -/
theorem rangeAndTableRefused : Obligations.RangeAndTableRefused := by
  unfold Obligations.RangeAndTableRefused
  refine ⟨fun p link tag n s => ⟨fun hn h => ?_, fun hn h => ?_, fun hn h => ?_, fun hn h => ?_, fun hn h => ?_⟩,
    fun p link tag m a b id s => ⟨fun hid h => ?_, fun hid h => ?_, fun hm => ⟨fun h => ?_, fun h => ?_, fun h => ?_,
      fun h => ?_, fun h => ?_, fun h => ?_, fun h => ?_, fun h => ?_, fun hid h => ?_⟩, fun hm hid hnew hfull h => ?_⟩⟩
  · exact exec_refused rfl h (segRead_range hn)
  · exact exec_refused rfl h (sensorRead_range hn)
  · exact exec_refused rfl h (tableRead_range hn)
  · exact exec_refused rfl h (couplingRead_range hn)
  · exact exec_refused rfl h (energyRead_range hn)
  · exact exec_refused rfl h (capSet_range hid a b)
  · exact exec_refused rfl h (capCancel_range hid)
  · exact exec_refused rfl h (overrideSet_notConfigured hm a b)
  · exact exec_refused rfl h (overrideCancel_notConfigured hm)
  · exact exec_refused rfl h (lockSet_notConfigured hm a)
  · exact exec_refused rfl h (lockRelease_notConfigured hm)
  · exact exec_refused rfl h (holdSet_notConfigured hm a)
  · exact exec_refused rfl h (holdSettled_notConfigured hm)
  · exact exec_refused rfl h (glareSet_notConfigured hm a)
  · exact exec_refused rfl h (energyClear_notConfigured hm)
  · exact exec_refused rfl h (capSet_notConfigured hid hm a b)
  · exact exec_refused rfl h (capSet_full hid hm hnew hfull a b)

/-! ## Records of one width, padded -/

theorem beBytes_one (n : Nat) : beBytes 1 n = [BitVec.ofNat 8 n] := by simp [beBytes]

/-- The first records of a list, zeros where the list ends before (R94, R179). -/
def paddedRecords {α : Type} (w m : Nat) (f : α → List Byte) (l : List α) : List Byte :=
  (l.take m).flatMap f ++ List.replicate (w * m - ((l.take m).flatMap f).length) 0

section
variable {α : Type} {w : Nat} {f : α → List Byte}

theorem paddedRecords_nil (m : Nat) : paddedRecords w m f [] = List.replicate (w * m) 0 := by simp [paddedRecords]

theorem paddedRecords_zero (l : List α) : paddedRecords w 0 f l = [] := by simp [paddedRecords]

theorem paddedRecords_cons (hf : ∀ e, (f e).length = w) (m : Nat) (e : α) (l : List α) :
    paddedRecords w (m + 1) f (e :: l) = f e ++ paddedRecords w m f l := by
  have hpad : w * (m + 1) - (w + ((l.take m).flatMap f).length) = w * m - ((l.take m).flatMap f).length := by
    rw [Nat.mul_succ]; omega
  simp only [paddedRecords, List.take_succ_cons, List.flatMap_cons, List.length_append, hf, hpad, List.append_assoc]

theorem length_paddedRecords (hf : ∀ e, (f e).length = w) : ∀ (m : Nat) (l : List α), (paddedRecords w m f l).length = w * m
  | 0, l => by rw [paddedRecords_zero]; rfl
  | m + 1, [] => by rw [paddedRecords_nil, List.length_replicate]
  | m + 1, e :: l => by
    rw [paddedRecords_cons hf, List.length_append, hf, length_paddedRecords hf m l, Nat.mul_succ, Nat.add_comm]

/-- The bytes at the place of a record are the record's, or zeros beyond the end of the list. -/
theorem paddedRecords_record (hf : ∀ e, (f e).length = w) : ∀ (m j : Nat) (l : List α), j < m →
    ((paddedRecords w m f l).drop (w * j)).take w = (l[j]?.map f).getD (List.replicate w 0)
  | m + 1, j, [], hj => by
    have hw : w ≤ w * (m + 1) - w * j := by
      rw [← Nat.mul_sub]; exact Nat.le_mul_of_pos_right w (by omega)
    rw [paddedRecords_nil, List.drop_replicate, List.take_replicate, Nat.min_eq_left hw]
    rfl
  | m + 1, 0, e :: l, _ => by
    rw [paddedRecords_cons hf, Nat.mul_zero, List.drop_zero, List.take_left' (hf e)]
    rfl
  | m + 1, j + 1, e :: l, hj => by
    have hskip : w * (j + 1) = (f e).length + w * j := by rw [hf, Nat.mul_succ, Nat.add_comm]
    rw [paddedRecords_cons hf, hskip, List.drop_length_add_append, paddedRecords_record hf m j l (by omega), List.getElem?_cons_succ]

end

/-! ## Payloads (R179) -/

theorem sensorRead_val (k : SensorId) (s : State) : sensorRead k.val s = answer (sensorPayload k s) s := by
  rw [sensorRead, sensorId?_val]

theorem couplingRead_val (k : SensorId) (s : State) : couplingRead k.val s = answer (couplingPayload k s.coupling) s := by
  rw [couplingRead, sensorId?_val]

theorem tableRead_lt {n : Nat} (h : n < 32) (s : State) : tableRead n s = answer (tablePayload n s.table) s :=
  if_neg (Nat.not_le_of_lt h)

/-- The entry of a coupling list takes three bytes (R40). -/
theorem couplingPayload_eq (k : SensorId) (x : CouplingStore) : couplingPayload k x =
    [BitVec.ofNat 8 k.val, BitVec.ofNat 8 x.dark[k], BitVec.ofNat 8 x.lists[k].length]
      ++ ((x.lists[k].flatMap fun e => BitVec.ofNat 8 e.group.val :: beBytes 2 e.coeff)
      ++ List.replicate (18 - 3 * x.lists[k].length) 0) := by
  have hlength : ∀ l : List Coupling,
      (l.flatMap fun e => BitVec.ofNat 8 e.group.val :: beBytes 2 e.coeff).length = 3 * l.length := fun l => by
    simp [List.length_flatMap, Nat.mul_comm]
  simp only [couplingPayload, beBytes_one, List.cons_append, List.nil_append, hlength]

theorem length_entryRecord (u : Nat) (e : Entry) : (entryRecord u e).length = 7 := by
  cases h : expiryOf e <;> simp [entryRecord, h, wordOrAbsent]

/-- The two bytes of an absent word (R176). -/
theorem beBytes_none : beBytes 2 0xFFFF = [0xFF, 0xFF] := by decide

section
variable (u : Nat) (mask : SegMask)

theorem entryRecord_override (level x : Nat) : entryRecord u ⟨mask, .override level x⟩ =
    0x00 :: beBytes 2 mask.toNat ++ beBytes 2 level ++ beBytes 2 (x - u) := by
  rw [entryRecord, beBytes_one]
  rfl

theorem entryRecord_hold (x : Nat) (settling : Bool) : entryRecord u ⟨mask, .hold x settling⟩ =
    (if settling then 0x60 else 0x40) :: beBytes 2 mask.toNat ++ [0, 0] ++ beBytes 2 (x - u) := by
  have hvalue : beBytes 2 0 = [0, 0] := by decide
  rw [entryRecord, beBytes_one, entryValue, hvalue]
  cases settling <;> rfl

theorem entryRecord_lock (level : Nat) : entryRecord u ⟨mask, .lock level⟩ =
    0x80 :: beBytes 2 mask.toNat ++ beBytes 2 level ++ [0xFF, 0xFF] := by
  rw [entryRecord, beBytes_one, expiryOf, Option.map_none, wordOrAbsent, beBytes_none]
  rfl

theorem entryRecord_cap (id level : Nat) (x : Option Nat) : entryRecord u ⟨mask, .cap id level x⟩ =
    BitVec.ofNat 8 (192 + id) :: beBytes 2 mask.toNat ++ beBytes 2 level ++ wordOrAbsent (x.map fun x => x - u) := by
  rw [entryRecord, beBytes_one]
  rfl

end

theorem tablePayload_eq (n : Nat) (t : Table) : tablePayload n t =
    [BitVec.ofNat 8 n, BitVec.ofNat 8 t.entries.length] ++ beBytes 4 t.uptime
      ++ paddedRecords 7 4 (entryRecord t.uptime) (t.entries.drop n) := by
  simp only [tablePayload, paddedRecords, beBytes_one, List.append_assoc, List.cons_append, List.nil_append]

/-- Settles O31. -/
theorem sensorCouplingTableRead : Obligations.SensorCouplingTableRead := by
  unfold Obligations.SensorCouplingTableRead
  refine ⟨fun p link tag k s => ⟨fun h => ?_, fun h _ => ?_⟩, fun p link tag n s hn h => ?_⟩
  · rw [exec_answered rfl h (sensorRead_val k s)]
    congr 2
    simp only [sensorPayload, beBytes_one, bit]
    cases s.sensors.holders[k].state <;> simp [holderCode]
  · rw [exec_answered rfl h (couplingRead_val k s), couplingPayload_eq]
  · refine ⟨paddedRecords 7 4 (entryRecord s.table.uptime) (s.table.entries.drop n), ?_,
      length_paddedRecords (length_entryRecord _) 4 _, fun j => ?_⟩
    · rw [exec_answered rfl h (tableRead_lt hn s), tablePayload_eq]
    · rw [paddedRecords_record (length_entryRecord _) 4 j.val _ j.isLt, List.getElem?_drop]
      cases s.table.entries[n + j.val]? with
      | none => rfl
      | some e =>
        obtain ⟨mask, ask⟩ := e
        cases ask with
        | override level x => exact entryRecord_override ..
        | hold x settling => exact entryRecord_hold ..
        | lock level => exact entryRecord_lock ..
        | cap id level x =>
          refine (entryRecord_cap s.table.uptime mask id level x).trans ?_
          cases x with
          | none => rw [Option.map_none, wordOrAbsent, beBytes_none]
          | some x => rfl

end Sys2Proof.Proofs
end

section
/-! PROOFS. Daylight estimation and the coupling store (Section 3): the raw daylight of a segment (R41, R42, R44, R46) and
COUPLING_WRITE (R36, R37). -/

namespace Sys2Proof.Proofs

open Sys2Proof Sys2Proof.Machine Sys2Proof.Safety Sys2Proof.Laws

/-! ## Estimation (R41, R42, R44, R46) -/

theorem litLevel_none {l : Lum} {g : GroupId} (h : l.groups[g] = none) : litLevel l g = 0 := by
  rw [litLevel, h]
  rfl

theorem litLevel_some {l : Lum} {g : GroupId} {r : Group} (h : l.groups[g] = some r) :
    litLevel l g = if r.failed then 0 else r.present := by
  rw [litLevel, h]
  rfl

/-- The exact difference clamped at 0 is the truncated one (R44). -/
theorem daylightFrom_eq (e d a : Nat) : daylightFrom e d a = min 20000 (e - d - a) := by
  unfold daylightFrom
  omega

theorem holderUsable_iff {h : Holder} : holderUsable h = true ↔ h.state = .fresh ∨ h.state = .suspect := by
  simp [holderUsable]

theorem usableDaylight_some {s : State} {k : SensorId}
    (h : s.sensors.holders[k].state = .fresh ∨ s.sensors.holders[k].state = .suspect) :
    usableDaylight s (some k) = some (daylightAt s k) := if_pos (holderUsable_iff.mpr h)

theorem usableDaylight_none {s : State} {q : Option SensorId}
    (h : ∀ k, q = some k → ¬ (s.sensors.holders[k].state = .fresh ∨ s.sensors.holders[k].state = .suspect)) :
    usableDaylight s q = none := by
  cases q with
  | none => rfl
  | some k => exact if_neg fun hu => h k rfl (holderUsable_iff.mp hu)

/-- Settles O45, by which of the two sensors are usable. -/
theorem rawDaylightRule : Obligations.RawDaylightRule := by
  unfold Obligations.RawDaylightRule
  intro i s daylight usable
  have hday : ∀ k, daylightAt s k = daylight k := fun k => by
    rw [daylightAt, daylightFrom_eq, contribution]
    have hlit : ∀ e : Coupling, e.coeff * litLevel s.lum e.group = e.coeff *
        (match s.lum.groups[e.group] with
        | none => 0
        | some r => if r.failed then 0 else r.present) := fun e => by
      cases hg : s.lum.groups[e.group] with
      | none => rw [litLevel_none hg]
      | some r => rw [litLevel_some hg]
    simp only [hlit]
    rfl
  have hsome : ∀ k, usable k → usableDaylight s (some k) = some (daylight k) := fun k hk => by
    rw [usableDaylight_some hk, hday]
  have hnone : ∀ k, ¬ usable k → usableDaylight s (some k) = none := fun k hk =>
    usableDaylight_none fun j hj => by cases hj; exact hk
  refine ⟨fun k hp hs hk => ?_, fun k j hp hs hk hj => ?_, fun k j hp hs hk hj => ?_, fun k j hp hs hk hj => ?_, fun h => ?_⟩
  · rw [rawDaylight, hp, hs, hsome k hk]
    rfl
  · rw [rawDaylight, hp, hs, hsome k hk, hsome j hj]
    rfl
  · rw [rawDaylight, hp, hs, hsome k hk, hnone j hj]
    rfl
  · rw [rawDaylight, hp, hs, hnone k hk, hsome j hj]
    rfl
  · rw [rawDaylight, usableDaylight_none fun k hk => h k (.inl hk), usableDaylight_none fun k hk => h k (.inr hk)]
    rfl

/-! ## The list of COUPLING_WRITE (R37) -/

/-- Entries computed group by group stand in strictly ascending group order (R37, R145). -/
theorem pairwise_filterMap_group {f : GroupId → Option Coupling} (hf : ∀ g, ∀ e ∈ f g, e.group = g) :
    ((List.finRange 48).filterMap f).Pairwise fun a b => a.group < b.group := by
  refine List.pairwise_filterMap.mpr ((List.pairwise_lt_finRange 48).imp fun hlt a ha b hb => ?_)
  rwa [hf _ a ha, hf _ b hb]

theorem positionEntry_eq_some {ps : List (Nat × Nat)} {g : GroupId} {e : Coupling} : positionEntry ps g = some e ↔
    e.group = g ∧ ∃ q, ps.find? (·.1 == g.val) = some q ∧ q.2 ≠ 0 ∧ e.coeff = min q.2 4095 := by
  obtain ⟨group, coeff⟩ := e
  unfold positionEntry
  cases hq : ps.find? (·.1 == g.val) with
  | none => simp
  | some q =>
    by_cases h0 : q.2 = 0
    · simp [h0]
    · simp [h0, eq_comm]

theorem mem_buildList {ps : List (Nat × Nat)} {e : Coupling} : e ∈ buildList ps ↔
    ∃ q, ps.find? (·.1 == e.group.val) = some q ∧ q.2 ≠ 0 ∧ e.coeff = min q.2 4095 := by
  simp only [buildList, List.mem_filterMap, List.mem_finRange, true_and, positionEntry_eq_some]
  exact ⟨fun ⟨_, hg, h⟩ => hg ▸ h, fun h => ⟨e.group, rfl, h⟩⟩

theorem pairwise_buildList (ps : List (Nat × Nat)) : (buildList ps).Pairwise fun a b => a.group < b.group :=
  pairwise_filterMap_group fun _ _ he => (positionEntry_eq_some.mp he).1

/-- Where no two positions name the same number, the one that names it is found. -/
theorem find?_position {ps : List (Nat × Nat)} (h : (ps.map Prod.fst).Nodup) {n : Nat} {q : Nat × Nat} :
    ps.find? (·.1 == n) = some q ↔ q ∈ ps ∧ q.1 = n := by
  refine ⟨fun hq => ⟨List.mem_of_find?_eq_some hq, by simpa using List.find?_some hq⟩, fun ⟨hq, hn⟩ => ?_⟩
  cases hf : ps.find? (·.1 == n) with
  | none => exact absurd hn (by simpa using List.find?_eq_none.mp hf q hq)
  | some x =>
    have hx : x.1 = n := by simpa using List.find?_some hf
    rw [List.inj_on_of_nodup_map h (List.mem_of_find?_eq_some hf) hq (hx.trans hn.symm)]

/-! ## COUPLING_WRITE (R36, R37) -/

theorem positionExists_iff {l : Lum} {q : Nat × Nat} : positionExists l q = true ↔ NamesGroup l q.1 := by
  by_cases h : q.1 < 48 <;> simp [positionExists, groupId?, NamesGroup, h]

theorem repeatsGroup_eq_false {ps : List (Nat × Nat)} : repeatsGroup ps = false ↔ (ps.map Prod.fst).Nodup := by
  induction ps with
  | nil => simp [repeatsGroup]
  | cons q rest ih =>
    rw [repeatsGroup, Bool.or_eq_false_iff, ih, List.map_cons, List.nodup_cons]
    refine and_congr_left fun _ => ?_
    simp only [List.any_eq_false, List.mem_map, not_exists, not_and, beq_iff_eq]

section
variable {n : Nat} {ps : List (Nat × Nat)} {s : State}

theorem any_not_positionExists : ((ps.any fun q => !positionExists s.lum q) = true) ↔ ∃ q ∈ ps, ¬ NamesGroup s.lum q.1 := by
  simp only [List.any_eq_true, Bool.not_eq_true', ← Bool.not_eq_true, positionExists_iff]

/-- The checks of R36 before the last. -/
theorem couplingWrite_range {k : Nat} (d : Nat) (h : 32 ≤ k ∨ 6 < n ∨ (∃ q ∈ ps.take n, ¬ NamesGroup s.lum q.1) ∨
    ¬ ((ps.take n).map Prod.fst).Nodup) : couplingWrite k d n ps s = refuse .range s := by
  rw [← any_not_positionExists, ← repeatsGroup_eq_false, Bool.not_eq_false] at h
  unfold couplingWrite
  dsimp only
  split
  · rfl
  · next j hj =>
    have hk : ¬ 32 ≤ k := fun hk => by rw [sensorId?_none hk] at hj; cases hj
    split
    · rfl
    · split
      · rfl
      · split
        · rfl
        · simp_all

/-- With the checks on the positions passed, what is left is the check on a run (R36, check 5). -/
theorem couplingWrite_checked (k : SensorId) (d : Nat) (hn : n ≤ 6) (hg : ∀ q ∈ ps.take n, NamesGroup s.lum q.1)
    (hr : ((ps.take n).map Prod.fst).Nodup) : couplingWrite k.val d n ps s =
      if (s.cal.run.map fun r => r.sensors.contains k).getD false then refuse .busy s
      else accept ((ps.take n).any fun q => 4095 < q.2)
        (s.setCoupling (writeCoupling k (buildList (ps.take n)) d s.coupling)) := by
  have hany : ¬ ((ps.take n).any fun q => !positionExists s.lum q) = true := fun h => by
    obtain ⟨q, hq, hne⟩ := any_not_positionExists.mp h
    exact hne (hg q hq)
  unfold couplingWrite
  dsimp only
  rw [sensorId?_val]
  dsimp only
  rw [if_neg (by omega), if_neg hany, if_neg (by rw [repeatsGroup_eq_false.mpr hr]; decide)]

/-- All that COUPLING_WRITE does to the state: nothing, or one sensor's list and dark offset (R36, R37). -/
theorem couplingWrite_cases (k d n : Nat) (ps : List (Nat × Nat)) (s : State) : (couplingWrite k d n ps s).state = s ∨
    ∃ j, n ≤ 6 ∧ (couplingWrite k d n ps s).state =
      s.setCoupling (writeCoupling j (buildList (ps.take n)) d s.coupling) := by
  by_cases hbad : 32 ≤ k ∨ 6 < n ∨ (∃ q ∈ ps.take n, ¬ NamesGroup s.lum q.1) ∨ ¬ ((ps.take n).map Prod.fst).Nodup
  · rw [couplingWrite_range d hbad]
    exact .inl rfl
  · push Not at hbad
    obtain ⟨hk, hn, hg, hr⟩ := hbad
    rw [couplingWrite_checked ⟨k, hk⟩ d hn hg hr]
    split
    · exact .inl rfl
    · exact .inr ⟨⟨k, hk⟩, hn, rfl⟩

end

theorem involved_iff {run : Option CalRun} {k : SensorId} :
    ((run.map fun r => r.sensors.contains k).getD false) = true ↔ ∃ r ∈ run, r.sensors.contains k = true := by
  cases run <;> simp

/-- Settles O34: with every check on the positions passed, the involvement in a run alone decides; of positions that name
different groups, the one of a group is the one that is found. -/
theorem couplingWriteRule : Obligations.CouplingWriteRule := by
  unfold Obligations.CouplingWriteRule
  refine ⟨fun p link tag k d n ps s h st hst => ?_, fun p link tag k d n ps s h hn hg hr hidle => ?_⟩
  · rcases hst with ⟨rfl, hst⟩ | ⟨rfl, hn, hg, hr, hk, hrun⟩
    · exact exec_refused rfl h (couplingWrite_range d hst)
    · refine exec_refused rfl h ((couplingWrite_checked ⟨k, hk⟩ d hn hg hr).trans (if_pos ?_))
      exact involved_iff.mpr hrun
  · refine ⟨buildList (ps.take n), ?_, pairwise_buildList _, fun e => ?_⟩
    · have hwrite := (couplingWrite_checked k d hn hg hr).trans (if_neg fun hi => by
        obtain ⟨r, hr, hc⟩ := involved_iff.mp hi
        exact absurd (hidle r hr) (by rw [hc]; decide))
      have hstatus : okStatus ((ps.take n).any fun q => 4095 < q.2) =
          if ∀ q ∈ ps.take n, q.2 ≤ 4095 then .ok else .okClamped := okStatus_eq (by simp)
      refine (congrArg Host.Outcome.next (serve_runs _ h)).trans ?_
      dsimp only
      rw [hwrite, accept, hstatus]
      rfl
    · rw [mem_buildList]
      simp only [find?_position hr, and_assoc]

end Sys2Proof.Proofs
end

section
/-! PROOFS. The law of the coupling lists (R32): which commands reach the lists or the pending coefficients of a run, and the
lists that COUPLING_WRITE and a commit build. -/

namespace Sys2Proof.Proofs

open Sys2Proof Sys2Proof.Machine Sys2Proof.Safety Sys2Proof.Laws

/-! ## The list of a commit (R145) -/

theorem before_iff {a b : Coupling} :
    before a b = true ↔ b.coeff < a.coeff ∨ a.coeff = b.coeff ∧ a.group < b.group := by
  simp [before]

theorem before_irrefl (a : Coupling) : ¬ before a a = true := by simp [before_iff]

theorem before_trans {a b c : Coupling} (h : before a b = true) (k : before b c = true) : before a c = true := by
  simp only [before_iff, Fin.lt_def] at *
  omega

theorem before_total {a b : Coupling} (h : a ≠ b) : before a b = true ∨ before b a = true := by
  obtain ⟨g, m⟩ := a
  obtain ⟨g', m'⟩ := b
  simp only [ne_eq, Coupling.mk.injEq, before_iff, Fin.lt_def, Fin.ext_iff] at *
  omega

/-- How many entries of the list go before the entry (R145). -/
def rank (l : List Coupling) (c : Coupling) : Nat := (l.filter fun d => before d c).length

theorem topSix_eq (l : List Coupling) : topSix l = l.filter fun c => rank l c < 6 := rfl

/-- An entry ranks behind each of the entries that go before it. -/
theorem rank_lt {l : List Coupling} (hl : l.Nodup) {a b : Coupling} (ha : a ∈ l) (h : before a b = true) :
    rank l a < rank l b := by
  have hnodup : (a :: l.filter fun d => before d a).Nodup :=
    List.nodup_cons.mpr ⟨fun hm => before_irrefl a (List.mem_filter.mp hm).2, hl.filter _⟩
  refine (List.subperm_of_subset hnodup fun d hd => ?_).length_le
  rcases List.mem_cons.mp hd with rfl | hd
  · exact List.mem_filter.mpr ⟨ha, h⟩
  · obtain ⟨hd, hda⟩ := List.mem_filter.mp hd
    exact List.mem_filter.mpr ⟨hd, before_trans hda h⟩

/-- The entries kept have different ranks below six, so there are no more than six. -/
theorem length_topSix {l : List Coupling} (hl : l.Nodup) : (topSix l).length ≤ 6 := by
  have hmem : ∀ c ∈ topSix l, c ∈ l ∧ rank l c < 6 := fun c hc => by simpa [topSix_eq] using hc
  have hinj : ∀ a ∈ topSix l, ∀ b ∈ topSix l, rank l a = rank l b → a = b := fun a ha b hb he => by
    by_contra hne
    rcases before_total hne with h | h
    · exact absurd (rank_lt hl (hmem a ha).1 h) (by omega)
    · exact absurd (rank_lt hl (hmem b hb).1 h) (by omega)
  have hranks : ((topSix l).map (rank l)).Nodup := List.Nodup.map_on hinj (hl.filter _)
  have hle := (List.subperm_of_subset (l₂ := List.range 6) hranks fun n hn => by
    obtain ⟨c, hc, rfl⟩ := List.mem_map.mp hn
    exact List.mem_range.mpr (hmem c hc).2).length_le
  simpa using hle

theorem mem_of_coeffIn {l : List Coupling} {g : GroupId} {c : Nat} (h : coeffIn l g = some c) : (⟨g, c⟩ : Coupling) ∈ l := by
  obtain ⟨e, he, rfl⟩ := Option.map_eq_some_iff.mp h
  have hg : e.group = g := by simpa using List.find?_some he
  exact hg ▸ List.mem_of_find?_eq_some he

/-- A candidate is a measured pair of coefficient 2 or more, or the old entry (R145). -/
theorem candidate_cases {r : CalRun} {a : CalSensor} {old : List Coupling} {g : GroupId} {e : Coupling}
    (h : candidate r a old g = some e) : e.group = g ∧ (e ∈ a.measured ∧ 2 ≤ e.coeff ∨ e ∈ old) := by
  unfold candidate at h
  split at h
  · next c hc =>
    split at h
    · next h2 =>
      cases h
      split at hc
      · exact ⟨rfl, .inl ⟨mem_of_coeffIn hc, h2⟩⟩
      · cases hc
    · cases h
  · obtain ⟨c, hc, rfl⟩ := Option.map_eq_some_iff.mp h
    exact ⟨rfl, .inr (mem_of_coeffIn hc)⟩

theorem listLaw_newList {r : CalRun} {a : CalSensor} {old : List Coupling} (ha : ∀ e ∈ a.measured, e.coeff ≤ 4095)
    (hold : ListLaw old) : ListLaw (newList r a old) := by
  have hpair := pairwise_filterMap_group (f := candidate r a old) fun g e he => (candidate_cases he).1
  refine ⟨length_topSix (hpair.imp fun hlt he => by rw [he] at hlt; exact absurd hlt (lt_irrefl _)), hpair.filter _,
    fun e he => ?_⟩
  obtain ⟨g, _, hg⟩ := List.mem_filterMap.mp (List.mem_filter.mp he).1
  rcases (candidate_cases hg).2 with ⟨hm, h2⟩ | ho
  · exact ⟨by omega, ha e hm⟩
  · exact hold.2.2 e ho

/-! ## The list of COUPLING_WRITE (R37) -/

theorem listLaw_buildList {ps : List (Nat × Nat)} (h : ps.length ≤ 6) : ListLaw (buildList ps) := by
  refine ⟨?_, pairwise_buildList ps, fun e he => ?_⟩
  · have hnodup : ((buildList ps).map fun e => e.group.val).Nodup :=
      List.pairwise_map.mpr ((pairwise_buildList ps).imp fun hlt => (Fin.lt_def.mp hlt).ne)
    have hle := (List.subperm_of_subset (l₂ := ps.map Prod.fst) hnodup fun n hn => by
      obtain ⟨e, he, rfl⟩ := List.mem_map.mp hn
      obtain ⟨q, hq, _⟩ := mem_buildList.mp he
      have hg : q.1 = e.group.val := by simpa using List.find?_some hq
      exact List.mem_map.mpr ⟨q, List.mem_of_find?_eq_some hq, hg⟩).length_le
    simp only [List.length_map] at hle
    omega
  · obtain ⟨q, _, h0, hc⟩ := mem_buildList.mp he
    omega

/-! ## Pending coefficients (R143) -/

/-- Every pending coefficient of the run lies within 0..4095. -/
def PendingLaw (r : CalRun) : Prop := ∀ k : SensorId, ∀ e ∈ r.gathered[k].measured, e.coeff ≤ 4095

/-- Every coupling list of the store keeps its law. -/
def ListsLaw (x : CouplingStore) : Prop := ∀ k : SensorId, ListLaw x.lists[k]

theorem couplingLaw_iff {s : State} : CouplingLaw s ↔ ListsLaw s.coupling ∧ ∀ r ∈ s.cal.run, PendingLaw r := Iff.rfl

theorem couplingLaw_idle {s : State} (hl : ListsLaw s.coupling) (hr : s.cal.run = none) : CouplingLaw s :=
  couplingLaw_iff.mpr ⟨hl, fun r h => by rw [hr] at h; cases h⟩

theorem couplingLaw_setRun {r : CalRun} {s : State} : CouplingLaw (setRun r s) ↔ ListsLaw s.coupling ∧ PendingLaw r := by
  simp [couplingLaw_iff]

theorem coefficient_le {q : CalParams} {a : CalSensor} {c : Nat} (h : coefficient q a = some c) : c ≤ 4095 := by
  unfold coefficient at h
  split at h
  · cases h
  · cases h
    split <;> omega

theorem settlePair_le {q : CalParams} {g : GroupId} {a : CalSensor} (h : ∀ e ∈ a.measured, e.coeff ≤ 4095) :
    ∀ e ∈ (settlePair q g a).measured, e.coeff ≤ 4095 := by
  unfold settlePair
  cases hc : coefficient q a with
  | none => exact h
  | some c =>
    intro e he
    rcases List.mem_append.mp he with he | he
    · exact h e he
    · rw [List.mem_singleton.mp he]
      exact coefficient_le hc

theorem pendingLaw_mapInvolved {r : CalRun} {f : CalSensor → CalSensor} (h : PendingLaw r)
    (hf : ∀ a : CalSensor, (∀ e ∈ a.measured, e.coeff ≤ 4095) → ∀ e ∈ (f a).measured, e.coeff ≤ 4095) :
    PendingLaw (mapInvolved r f) := fun k => by
  have hk : (mapInvolved r f).gathered[k] = if r.sensors.contains k then f r.gathered[k] else r.gathered[k] := ofFn_get _ k
  rw [hk]
  split
  · exact hf _ (h k)
  · exact h k

/-- A sample is added to sums and counts alone (R142). -/
theorem deliverSample_measured (c k : SensorId) (v : Nat) (r : CalRun) :
    (deliverSample c v r).gathered[k].measured = r.gathered[k].measured := by
  unfold deliverSample
  split
  · rw [updAt_get]
    split
    · cases r.phase <;> rfl
    · rfl
  · rfl

/-! ## Changes that leave the coupling lists alone -/

/-- The coupling lists are the same, and what is pending in a run was pending before. -/
structure CouplingKept (s t : State) : Prop where
  lists : t.coupling.lists = s.coupling.lists
  pending : ∀ r' ∈ t.cal.run, ∀ k : SensorId, ∀ e ∈ r'.gathered[k].measured, ∃ r ∈ s.cal.run, e ∈ r.gathered[k].measured

theorem CouplingKept.of_eq {s t : State} (hl : t.coupling.lists = s.coupling.lists) (hr : t.cal.run = s.cal.run) :
    CouplingKept s t := ⟨hl, fun r h _ _ he => ⟨r, hr ▸ h, he⟩⟩

theorem CouplingKept.of_idle {s t : State} (hl : t.coupling.lists = s.coupling.lists) (hr : t.cal.run = none) :
    CouplingKept s t := ⟨hl, fun r h => by rw [hr] at h; cases h⟩

/-- The run goes on with what it has gathered. -/
theorem CouplingKept.of_gathered {s t : State} {r r' : CalRun} (hl : t.coupling.lists = s.coupling.lists)
    (hr : s.cal.run = some r) (hr' : t.cal.run = some r') (hg : r'.gathered = r.gathered) : CouplingKept s t :=
  ⟨hl, fun x hx k e he => ⟨r, hr, by rw [hr'] at hx; cases hx; rwa [hg] at he⟩⟩

theorem CouplingKept.refl (s : State) : CouplingKept s s := .of_eq rfl rfl

theorem CouplingKept.trans {s t u : State} (h : CouplingKept s t) (k : CouplingKept t u) : CouplingKept s u :=
  ⟨k.lists.trans h.lists, fun r hr i e he => by
    obtain ⟨r', hr', he'⟩ := k.pending r hr i e he
    exact h.pending r' hr' i e he'⟩

/-- What is done before, over other blocks, changes nothing of it. -/
theorem CouplingKept.after {s t u : State} (h : CouplingKept u t) (hl : u.coupling.lists = s.coupling.lists)
    (hr : u.cal.run = s.cal.run) : CouplingKept s t := (CouplingKept.of_eq hl hr).trans h

theorem CouplingKept.of_quiet {s t : State} (h : Quiet s t) : CouplingKept s t := .of_eq (by rw [h.coupling]) (by rw [h.cal])

theorem CouplingKept.foldl {α : Type} {f : State → α → State} (h : ∀ s a, CouplingKept s (f s a)) (l : List α) (s : State) :
    CouplingKept s (l.foldl f s) :=
  List.foldlRecOn l f (CouplingKept.refl s) fun u hu a _ => hu.trans (h u a)

theorem CouplingKept.couplingLaw {s t : State} (h : CouplingKept s t) (hs : CouplingLaw s) : CouplingLaw t := by
  obtain ⟨hlists, hpending⟩ := hs
  refine ⟨fun k => by rw [h.lists]; exact hlists k, fun r hr k e he => ?_⟩
  obtain ⟨r', hr', he'⟩ := h.pending r hr k e he
  exact hpending r' hr' k e he'

/-! ### Table changes -/

theorem couplingKept_tableChange (entries : List Entry) (inserted : Option Entry) (informed : SegMask) (s : State) :
    CouplingKept s (tableChange entries inserted informed s) := by
  obtain ⟨_, hcoupling, _, hrun | ⟨hcal, _⟩⟩ := tableChange_frame entries inserted informed s
  · exact .of_idle (by rw [hcoupling]) hrun
  · exact .of_eq (by rw [hcoupling]) (by rw [hcal])

theorem couplingKept_departDue (s : State) : CouplingKept s (departDue s) := by
  unfold departDue
  exact (couplingKept_tableChange _ _ _ _).after rfl rfl

/-- All that a request on the table does to the state: nothing, or one table change (R81, R91). -/
def TableRequested (s t : State) : Prop :=
  t = s ∨ ∃ entries inserted informed, t = tableChange entries inserted informed s

section
variable (s : State) (m : SegMask)

theorem tableRequested_accept (clamped : Bool) (entries : List Entry) (inserted : Option Entry) :
    TableRequested s (accept clamped (tableChange entries inserted m s)).state := .inr ⟨entries, inserted, m, rfl⟩

theorem tableRequested_replaceOver (sel : Entry → Bool) (new : Entry) (clamped : Bool) :
    TableRequested s (replaceOver sel m new clamped s).state := by
  unfold replaceOver
  dsimp only
  split
  · exact .inl rfl
  · exact tableRequested_accept s _ _ _ _

theorem tableRequested_releaseOver (sel : Entry → Bool) (clamped : Bool) :
    TableRequested s (releaseOver sel m clamped s).state := tableRequested_accept s _ _ _ _

theorem tableRequested_overrideSet (level minutes : Nat) : TableRequested s (overrideSet m level minutes s).state := by
  unfold overrideSet
  dsimp only
  split
  · exact .inl rfl
  · exact tableRequested_replaceOver s _ _ _ _

theorem tableRequested_overrideCancel : TableRequested s (overrideCancel m s).state := by
  unfold overrideCancel
  dsimp only
  split
  · exact .inl rfl
  · exact tableRequested_releaseOver s _ _ _

theorem tableRequested_lockSet (level : Nat) : TableRequested s (lockSet m level s).state := by
  unfold lockSet
  dsimp only
  split
  · exact .inl rfl
  · exact tableRequested_replaceOver s _ _ _ _

theorem tableRequested_lockRelease : TableRequested s (lockRelease m s).state := by
  unfold lockRelease
  dsimp only
  split
  · exact .inl rfl
  · exact tableRequested_releaseOver s _ _ _

theorem tableRequested_holdSet (seconds : Nat) : TableRequested s (holdSet m seconds s).state := by
  unfold holdSet
  dsimp only
  split
  · exact .inl rfl
  · exact tableRequested_replaceOver s _ _ _ _

theorem tableRequested_holdSettled : TableRequested s (holdSettled m s).state := by
  unfold holdSettled
  dsimp only
  split
  · exact .inl rfl
  · split
    · exact .inl rfl
    · split
      · exact tableRequested_releaseOver s _ _ _
      · exact tableRequested_replaceOver s _ _ _ _

theorem tableRequested_capSet (id level minutes : Nat) : TableRequested s (capSet id m level minutes s).state := by
  unfold capSet
  dsimp only
  repeat' split
  all_goals first | exact .inl rfl | exact tableRequested_accept s _ _ _ _

theorem tableRequested_capCancel (id : Nat) : TableRequested s (capCancel id s).state := by
  unfold capCancel
  repeat' split
  all_goals first | exact .inl rfl | exact tableRequested_accept s _ _ _ _

end

theorem TableRequested.couplingKept {s t : State} (h : TableRequested s t) : CouplingKept s t := by
  obtain rfl | ⟨_, _, _, rfl⟩ := h
  · exact .refl t
  · exact couplingKept_tableChange _ _ _ s

/-! ### The luminaire side -/

/-- Ports, groups and the link alone differ. -/
def LinkSide (s t : State) : Prop := t = { s with ports := t.ports, lum := t.lum }

theorem LinkSide.trans {s t u : State} (h : LinkSide s t) (k : LinkSide t u) : LinkSide s u := by
  unfold LinkSide at *
  rw [k, h]

theorem LinkSide.couplingKept {s t : State} (h : LinkSide s t) : CouplingKept s t := by
  rw [h]
  exact .of_eq rfl rfl

theorem linkSide_freeLink (s : State) : LinkSide s (freeLink s) := by
  unfold freeLink
  dsimp only
  split <;> rfl

theorem linkSide_setLevelDone (s : State) : LinkSide s (setLevelDone s) := by
  unfold setLevelDone
  split
  · exact LinkSide.trans (t := s.setLum _) rfl (linkSide_freeLink _)
  · rfl

theorem linkSide_applyOutcomeToGroup (o : QueryOutcome) (s : State) : LinkSide s (applyOutcomeToGroup o s) := by
  unfold applyOutcomeToGroup handAnswer
  dsimp only
  repeat' split
  all_goals rfl

theorem linkSide_endQuery (o : QueryOutcome) (s : State) : LinkSide s (endQuery o s) := rfl

theorem linkSide_windowEnd (a : Answer) (s : State) : LinkSide s (windowEnd a s) := by
  unfold windowEnd
  split
  · refine LinkSide.trans (LinkSide.trans ?_ (show LinkSide _ (setLink _ _) from rfl)) (linkSide_freeLink _)
    split
    · exact (linkSide_applyOutcomeToGroup _ s).trans (linkSide_endQuery _ _)
    · rfl
  · rfl

theorem linkSide_linkPause (s : State) : LinkSide s (linkPause s).state := by
  unfold linkPause
  split
  · rfl
  · split
    · rfl
    · rfl
    · rfl
    · exact LinkSide.trans (t := setLink _ s) rfl (linkSide_freeLink _)

theorem linkSide_linkResume (s : State) : LinkSide s (linkResume s).state := by
  unfold linkResume
  split <;> rfl

theorem linkSide_queryDriver (p : PortId) (g i : Nat) (s : State) : LinkSide s (queryDriver p g i s).state := by
  unfold queryDriver
  repeat' split
  all_goals rfl

theorem linkSide_groupClearFail (g : Nat) (s : State) : LinkSide s (groupClearFail g s).state := by
  unfold groupClearFail
  repeat' split
  all_goals rfl

theorem linkSide_powerSet (g w : Nat) (s : State) : LinkSide s (powerSet g w s).state := by
  unfold powerSet
  repeat' split
  all_goals rfl

/-! ### The run (R136 to R138, R142, R147) -/

theorem couplingKept_endRun (r : CalRun) (res : CalResult) (s : State) : CouplingKept s (endRun r res s) := by
  obtain ⟨hcal, _, _, hcoupling, _⟩ := endRun_frame r res s
  exact .of_idle (by rw [hcoupling]) (by rw [hcal])

theorem couplingKept_abortRun (why : AbortReason) (s : State) : CouplingKept s (abortRun why s) := by
  unfold abortRun
  split
  · exact .refl s
  · exact couplingKept_endRun _ _ s

theorem couplingKept_testFadeWait (s : State) : CouplingKept s (testFadeWait s) := by
  unfold testFadeWait
  split
  · exact .refl s
  · next r hr =>
    split
    · exact .of_gathered rfl hr rfl rfl
    · exact .refl s

theorem couplingKept_fadeStep (g : GroupId) (s : State) : CouplingKept s (fadeStep g s) := by
  have hlum : ∀ l, CouplingKept s (s.setLum l) := fun _ => .of_eq rfl rfl
  unfold fadeStep
  dsimp only
  split
  · exact (hlum _).trans (couplingKept_testFadeWait _)
  · exact hlum _

theorem couplingKept_judgePoll (f : SensorId → ReplyOutcome) (s : State) : CouplingKept s (judgePoll f s) := by
  unfold judgePoll
  split
  · exact .refl s
  · split
    · exact .refl s
    · dsimp only
      split
      · exact .of_eq rfl rfl
      · unfold deliver
        split
        · refine ⟨rfl, fun r' hr' k e he => ?_⟩
          obtain ⟨r, hr, rfl⟩ := Option.map_eq_some_iff.mp hr'
          exact ⟨r, hr, by rwa [deliverSample_measured] at he⟩
        · exact .of_eq rfl rfl
        · exact .of_eq rfl rfl

/-- A run begins with nothing gathered (R136). -/
theorem couplingKept_beginRun (m : SegMask) (q : CalParams) (clamped : Bool) (s : State) :
    CouplingKept s (beginRun m q clamped s) := by
  have hnew : ∀ res, CouplingKept s (s.setCal ⟨some (newRun m q s), res⟩) := fun res =>
    ⟨rfl, fun r hr k e he => by cases hr; simp [newRun, CalSensor.initial] at he⟩
  exact ((hnew _).trans (CouplingKept.foldl (f := enterCalibrating) (fun u i => .of_quiet (quiet_remode i .calibrating u))
    (maskSegs m) _)).trans (couplingKept_testFadeWait _)

theorem couplingKept_calStart (m : SegMask) (base high low half su opt : Nat) (s : State) :
    CouplingKept s (calStart m base high low half su opt s).state := by
  unfold calStart
  dsimp only
  repeat' split
  all_goals first | exact .refl s | exact couplingKept_beginRun _ _ _ s

theorem couplingKept_enterPhase (f : Phase) (probe cycle : Nat) (r : CalRun) (s : State) :
    CouplingKept (setRun r s) (enterPhase f probe cycle r s) := by
  unfold enterPhase
  dsimp only
  refine CouplingKept.trans ?_ (couplingKept_testFadeWait _)
  refine CouplingKept.trans ?_ (.foldl (f := fun s i => recompose i s) (fun u i => .of_quiet (quiet_recompose i u)) _ _)
  exact .of_gathered (r := r) rfl rfl rfl rfl

theorem couplingKept_busFault (s : State) : CouplingKept s (busFault s) := by
  unfold busFault
  split
  · exact .refl s
  · refine CouplingKept.trans ?_ (couplingKept_abortRun _ _)
    split <;> exact .of_eq rfl rfl

/-! ### Layout requests and passes -/

theorem couplingKept_segDefine (n b p q : Nat) (s : State) : CouplingKept s (segDefine n b p q s).state := by
  unfold segDefine
  repeat' split
  all_goals exact .of_eq rfl rfl

theorem couplingKept_segTune (n : Nat) (x : Tuning) (s : State) : CouplingKept s (segTune n x s).state := by
  unfold segTune
  repeat' split
  all_goals exact .of_eq rfl rfl

theorem couplingKept_bandSet (n b : Nat) (q : BandConfig) (s : State) : CouplingKept s (bandSet n b q s).state := by
  unfold bandSet
  repeat' split
  all_goals exact .of_eq rfl rfl

theorem couplingKept_writeThreshold (n : Nat) (s : State) (i : SegId) : CouplingKept s (writeThreshold n s i) := by
  have h : ∀ f, CouplingKept s (updSeg i f s) := fun _ => .of_eq rfl rfl
  unfold writeThreshold
  dsimp only
  split
  · exact (h _).trans (.of_quiet (onCtrl_setGlare i false _).quiet)
  · exact h _

theorem couplingKept_glareSet (m : SegMask) (n : Nat) (s : State) : CouplingKept s (glareSet m n s).state := by
  unfold glareSet
  dsimp only
  split
  · exact .refl s
  · exact .foldl (couplingKept_writeThreshold _) _ s

theorem couplingKept_energyClear (m : SegMask) (s : State) : CouplingKept s (energyClear m s).state := by
  unfold energyClear
  dsimp only
  split <;> exact .of_eq rfl rfl

theorem couplingKept_passSegment (i : SegId) (s : State) : CouplingKept s (passSegment i s) := by
  rw [passSegment_eq]
  exact .of_quiet ((onCtrl_passed i s).quiet.trans (quiet_recompose i _))

theorem couplingKept_restart (p : PortId) (s : State) : CouplingKept s (restart p s) := by
  have hwarm : ∀ u, CouplingKept u (warmRestart p u) := fun u => by
    refine .of_idle rfl ?_
    simp only [warmRestart, restartCal]
    split
    · assumption
    · rfl
  unfold restart
  split
  · exact .refl s
  · exact .of_eq rfl rfl
  · exact .of_eq rfl rfl
  · exact (hwarm _).after rfl rfl

/-! ## Changes of the lists -/

theorem couplingLaw_couplingWrite {s : State} (h : CouplingLaw s) (k d n : Nat) (ps : List (Nat × Nat)) :
    CouplingLaw (couplingWrite k d n ps s).state := by
  rcases couplingWrite_cases k d n ps s with hs | ⟨j, hn, hs⟩
  · rwa [hs]
  · rw [hs]
    refine ⟨fun i => ?_, h.2⟩
    rw [setCoupling_coupling, writeCoupling, set_get]
    split
    · exact listLaw_buildList ((List.length_take_le n ps).trans hn)
    · exact h.1 i

/-- A purged list is a part of the list (R9). -/
theorem listsLaw_purgeLists {x : CouplingStore} (h : ListsLaw x) (gone : GroupId → Bool) : ListsLaw (purgeLists gone x) := by
  intro k
  obtain ⟨hlen, hpair, hcoeff⟩ := h k
  have hk : (purgeLists gone x).lists[k] = x.lists[k].filter fun e => !gone e.group := by simp [purgeLists]
  rw [hk]
  exact ⟨(List.length_filter_le _ _).trans hlen, hpair.filter _, fun e he => hcoeff e (List.mem_filter.mp he).1⟩

theorem couplingLaw_segRemove {s : State} (h : CouplingLaw s) (n : Nat) : CouplingLaw (segRemove n s).state := by
  have hremove : ∀ i, CouplingLaw (removeSegment i s) := fun i => by
    have hpurged : CouplingLaw (removedUntabled i s) :=
      ⟨listsLaw_purgeLists (couplingLaw_iff.mp h).1 (ownsGroup i), h.2⟩
    exact (couplingKept_tableChange _ _ _ _).couplingLaw hpurged
  unfold segRemove
  split
  · exact h
  · split
    · exact h
    · split
      · exact h
      · split
        · exact h
        · exact hremove _

theorem listsLaw_commitStore {r : CalRun} {x : CouplingStore} (hx : ListsLaw x) (hr : PendingLaw r) :
    ListsLaw (commitStore r x) := fun k => by
  have hk : (commitStore r x).lists[k] =
      if r.sensors.contains k then newList r r.gathered[k] x.lists[k] else x.lists[k] := ofFn_get _ k
  rw [hk]
  split
  · exact listLaw_newList (hr k) (hx k)
  · exact hx k

theorem couplingLaw_commit {r : CalRun} {s : State} (h : CouplingLaw (setRun r s)) : CouplingLaw (commit r s) := by
  obtain ⟨hlists, hpending⟩ := couplingLaw_setRun.mp h
  obtain ⟨hcal, _, _, hcoupling, _⟩ := endRun_frame r (commitResult r s.cal.result) (s.setCoupling (commitStore r s.coupling))
  refine couplingLaw_idle ?_ (by rw [commit, hcal])
  rw [commit, hcoupling]
  exact listsLaw_commitStore hlists hpending

theorem couplingLaw_enterPhase {r : CalRun} {s : State} (h : CouplingLaw (setRun r s)) (f : Phase) (probe cycle : Nat) :
    CouplingLaw (enterPhase f probe cycle r s) := (couplingKept_enterPhase f probe cycle r s).couplingLaw h

/-- What follows the last cycle of a probe position: the next position, the DARK phase, or the commit (R141). -/
theorem couplingLaw_probesOver {r : CalRun} {s : State} (h : CouplingLaw (setRun r s)) :
    CouplingLaw (if r.probe + 1 < r.groups.length then enterPhase .probeHigh (r.probe + 1) 1 r s
      else if r.params.dark = .last then enterPhase .dark r.probe r.cycle r s else commit r s) := by
  split
  · exact couplingLaw_enterPhase h _ _ _
  · split
    · exact couplingLaw_enterPhase h _ _ _
    · exact couplingLaw_commit h

/-- What follows a phase: the next one with what the run has gathered, or the commit (R139 to R141). -/
theorem couplingLaw_nextPhase {r : CalRun} {s : State} (h : CouplingLaw (setRun r s)) : CouplingLaw (nextPhase r s) := by
  obtain ⟨hlists, hpending⟩ := couplingLaw_setRun.mp h
  have hdark : CouplingLaw (setRun (mapInvolved r fun a => { a with dark := darkOffset a }) s) :=
    couplingLaw_setRun.mpr ⟨hlists, pendingLaw_mapInvolved hpending fun _ ha => ha⟩
  have hpair : ∀ g, CouplingLaw (setRun (mapInvolved r (settlePair r.params g)) s) := fun g =>
    couplingLaw_setRun.mpr ⟨hlists, pendingLaw_mapInvolved hpending fun _ ha => settlePair_le ha⟩
  unfold nextPhase
  split
  · split <;> exact couplingLaw_enterPhase h _ _ _
  · dsimp only
    split
    · exact couplingLaw_enterPhase hdark _ _ _
    · exact couplingLaw_commit hdark
  · exact couplingLaw_enterPhase h _ _ _
  · split
    · exact couplingLaw_enterPhase h _ _ _
    · exact couplingLaw_probesOver (by split <;> [exact h; exact hpair _])

theorem couplingLaw_calStageTimerExpiry {s : State} (h : CouplingLaw s) : CouplingLaw (calStageTimerExpiry s) := by
  unfold calStageTimerExpiry
  split
  · exact h
  · next r hr =>
    have hrun : CouplingLaw (setRun r s) := couplingLaw_setRun.mpr ⟨h.1, h.2 r hr⟩
    split
    · unfold stageExpiry
      split
      · exact h
      · exact couplingLaw_setRun.mpr ⟨h.1, h.2 r hr⟩
      · exact couplingLaw_nextPhase hrun
      · exact couplingLaw_nextPhase hrun
    · exact h

theorem couplingLaw_powerOn (a b c : StrapPins) (s : State) : CouplingLaw (powerOn a b c s) := by
  refine couplingLaw_idle (fun k => ?_) rfl
  have hk : (powerOn a b c s).coupling.lists[k] = [] := by simp [powerOn, State.initial]
  rw [hk]
  exact ⟨Nat.zero_le _, .nil, nofun⟩

/-! ## Every step -/

/-- Every command keeps the law of the coupling lists. -/
theorem couplingLaw_exec {c : Instr} {s t : State} (h : CouplingLaw s) (he : exec c s = .next t) : CouplingLaw t := by
  have hserve : ∀ {p : PortId} {k : Kind} {owner : Body → State → Response},
      (∀ b, CouplingLaw (owner b s).state) → CouplingLaw (serve p k owner s) := fun ho =>
    serve_keeps (P := CouplingLaw) (fun _ _ hu => hu) h ho
  have keeps : ∀ {t}, CouplingKept s t → CouplingLaw t := fun k => k.couplingLaw h
  have side : ∀ {t}, LinkSide s t → CouplingLaw t := fun k => keeps k.couplingKept
  have table : ∀ {t}, TableRequested s t → CouplingLaw t := fun k => keeps k.couplingKept
  cases c
  all_goals injection he with he; subst he
  case powerOnReset => exact couplingLaw_powerOn _ _ _ s
  case selectAssert | selectRelease | roundTimerExpiry | turnaroundEnd | energyTick | queryFrameCompletion =>
    exact keeps (.of_eq rfl rfl)
  case nop | ident | causesRead | queryResult | calResultRead | eventsRead | layoutLock =>
    exact hserve fun _ => keeps (.of_eq rfl rfl)
  case causesClear | enablesWrite | settleSet => refine hserve fun b => ?_; split <;> exact keeps (.of_eq rfl rfl)
  case segRead => refine hserve fun b => ?_; split; exacts [by unfold segRead; split <;> exact h, h]
  case sensorRead => refine hserve fun b => ?_; split; exacts [by unfold sensorRead; split <;> exact h, h]
  case tableRead => refine hserve fun b => ?_; split; exacts [by unfold tableRead; split <;> exact h, h]
  case couplingRead => refine hserve fun b => ?_; split; exacts [by unfold couplingRead; split <;> exact h, h]
  case energyRead => refine hserve fun b => ?_; split; exacts [by unfold energyRead; split <;> exact h, h]
  case segDefine => refine hserve fun b => ?_; split; exacts [keeps (couplingKept_segDefine _ _ _ _ s), h]
  case segRemove => refine hserve fun b => ?_; split; exacts [couplingLaw_segRemove h _, h]
  case segTune => refine hserve fun b => ?_; split; exacts [keeps (couplingKept_segTune _ _ s), h]
  case bandSet => refine hserve fun b => ?_; split; exacts [keeps (couplingKept_bandSet _ _ _ s), h]
  case glareSet => refine hserve fun b => ?_; split; exacts [keeps (couplingKept_glareSet _ _ s), h]
  case energyClear => refine hserve fun b => ?_; split; exacts [keeps (couplingKept_energyClear _ s), h]
  case couplingWrite => refine hserve fun b => ?_; split; exacts [couplingLaw_couplingWrite h _ _ _ _, h]
  case overrideSet => refine hserve fun b => ?_; split; exacts [table (tableRequested_overrideSet s _ _ _), h]
  case overrideCancel => refine hserve fun b => ?_; split; exacts [table (tableRequested_overrideCancel s _), h]
  case lockSet => refine hserve fun b => ?_; split; exacts [table (tableRequested_lockSet s _ _), h]
  case lockRelease => refine hserve fun b => ?_; split; exacts [table (tableRequested_lockRelease s _), h]
  case holdSet => refine hserve fun b => ?_; split; exacts [table (tableRequested_holdSet s _ _), h]
  case holdSettled => refine hserve fun b => ?_; split; exacts [table (tableRequested_holdSettled s _), h]
  case capSet => refine hserve fun b => ?_; split; exacts [table (tableRequested_capSet s _ _ _ _), h]
  case capCancel => refine hserve fun b => ?_; split; exacts [table (tableRequested_capCancel s _), h]
  case calStart => refine hserve fun b => ?_; split; exacts [keeps (couplingKept_calStart _ _ _ _ _ _ _ s), h]
  case calAbort => exact hserve fun _ => keeps (couplingKept_abortRun _ s)
  case linkPause => exact hserve fun _ => side (linkSide_linkPause s)
  case linkResume => exact hserve fun _ => side (linkSide_linkResume s)
  case groupClearFail => refine hserve fun b => ?_; split; exacts [side (linkSide_groupClearFail _ s), h]
  case powerSet => refine hserve fun b => ?_; split; exacts [side (linkSide_powerSet _ _ s), h]
  case queryDriver => refine hserve fun b => ?_; split; exacts [side (linkSide_queryDriver _ _ _ s), h]
  case restart => exact keeps (couplingKept_restart _ s)
  case sensorReply | replyWindowTimeout | interByteGap => exact keeps (couplingKept_judgePoll _ s)
  case pass => split; exacts [keeps (couplingKept_passSegment _ s), h]
  case fadeStep => exact keeps (couplingKept_fadeStep _ s)
  case uptimeTick => exact keeps ((couplingKept_departDue _).after rfl rfl)
  case entryExpiry => exact keeps (couplingKept_departDue s)
  case setLevelCompletion => exact side (linkSide_setLevelDone s)
  case answerWindowEnd => exact side (linkSide_windowEnd _ s)
  case busFault => exact keeps (couplingKept_busFault s)
  case busRestoration => split <;> exact keeps (.of_eq rfl rfl)
  case calStageTimerExpiry => exact couplingLaw_calStageTimerExpiry h

/-- Settles O5: lists are written by COUPLING_WRITE, which builds one entry a counted position, purged by SEG_REMOVE, and
replaced at a commit by the six candidates that go first; the coefficients pending for it are brought to 4095 when measured. -/
theorem couplingLawKept : Obligations.CouplingLawKept := by
  unfold Obligations.CouplingLawKept
  exact step_keeps (fun _ _ h => h) fun c s t h he => couplingLaw_exec h he

end Sys2Proof.Proofs
end

section
/-! PROOFS. Segments given their modes and recomposed one after the other, in the words of the statements (R56, R58, R70, R91). -/

namespace Sys2Proof.Proofs

open Sys2Proof Sys2Proof.Machine Sys2Proof.Safety Sys2Proof.Laws

/-! ## One segment entering a mode (R54, R57, R58) -/

/-- The record of the statements after a change of mode is that of the model. -/
theorem changedCtrl_eq (s : State) (i : SegId) (m : Mode) : changedCtrl s i m =
    if modeOf s i = m then s.ctrls[i] else enterMode m (segCfg s i) (presentLevels s.lum i) s.ctrls[i] := by
  unfold changedCtrl
  dsimp only
  split
  · rfl
  · cases m with
    | held =>
      simp only [enterMode, heldFrom]
      cases hs : modeOf s i <;> simp only [modeOf] at hs <;> rw [hs]
      case active => congr 1; exact vector_ext fun b => by simp
      all_goals rfl
    | _ => rfl

theorem changeMode_ctrl (i : SegId) (m : Mode) (s : State) : (changeMode i m s).ctrls[i] = changedCtrl s i m := by
  rw [changedCtrl_eq]
  unfold changeMode
  split
  · rfl
  · exact (updAt_get ..).trans (if_pos rfl)

@[simp] theorem changedCtrl_mode (s : State) (i : SegId) (m : Mode) : (changedCtrl s i m).mode = m := by
  rw [← changeMode_ctrl]; exact modeOf_changeMode i m s

/-- With no change of mode the record stays. -/
theorem changedCtrl_self {s : State} {i : SegId} {m : Mode} (h : modeOf s i = m) : changedCtrl s i m = s.ctrls[i] := if_pos h

/-- The record after a change of mode depends on the record, the configuration and the present levels of the segment. -/
theorem changedCtrl_congr {s t : State} {i : SegId} (hc : t.ctrls[i] = s.ctrls[i]) (hl : t.layout = s.layout)
    (hg : ∀ b, t.lum.groups[groupOf i b] = s.lum.groups[groupOf i b]) (m : Mode) : changedCtrl t i m = changedCtrl s i m := by
  have hmode : modeOf t i = modeOf s i := congrArg Ctrl.mode hc
  have hlevels : presentLevels t.lum i = presentLevels s.lum i := by simp only [presentLevels, presentOf, hg]
  have hcfg : segCfg t i = segCfg s i := by rw [segCfg, hl, segCfg]
  rw [changedCtrl_eq, changedCtrl_eq, hmode, hlevels, hcfg, hc]

/-! ## One segment after the other -/

/-- Where the test holds of the segment it is given the mode and recomposed. -/
def remode (c : State → SegId → Bool) (m : State → SegId → Mode) (s : State) (i : SegId) : State :=
  if c s i then recompose i (changeMode i (m s i) s) else s

/-- Test and mode read the segment's own record and what a recomposition leaves alone. -/
structure OwnReading (c : State → SegId → Bool) (m : State → SegId → Mode) : Prop where
  test : ∀ {s t : State} {i : SegId}, Quiet s t → t.ctrls[i] = s.ctrls[i] → c t i = c s i
  mode : ∀ {s t : State} {i : SegId}, Quiet s t → t.ctrls[i] = s.ctrls[i] → m t i = m s i

/-- What composition demands of a group in a state is handed to it. -/
def demandBy (t : State) (l : Lum) (g : GroupId) : Lum :=
  demand (stepOf t (segOf g)) g (demandLevel t (segOf g) (bandOf g)) l

/-- A state with the same record of the segment, the same entries and the same run demands the same of its groups. -/
theorem demandBy_congr {s t : State} {g : GroupId} (h : Quiet s t) (hc : t.ctrls[segOf g] = s.ctrls[segOf g]) (l : Lum) :
    demandBy t l g = demandBy s l g := by
  have hmode : modeOf t (segOf g) = modeOf s (segOf g) := congrArg Ctrl.mode hc
  have hcfg : segCfg t (segOf g) = segCfg s (segOf g) := by rw [segCfg, h.layout, segCfg]
  rw [demandBy, demandBy, demandLevel_congr (segOf g) (bandOf g) h.layout hc h.table h.cal, stepOf, stepOf, hmode, hcfg]

theorem recompose_lum (i : SegId) (s : State) :
    (recompose i s).lum = ((bandsOf s i).map (groupOf i)).foldl (demandBy s) s.lum := by
  rw [List.foldl_map]
  refine List.foldl_ext _ _ _ fun l b _ => ?_
  rw [demandBy, segOf_groupOf, bandOf_groupOf, stepSizes_eq]

section
variable {c : State → SegId → Bool} {m : State → SegId → Mode}

theorem quiet_remodeIf (c : State → SegId → Bool) (m : State → SegId → Mode) (s : State) (i : SegId) :
    Quiet s (remode c m s i) := by
  unfold remode
  split
  · exact quiet_remode i _ s
  · exact .refl s

theorem quiet_foldl_remode (c : State → SegId → Bool) (m : State → SegId → Mode) (l : List SegId) (s : State) :
    Quiet s (l.foldl (remode c m) s) := Quiet.foldl (quiet_remodeIf c m) l s

theorem remode_ctrl_other {i j : SegId} (h : j ≠ i) (s : State) : (remode c m s i).ctrls[j] = s.ctrls[j] := by
  unfold remode
  split
  · exact changeMode_other i j _ s h.symm
  · rfl

theorem remode_group_other {i : SegId} {g : GroupId} (h : segOf g ≠ i) (s : State) :
    (remode c m s i).lum.groups[g] = s.lum.groups[g] := by
  unfold remode
  split
  · rw [recompose_other i _ g h, changeMode_lum]
  · rfl

/-- Each segment of the list that meets the test comes out with the record of its mode; no other controller changes. -/
theorem foldl_remode_ctrls (h : OwnReading c m) : ∀ (l : List SegId) (s : State), l.Nodup → ∀ i : SegId,
    (l.foldl (remode c m) s).ctrls[i] =
      if i ∈ l ∧ c s i = true then changedCtrl s i (m s i) else s.ctrls[i] := by
  intro l
  induction l with
  | nil => intro s _ i; simp
  | cons a l ih =>
    intro s hn i
    obtain ⟨ha, hn⟩ := List.nodup_cons.mp hn
    rw [List.foldl_cons, ih _ hn]
    by_cases hi : i = a
    · subst hi
      rw [if_neg fun k => ha k.1]
      unfold remode
      cases hc : c s i with
      | false => simp
      | true => simpa using changeMode_ctrl i (m s i) s
    · have hctrl : (remode c m s a).ctrls[i] = s.ctrls[i] := remode_ctrl_other hi s
      have hq := quiet_remodeIf c m s a
      have hrec : ∀ k, changedCtrl (remode c m s a) i k = changedCtrl s i k := changedCtrl_congr hctrl hq.layout fun b =>
        remode_group_other (by rw [segOf_groupOf]; exact hi) s
      rw [h.test hq hctrl, h.mode hq hctrl, hrec, hctrl]
      simp only [List.mem_cons, hi, false_or]

/-- The groups of those segments are handed, segment by segment, what composition demands in the end. -/
theorem foldl_remode_lum (h : OwnReading c m) : ∀ (l : List SegId) (s : State), l.Nodup →
    (l.foldl (remode c m) s).lum =
      ((l.filter (c s)).flatMap fun i => (bandsOf s i).map (groupOf i)).foldl (demandBy (l.foldl (remode c m) s)) s.lum := by
  intro l
  induction l with
  | nil => intro s _; rfl
  | cons a l ih =>
    intro s hn
    obtain ⟨ha, hn⟩ := List.nodup_cons.mp hn
    have hq := quiet_remodeIf c m s a
    have hfilter : l.filter (c (remode c m s a)) = l.filter (c s) := List.filter_congr fun i hi =>
      h.test hq (remode_ctrl_other (fun e : i = a => ha (e ▸ hi)) s)
    have hbands : bandsOf (remode c m s a) = bandsOf s := by funext i; simp only [bandsOf, segCfg, hq.layout]
    rw [List.foldl_cons, ih _ hn, hfilter, hbands]
    generalize ht : l.foldl (remode c m) (remode c m s a) = t
    have hqt : Quiet (remode c m s a) t := ht ▸ quiet_foldl_remode c m l _
    have hcta : t.ctrls[a] = (remode c m s a).ctrls[a] := by
      rw [← ht, foldl_remode_ctrls h l _ hn, if_neg fun k => ha k.1]
    cases hc : c s a with
    | false =>
      have hsame : remode c m s a = s := by simp [remode, hc]
      rw [List.filter_cons_of_neg (by simp [hc]), hsame]
    | true =>
      have hnew : remode c m s a = recompose a (changeMode a (m s a) s) := by simp [remode, hc]
      have hlum : (remode c m s a).lum = ((bandsOf s a).map (groupOf a)).foldl (demandBy t) s.lum := by
        have hb : bandsOf (changeMode a (m s a) s) a = bandsOf s a := by
          simp only [bandsOf, segCfg, (quiet_changeMode a (m s a) s).layout]
        rw [hnew, recompose_lum, changeMode_lum, hb]
        refine List.foldl_ext _ _ _ fun k g hg => ?_
        obtain ⟨b, _, rfl⟩ := List.mem_map.mp hg
        refine (demandBy_congr (s := changeMode a (m s a) s) (t := t) ?_ ?_ k).symm
        · exact (quiet_recompose a _).trans (hnew ▸ hqt)
        · simp only [segOf_groupOf]
          rw [hcta, hnew, recompose_ctrls]
      rw [List.filter_cons_of_pos hc, List.flatMap_cons, List.foldl_append, hlum]

end

/-- The groups of the chosen segments below their band counts, in ascending order. -/
theorem filter_chosen_groups (chosen : SegId → Bool) (n : SegId → Nat) :
    ((List.finRange 48).filter fun g => chosen (segOf g) && decide ((bandOf g).val < n (segOf g))) =
      ((List.finRange 16).filter chosen).flatMap fun i => (bandsBelow (n i)).map (groupOf i) := by
  have hseg : ∀ i : SegId, ((List.finRange 3).map (groupOf i)).filter
      (fun g => chosen (segOf g) && decide ((bandOf g).val < n (segOf g))) =
        if chosen i then (bandsBelow (n i)).map (groupOf i) else [] := by
    intro i
    rw [List.filter_map]
    cases hc : chosen i <;> simp [Function.comp_def, hc, bandsBelow]
  rw [finRange_groups, List.filter_flatMap]
  simp only [hseg]
  induction List.finRange 16 with
  | nil => rfl
  | cons a l ih =>
    rw [List.flatMap_cons, ih, List.filter_cons]
    split
    · rfl
    · rfl

/-- Demands handed to the groups of the chosen segments in ascending order are their recomposition (R70, R98). -/
theorem foldl_demandBy_eq_recomposed (chosen : SegId → Bool) (t : State) (l : Lum) :
    (((List.finRange 16).filter chosen).flatMap fun i => (bandsOf t i).map (groupOf i)).foldl (demandBy t) l =
      recomposed chosen t l := by
  rw [recomposed, ← foldl_demand_eq_handedDown, filter_chosen_groups chosen fun i => (segCfg t i).bandCount]
  rfl

/-- The segments of a mask given their modes in ascending order: which controllers change, and what of groups and link. -/
structure Remoded (chosen : SegId → Bool) (m : SegId → Mode) (s t : State) : Prop where
  quiet : Quiet s t
  ctrls : ∀ i : SegId, t.ctrls[i] = if chosen i = true then changedCtrl s i (m i) else s.ctrls[i]
  lum : t.lum = recomposed chosen t s.lum

theorem remoded_foldl {c : State → SegId → Bool} {m : State → SegId → Mode} (h : OwnReading c m) (mask : SegMask) (s : State) :
    Remoded (fun i => maskHas mask i && c s i) (m s) s ((maskSegs mask).foldl (remode c m) s) where
  quiet := quiet_foldl_remode c m _ s
  ctrls := fun i => by
    rw [foldl_remode_ctrls h _ s (nodup_maskSegs mask)]
    simp only [mem_maskSegs, Bool.and_eq_true]
  lum := by
    have hq := quiet_foldl_remode c m (maskSegs mask) s
    rw [← foldl_demandBy_eq_recomposed]
    have hbands : bandsOf ((maskSegs mask).foldl (remode c m) s) = bandsOf s := by
      funext i; simp only [bandsOf, segCfg, hq.layout]
    have hsegs : (List.finRange 16).filter (fun i => maskHas mask i && c s i) = (maskSegs mask).filter (c s) := by
      rw [maskSegs, List.filter_filter]
      exact List.filter_congr fun i _ => Bool.and_comm ..
    rw [hbands, hsegs]
    exact foldl_remode_lum h _ s (nodup_maskSegs mask)

/-! ## Segments informed, and segments that leave or enter CALIBRATING (R56, R58, R136) -/

theorem informSegment_eq_remode : informSegment =
    remode configured fun s i => modeByCoverage (modeOf s i) (isLocked s i) (isHeld s i) := rfl

theorem leaveCalibrating_eq_remode : leaveCalibrating =
    remode (fun s i => modeOf s i == .calibrating) fun s i => exitMode (isLocked s i) (isHeld s i) := by
  funext s i
  simp only [leaveCalibrating, remode, beq_iff_eq]

theorem enterCalibrating_eq_remode : enterCalibrating = remode (fun _ _ => true) fun _ _ => .calibrating := rfl

/-- Informed segments take their modes from the coverage (R56, R91). -/
theorem remoded_informed (mask : SegMask) (s : State) : Remoded (fun i => maskHas mask i && configured s i)
    (fun i => coveredMode (modeOf s i) s.table.entries i) s ((maskSegs mask).foldl informSegment s) := by
  rw [informSegment_eq_remode]
  have h : OwnReading configured fun s i => modeByCoverage (modeOf s i) (isLocked s i) (isHeld s i) :=
    ⟨fun q _ => by simp only [configured, segCfg, q.layout], fun q hc => by simp only [modeOf, isLocked, isHeld, hc, q.table]⟩
  have hmode : (fun i => coveredMode (modeOf s i) s.table.entries i) =
      fun i => modeByCoverage (modeOf s i) (isLocked s i) (isHeld s i) := rfl
  rw [hmode]
  exact remoded_foldl h mask s

/-- Segments that leave CALIBRATING take their modes from the coverage (R58). -/
theorem remoded_leaving (mask : SegMask) (s : State) : Remoded (fun i => maskHas mask i && modeOf s i == .calibrating)
    (fun i => returnMode s.table.entries i) s ((maskSegs mask).foldl leaveCalibrating s) := by
  rw [leaveCalibrating_eq_remode]
  have h : OwnReading (fun s i => modeOf s i == .calibrating) fun s i => exitMode (isLocked s i) (isHeld s i) :=
    ⟨fun q hc => by simp only [modeOf, hc], fun q hc => by simp only [isLocked, isHeld, q.table]⟩
  exact remoded_foldl h mask s

/-- The segments of a new run enter CALIBRATING (R58, R136). -/
theorem remoded_entering (mask : SegMask) (s : State) : Remoded (maskHas mask) (fun _ => .calibrating) s
    ((maskSegs mask).foldl enterCalibrating s) := by
  have h := remoded_foldl (c := fun _ _ => true) (m := fun _ _ => .calibrating) ⟨fun _ _ => rfl, fun _ _ => rfl⟩ mask s
  simp only [Bool.and_true] at h
  exact h

theorem Remoded.mode {chosen : SegId → Bool} {m : SegId → Mode} {s t : State} (h : Remoded chosen m s t) (i : SegId) :
    modeOf t i = if chosen i = true then m i else modeOf s i := by
  rw [modeOf, h.ctrls i]
  split
  · exact changedCtrl_mode s i _
  · rfl

end Sys2Proof.Proofs
end

section
/-! PROOFS. The end of a run and a table change, in the words of the statements (R56, R58, R91, R92, R147, R148). -/

namespace Sys2Proof.Proofs

open Sys2Proof Sys2Proof.Machine Sys2Proof.Safety Sys2Proof.Laws

/-! ## What a recomposition reads -/

/-- Recomposition hands nothing to a segment that is not chosen. -/
theorem recomposed_group_other {chosen : SegId → Bool} {g : GroupId} (h : chosen (segOf g) = false) (t : State) (l : Lum) :
    (recomposed chosen t l).groups[g] = l.groups[g] := by
  rw [recomposed, handedDown, ofFn_get, h, Bool.false_and]
  rfl

/-- Recomposition of the same segments by the same records, entries and run is the same. -/
theorem recomposed_congr {chosen chosen' : SegId → Bool} {s t : State} (h : Quiet s t) (hch : ∀ i, chosen i = chosen' i)
    (hc : ∀ i, chosen i = true → t.ctrls[i] = s.ctrls[i]) (l : Lum) : recomposed chosen t l = recomposed chosen' s l := by
  obtain rfl : chosen = chosen' := funext hch
  have hbands : bandsOf t = bandsOf s := by funext i; rw [bandsOf, bandsOf, segCfg, segCfg, h.layout]
  rw [← foldl_demandBy_eq_recomposed, ← foldl_demandBy_eq_recomposed, hbands]
  refine List.foldl_ext _ _ _ fun k g hg => demandBy_congr h (hc _ ?_) k
  obtain ⟨i, hi, hg⟩ := List.mem_flatMap.mp hg
  obtain ⟨b, _, rfl⟩ := List.mem_map.mp hg
  rw [segOf_groupOf]
  exact (List.mem_filter.mp hi).2

/-! ## Ports -/

/-- Where only event sets differ, a port is as it was but for those. -/
theorem onlyEvents_eq {s t : State} (h : OnlyEvents s t) (q : PortId) :
    t.ports[q] = { s.ports[q] with events := t.ports[q].events } :=
  congrArg (fun p : Port => { p with events := t.ports[q].events }) (h q)

theorem onlyEventsAndCauses_iff {s t : State} : OnlyEventsAndCauses s t ↔
    ∀ q : PortId, t.ports[q] = { s.ports[q] with events := t.ports[q].events, raised := t.ports[q].raised } :=
  ⟨fun h q => congrArg (fun p : Port => { p with events := t.ports[q].events, raised := t.ports[q].raised }) (h q),
   fun h q => congrArg (fun p : Port => { p with events := s.ports[q].events, raised := s.ports[q].raised }) (h q)⟩

theorem onlyEventsAndCauses_of_onlyEvents {s t : State} (h : OnlyEvents s t) : OnlyEventsAndCauses s t :=
  fun q => congrArg (fun p : Port => { p with raised := s.ports[q].raised }) (h q)

theorem onlyEventsAndCauses_trans {s t u : State} (h : OnlyEventsAndCauses s t) (k : OnlyEventsAndCauses t u) :
    OnlyEventsAndCauses s u := fun q => by rw [← h q, ← k q]

theorem raised_of_onlyEvents {s t : State} (h : OnlyEvents s t) (q : PortId) : t.ports[q].raised = s.ports[q].raised := by
  rw [onlyEvents_eq h q]

theorem role_of_onlyEventsAndCauses {s t : State} (h : OnlyEventsAndCauses s t) (q : PortId) :
    t.ports[q].role = s.ports[q].role := by rw [onlyEventsAndCauses_iff.mp h q]

theorem raiseRole_get (r : Role) (c : Cause) (v : Ports) (q : PortId) :
    (raiseRole r c v)[q] = if v[q].role = r then raiseAt c v[q] else v[q] := by
  simp [raiseRole]

/-- A raised cause changes a port's causes alone. -/
theorem raiseAt_eq (c : Cause) (p : Port) : raiseAt c p = { p with raised := (raiseAt c p).raised } := by
  unfold raiseAt; split <;> rfl

theorem onlyEventsAndCauses_raiseRole (r : Role) (c : Cause) (s : State) :
    OnlyEventsAndCauses s (s.setPorts (raiseRole r c s.ports)) := onlyEventsAndCauses_iff.mpr fun q => by
  rw [setPorts_ports, raiseRole_get]
  split
  · rw [raiseAt_events, ← raiseAt_eq]
  · rfl

/-- CAL_DONE reaches the FLOOR port alone. -/
theorem raised_raiseRole_floor (v : Ports) (q : PortId) : (raiseRole .floor .calDone v)[q].raised =
    if v[q].role = .floor then v[q].raised ||| 0x0040 else v[q].raised := by
  rw [raiseRole_get]
  split
  · next h => rw [raiseAt_raised, h]; rfl
  · rfl

/-! ## The end of a run (R58, R146, R147) -/

/-- Every involved segment leaves CALIBRATING by its coverage and is recomposed, and CAL_DONE is raised. -/
theorem endRun_released (r : CalRun) (res : CalResult) (s : State) :
    SegmentsReleased r s s.lum (endRun r res s) ∧ OnlyEventsAndCauses s (endRun r res s) ∧
      ∀ q : PortId, (endRun r res s).ports[q].raised =
        if s.ports[q].role = .floor then s.ports[q].raised ||| 0x0040 else s.ports[q].raised := by
  have h := remoded_leaving r.segments (s.setCal ⟨none, res⟩)
  unfold endRun
  dsimp only
  generalize (maskSegs r.segments).foldl leaveCalibrating (s.setCal ⟨none, res⟩) = u at h ⊢
  have hports : OnlyEvents s u := h.quiet.ports
  refine ⟨⟨fun i => ?_, h.lum⟩, onlyEventsAndCauses_trans (onlyEventsAndCauses_of_onlyEvents hports)
    (onlyEventsAndCauses_raiseRole .floor .calDone u), fun q => ?_⟩
  · rw [setPorts_ctrls, h.ctrls i]
    simp only [Bool.and_eq_true, beq_iff_eq]
    rfl
  · rw [setPorts_ports, raised_raiseRole_floor, raised_of_onlyEvents hports,
      role_of_onlyEventsAndCauses (onlyEventsAndCauses_of_onlyEvents hports)]

/-- What a run leaves of its segments depends on controllers, groups, layout and entries alone. -/
theorem segmentsReleased_congr {r r' : CalRun} {s s' t : State} {l : Lum} (hr : r'.segments = r.segments)
    (hc : s'.ctrls = s.ctrls) (hl : s'.layout = s.layout) (hg : s'.lum.groups = s.lum.groups)
    (ht : s'.table.entries = s.table.entries) (h : SegmentsReleased r' s' l t) : SegmentsReleased r s l t := by
  obtain ⟨hctrls, hlum⟩ := h
  have hmode : modeOf s' = modeOf s := by funext i; rw [modeOf, modeOf, hc]
  refine ⟨fun i => ?_, ?_⟩
  · rw [hctrls i, hr, hmode, ht, changedCtrl_congr (s := s) (by rw [hc]) hl fun b => by rw [hg]]
    rw [hc]
  · rw [hlum, hr, hmode]

/-! ## A table change (R91, R92, R148) -/

/-- The sequencer lets a table change pass: no run is in progress, or the entry gives no reason to abort it. -/
theorem tableChange_of_goes_on {inserted : Option Entry} {s : State}
    (h : ∀ e ∈ inserted, ∀ r ∈ s.cal.run, abortReason r e = none) (entries : List Entry) (informed : SegMask) :
    tableChange entries inserted informed s = (maskSegs informed).foldl informSegment (setEntries entries s) := by
  cases inserted with
  | none => rfl
  | some e =>
    have hgo : informSequencer e (setEntries entries s) = setEntries entries s := by
      unfold informSequencer
      rw [setEntries_cal]
      cases hr : s.cal.run with
      | none => rfl
      | some r => dsimp only; rw [h e rfl r hr]
    simp only [tableChange, hgo]

/-- An entry that reaches no involved segment, or is a cap at or above the run's levels, aborts nothing (R148). -/
theorem abortReason_none {r : CalRun} {e : Entry} (h : e.mask &&& r.segments = 0 ∨
    ∃ id level x, e.ask = .cap id level x ∧ max r.params.highEff r.params.base ≤ level) : abortReason r e = none := by
  unfold abortReason
  rcases h with h | ⟨id, level, x, he, hl⟩
  · exact if_pos h
  · split
    · rfl
    · rw [he]; exact if_neg (Nat.not_lt.mpr hl)

/-- And any other entry over an involved segment does, by its kind (R148). -/
theorem abortReason_some {r : CalRun} {e : Entry} {why : AbortReason} (h : e.mask &&& r.segments ≠ 0)
    (hwhy : match e.ask with
      | .override _ _ => why = .occupant
      | .hold _ _ => why = .shade
      | .lock _ => why = .lock
      | .cap _ level _ => why = .capped ∧ level < max r.params.highEff r.params.base) : abortReason r e = some why := by
  unfold abortReason
  rw [if_neg h]
  cases ha : e.ask <;> rw [ha] at hwhy <;> simp only at hwhy ⊢
  case cap => rw [hwhy.1, if_pos hwhy.2]
  all_goals rw [hwhy]

/-- The informed segments after a change of the entries: their controllers, and what is recomposed. -/
theorem informed_changed (entries : List Entry) (informed : SegMask) (s : State) :
    ∃ t, (maskSegs informed).foldl informSegment (setEntries entries s) = t ∧ Quiet (setEntries entries s) t ∧
      (∀ i : SegId, t.ctrls[i] =
        if configured s i = true ∧ maskHas informed i = true then changedCtrl s i (coveredMode (modeOf s i) entries i)
        else s.ctrls[i]) ∧
      Recomposed informed s t := by
  have h := remoded_informed informed (setEntries entries s)
  refine ⟨_, rfl, h.quiet, fun i => ?_, ?_⟩
  · rw [h.ctrls i, Bool.and_comm]
    simp only [Bool.and_eq_true]
    rfl
  · rw [Recomposed, h.lum]
    congr 1; funext i
    rw [configured, configured, segCfg, segCfg, h.quiet.layout]

/-- A segment released by its coverage is not moved by it again. -/
theorem coveredMode_returnMode (t : List Entry) (i : SegId) : coveredMode (returnMode t i) t i = returnMode t i := by
  unfold returnMode
  split
  · next h => simp [coveredMode, h]
  · next h => split <;> simp_all [coveredMode]

/-- A run's segments are those in CALIBRATING where the modes keep their precedence (R52). -/
theorem calibrating_of_modeLaw {r : CalRun} {s : State} (h : ModeLaw s) (hr : s.cal.run = some r) {i : SegId}
    (hi : maskHas r.segments i = true) : modeOf s i = .calibrating := by
  have hrun : inRun s i = true := by simp [inRun, hr, hi]
  obtain ⟨hu, hc⟩ := h i
  cases hconf : configured s i with
  | false => rw [(hu hconf).2.1] at hrun; cases hrun
  | true => exact (hc hconf).2.1.mpr hrun

/-- A table change that ends the run: the involved segments leave it by the new entries, and the informed ones follow. -/
theorem tableChange_ended {r : CalRun} {e : Entry} {why : AbortReason} {s : State} (hr : s.cal.run = some r) (hm : ModeLaw s)
    (hwhy : abortReason r e = some why) (entries : List Entry) (informed : SegMask) :
    ∃ t, tableChange entries (some e) informed s = t ∧ t.cal = ⟨none, { s.cal.result with outcome := .aborted why }⟩ ∧
      t.table = { s.table with entries := entries } ∧
      (∀ i : SegId, t.ctrls[i] =
        if maskHas r.segments i = true then changedCtrl s i (returnMode entries i)
        else if configured s i = true ∧ maskHas informed i = true then
          changedCtrl s i (coveredMode (modeOf s i) entries i)
        else s.ctrls[i]) ∧
      t.lum = recomposed (fun i => maskHas informed i && configured t i) t (recomposed (maskHas r.segments) t s.lum) ∧
      OnlyEventsAndCauses s t ∧ t.coupling = s.coupling ∧
      t.layout = s.layout ∧ t.sensors = s.sensors ∧ t.energy = s.energy ∧ t.pending = s.pending ∧
      ∀ q : PortId, t.ports[q].raised =
        if s.ports[q].role = .floor then s.ports[q].raised ||| 0x0040 else s.ports[q].raised := by
  obtain ⟨res, hres⟩ : ∃ res, { s.cal.result with outcome := .aborted why } = res := ⟨_, rfl⟩
  have hstart : tableChange entries (some e) informed s =
      (maskSegs informed).foldl informSegment (endRun r res (setEntries entries s)) := by
    simp only [tableChange, informSequencer, setEntries_cal, hr, hwhy, abortRun, ← hres]
  obtain ⟨⟨huctrl, hulum⟩, huports, huraised⟩ := endRun_released r res (setEntries entries s)
  obtain ⟨hucal, hulay, husens, hucoup, hutab, huen, hupend⟩ := endRun_frame r res (setEntries entries s)
  have hinf := remoded_informed informed (endRun r res (setEntries entries s))
  generalize endRun r res (setEntries entries s) = u at *
  generalize (maskSegs informed).foldl informSegment u = t at *
  have hq := hinf.quiet
  have hcal : ∀ i, maskHas r.segments i = true → modeOf s i = .calibrating := fun i => calibrating_of_modeLaw hm hr
  have huctrl : ∀ i : SegId, u.ctrls[i] =
      if maskHas r.segments i = true then changedCtrl s i (returnMode entries i) else s.ctrls[i] := fun i => by
    rw [huctrl i]
    by_cases hi : maskHas r.segments i = true
    · rw [if_pos hi, if_pos ⟨hi, hcal i hi⟩]; rfl
    · rw [if_neg hi, if_neg fun k => hi k.1]; rfl
  have hugroup : ∀ i, maskHas r.segments i = false → ∀ b, u.lum.groups[groupOf i b] = s.lum.groups[groupOf i b] :=
    fun i hi b => by rw [hulum, recomposed_group_other (by rw [segOf_groupOf, hi]; rfl)]; rfl
  have htctrl : ∀ i : SegId, t.ctrls[i] =
      if maskHas r.segments i = true then changedCtrl s i (returnMode entries i)
      else if configured s i = true ∧ maskHas informed i = true then changedCtrl s i (coveredMode (modeOf s i) entries i)
      else s.ctrls[i] := fun i => by
    have hconf : configured u i = configured s i := by rw [configured, segCfg, hulay]; rfl
    have hentries : u.table.entries = entries := by rw [hutab]; rfl
    rw [hinf.ctrls i, hconf, hentries, Bool.and_comm]
    simp only [Bool.and_eq_true]
    cases hi : maskHas r.segments i with
    | true =>
      have hui : u.ctrls[i] = changedCtrl s i (returnMode entries i) := by rw [huctrl i, if_pos hi]
      have hmode : modeOf u i = returnMode entries i := (congrArg Ctrl.mode hui).trans (changedCtrl_mode s i _)
      rw [hmode, coveredMode_returnMode, changedCtrl_self hmode, hui]
      simp
    | false =>
      have hui : u.ctrls[i] = s.ctrls[i] := by rw [huctrl i, hi]; rfl
      have hmode : modeOf u i = modeOf s i := congrArg Ctrl.mode hui
      rw [hmode, changedCtrl_congr hui hulay (hugroup i hi), hui]
      simp
  refine ⟨t, hstart, by rw [hq.cal, hucal, hres], by rw [hq.table, hutab]; rfl, htctrl, ?_,
    onlyEventsAndCauses_trans huports (onlyEventsAndCauses_of_onlyEvents hq.ports), by rw [hq.coupling, hucoup]; rfl,
    by rw [hq.layout, hulay]; rfl, by rw [hq.sensors, husens]; rfl, by rw [hq.energy, huen]; rfl,
    by rw [hq.pending, hupend]; rfl, fun q => ?_⟩
  · have hrun : u.lum = recomposed (maskHas r.segments) t s.lum := by
      rw [hulum]
      refine (recomposed_congr hq (fun i => ?_) (fun i hi => ?_) s.lum).symm
      · cases hi : maskHas r.segments i with
        | false => rfl
        | true => rw [Bool.true_and]; exact (beq_iff_eq.mpr (hcal i hi)).symm
      · rw [htctrl i, huctrl i, if_pos hi, if_pos hi]
    rw [hinf.lum, hrun]
    congr 1; funext i
    rw [configured, configured, segCfg, segCfg, hq.layout]
  · rw [raised_of_onlyEvents hq.ports, huraised q]; rfl

/-- Settles O39: the sequencer passes the change or ends the run first, and each segment reached takes its mode from the new
entries, in either case with its own record and groups alone. -/
theorem tableChangeRule : Obligations.TableChangeRule := by
  unfold Obligations.TableChangeRule
  refine ⟨fun entries inserted informed s h => ?_, fun entries e informed r why s hr hm hcut hwhy =>
    tableChange_ended hr hm (abortReason_some hcut hwhy) entries informed⟩
  have hgo : ∀ e ∈ inserted, ∀ r ∈ s.cal.run, abortReason r e = none := by
    intro e he r hr
    rcases h with h | h | ⟨r', e', hr', he', h⟩
    · rw [h] at hr; cases hr
    · rw [h] at he; cases he
    · rw [hr'] at hr; rw [he'] at he; cases hr; cases he
      exact abortReason_none h
  obtain ⟨t, ht, hq, hctrls, hlum⟩ := informed_changed entries informed s
  exact ⟨t, (tableChange_of_goes_on hgo entries informed).trans ht, hq.table, hctrls, hlum, hq.ports, hq.layout, hq.sensors,
    hq.coupling, hq.energy, hq.cal, hq.pending⟩

end Sys2Proof.Proofs
end

section
/-! PROOFS. The precedence of the segment modes (R52), of itself: which changes leave modes and claims alone, and what a table
change or the end of a run makes of them. -/

namespace Sys2Proof.Proofs

open Sys2Proof Sys2Proof.Machine Sys2Proof.Safety Sys2Proof.Laws

/-! ## What claims a segment: locks and holds (R93) -/

/-- A LOCK is asked. -/
def asksLock (a : Ask) : Bool := (lockLevel? a).isSome

/-- Some entry over the segment asks so. -/
def claims (f : Ask → Bool) (t : List Entry) (i : SegId) : Bool := t.any fun e => f e.ask && maskHas e.mask i

theorem claims_eq_covering (f : Ask → Bool) (t : List Entry) (i : SegId) : claims f t i = (covering t i).any f := by
  rw [claims, covering, List.any_map, List.any_filter]
  simp only [Function.comp_apply, Bool.and_comm]

theorem isLocked_eq_claims (s : State) (i : SegId) : isLocked s i = claims asksLock s.table.entries i := by
  rw [isLocked, lockOver_eq, claims_eq_covering, List.isSome_findSome?]
  rfl

theorem isHeld_eq_claims (s : State) (i : SegId) : isHeld s i = claims asksHold s.table.entries i := by
  rw [isHeld, holdOver_eq, claims_eq_covering]

/-- The segment is under a lock and under a hold by both lists of entries alike. -/
structure SameClaims (i : SegId) (t u : List Entry) : Prop where
  lock : claims asksLock u i = claims asksLock t i
  hold : claims asksHold u i = claims asksHold t i

theorem SameClaims.of_all {i : SegId} {t u : List Entry} (h : ∀ f, (∀ id level x, f (.cap id level x) = false) →
    claims f u i = claims f t i) : SameClaims i t u := ⟨h asksLock fun _ _ _ => rfl, h asksHold fun _ _ _ => rfl⟩

theorem SameClaims.of_covering {i : SegId} {t u : List Entry} (h : covering u i = covering t i) : SameClaims i t u :=
  .of_all fun f _ => by rw [claims_eq_covering, claims_eq_covering, h]

/-- What lies within entries that do not claim the segment does not claim it. -/
theorem claims_of_within {f : Ask → Bool} {t u : List Entry} {i : SegId} (h : ∀ e ∈ u, ∃ e₀ ∈ t, Within e e₀)
    (ht : claims f t i = false) : claims f u i = false := by
  rw [claims, List.any_eq_false] at ht ⊢
  intro e he hf
  obtain ⟨e₀, he₀, hask, hmask⟩ := h e he
  rw [Bool.and_eq_true] at hf
  exact ht e₀ he₀ (by rw [← hask, hf.1, hmask i hf.2]; rfl)

/-- The entries of a table that hold the segment by no lock and no hold, and entries within them, claim it alike. -/
theorem SameClaims.of_within {t u : List Entry} {i : SegId} (h : ∀ e ∈ u, ∃ e₀ ∈ t, Within e e₀)
    (hl : claims asksLock t i = false) (hh : claims asksHold t i = false) : SameClaims i t u :=
  ⟨(claims_of_within h hl).trans hl.symm, (claims_of_within h hh).trans hh.symm⟩

/-- An entry appended away from the segment. -/
theorem SameClaims.append {t u : List Entry} {i : SegId} {new : Entry} (h : SameClaims i t u) (hn : maskHas new.mask i = false) :
    SameClaims i t (u ++ [new]) :=
  ⟨by rw [← h.lock]; simp [claims, hn], by rw [← h.hold]; simp [claims, hn]⟩

/-! ## The precedence at one segment -/

/-- The segment is configured, in the run, locked and held alike. -/
structure ClaimedAlike (i : SegId) (s t : State) : Prop where
  configured : configured t i = configured s i
  run : inRun t i = inRun s i
  claims : SameClaims i s.table.entries t.table.entries

section
variable {i : SegId} {s t : State} (h : ClaimedAlike i s t)
include h

theorem ClaimedAlike.isLocked : isLocked t i = isLocked s i := by rw [isLocked_eq_claims, isLocked_eq_claims, h.claims.lock]

theorem ClaimedAlike.isHeld : isHeld t i = isHeld s i := by rw [isHeld_eq_claims, isHeld_eq_claims, h.claims.hold]

theorem ClaimedAlike.rightMode {m : Mode} (hm : RightMode s i m) : RightMode t i m := by
  obtain ⟨h1, h2, h3, h4⟩ := hm
  exact ⟨h1, by rw [h.run]; exact h2, by rw [h.run, h.isLocked]; exact h3, by rw [h.run, h.isLocked, h.isHeld]; exact h4⟩

theorem ClaimedAlike.unheld (hm : modeOf t i = modeOf s i) (hu : Unheld s i) : Unheld t i :=
  ⟨hm.trans hu.mode, h.run.trans hu.run, h.isLocked.trans hu.lock, h.isHeld.trans hu.hold⟩

/-- A segment claimed alike in the same mode keeps the precedence. -/
theorem ClaimedAlike.modeAt (hm : modeOf t i = modeOf s i) (hs : ModeAt s i) : ModeAt t i :=
  ⟨fun hc => h.unheld hm (hs.unheld (h.configured ▸ hc)),
   fun hc => by rw [hm]; exact h.rightMode (hs.right (h.configured ▸ hc))⟩

end

/-- Where only controllers, groups, the link and event sets differ, segments are claimed alike. -/
theorem ClaimedAlike.of_quiet {s t : State} (h : Quiet s t) (i : SegId) : ClaimedAlike i s t where
  configured := by rw [Machine.configured, Machine.configured, segCfg, segCfg, h.layout]
  run := by rw [inRun, inRun, h.cal]
  claims := .of_covering (by rw [h.table])

/-- What holds of the modes before the coverage is looked at: all but the part of locks and holds. -/
structure ModeSteady (s : State) (i : SegId) : Prop where
  unheld : configured s i = false → Unheld s i
  moded : configured s i = true → modeOf s i ≠ .unconfigured
  calibrating : configured s i = true → (modeOf s i = .calibrating ↔ inRun s i = true)

theorem ModeAt.steady {s : State} {i : SegId} (h : ModeAt s i) : ModeSteady s i :=
  ⟨h.unheld, fun hc => (h.right hc).configured, fun hc => (h.right hc).calibrating⟩

/-- A run involves configured segments alone. -/
theorem ModeSteady.configured_of_inRun {s : State} {i : SegId} (h : ModeSteady s i) (hr : inRun s i = true) :
    configured s i = true := by
  by_contra hc
  exact absurd ((h.unheld (by simpa using hc)).run.symm.trans hr) (by simp)

/-- A segment that is not CALIBRATING is in no run. -/
theorem ModeSteady.inRun_false {s : State} {i : SegId} (h : ModeSteady s i) (hm : modeOf s i ≠ .calibrating) :
    inRun s i = false := by
  cases hr : inRun s i with
  | false => rfl
  | true => exact absurd ((h.calibrating (h.configured_of_inRun hr)).mpr hr) hm

/-- The mode by the coverage is the right one (R56). -/
theorem ModeSteady.rightMode_coveredMode {s : State} {i : SegId} (h : ModeSteady s i) (hc : configured s i = true) :
    RightMode s i (coveredMode (modeOf s i) s.table.entries i) := by
  have hlock : (lockOver s.table.entries i).isSome = isLocked s i := rfl
  have hhold : holdOver s.table.entries i = isHeld s i := rfl
  by_cases hm : modeOf s i = .calibrating
  · rw [hm]
    exact rightMode_calibrating ((h.calibrating hc).mp hm)
  · have hrun := h.inRun_false hm
    have hmoded := h.moded hc
    unfold coveredMode
    rw [hlock, hhold]
    cases hs : modeOf s i <;> cases hl : isLocked s i <;> cases hh : isHeld s i <;> constructor <;> simp_all

/-! ## Segments informed, and the end of a run (R56, R58, R91) -/

/-- Informed segments come into their right modes, and the others stay in them. -/
theorem modeAt_informed {informed : SegMask} {s : State} {i : SegId} (hst : ModeSteady s i)
    (hset : maskHas informed i = false → ModeAt s i) : ModeAt ((maskSegs informed).foldl informSegment s) i := by
  have h := remoded_informed informed s
  generalize (maskSegs informed).foldl informSegment s = t at h ⊢
  have hclaim := ClaimedAlike.of_quiet h.quiet i
  have hmode := h.mode i
  cases hi : maskHas informed i && configured s i with
  | true =>
    rw [hi, if_pos rfl] at hmode
    rw [Bool.and_eq_true] at hi
    exact ⟨fun hc => absurd (hclaim.configured.symm.trans hc) (by simp [hi.2]),
      fun _ => by rw [hmode]; exact hclaim.rightMode (hst.rightMode_coveredMode hi.2)⟩
  | false =>
    rw [hi] at hmode
    cases hc : configured s i with
    | false => exact ⟨fun _ => hclaim.unheld hmode (hst.unheld hc), fun hc' => absurd (hclaim.configured.symm.trans hc') (by simp [hc])⟩
    | true => exact hclaim.modeAt hmode (hset (by simpa [hc] using hi))

/-- The end of a run puts its segments into their right modes and leaves the others in them. -/
theorem modeAt_endRun {r : CalRun} {res : CalResult} {s : State} (hr : ∀ i, inRun s i = maskHas r.segments i) {i : SegId}
    (h : ModeSteady s i) :
    ModeSteady (endRun r res s) i ∧ (ModeAt s i ∨ maskHas r.segments i = true → ModeAt (endRun r res s) i) := by
  obtain ⟨⟨hctrls, _⟩, _⟩ := endRun_released r res s
  obtain ⟨hcal, hlay, _, _, htab, _⟩ := endRun_frame r res s
  generalize endRun r res s = t at *
  have hrun : inRun t i = false := by rw [inRun, hcal]; rfl
  have hconf : configured t i = configured s i := by rw [configured, configured, segCfg, segCfg, hlay]
  cases hi : maskHas r.segments i with
  | true =>
    have hin : inRun s i = true := (hr i).trans hi
    have hc := h.configured_of_inRun hin
    have hmode : modeOf t i = exitMode (isLocked t i) (isHeld t i) := by
      rw [modeOf, hctrls i, if_pos ⟨hi, (h.calibrating hc).mpr hin⟩, changedCtrl_mode, isLocked, isHeld, htab]; rfl
    have hat : ModeAt t i := ⟨fun hc' => absurd (hconf.symm.trans hc') (by simp [hc]),
      fun _ => by rw [hmode]; exact rightMode_exitMode hrun⟩
    exact ⟨hat.steady, fun _ => hat⟩
  | false =>
    have hclaim : ClaimedAlike i s t := ⟨hconf, hrun.trans ((hr i).trans hi).symm, .of_covering (by rw [htab])⟩
    have hmode : modeOf t i = modeOf s i := by rw [modeOf, hctrls i, if_neg (by simp [hi])]; rfl
    refine ⟨⟨fun hc => hclaim.unheld hmode (h.unheld (hconf ▸ hc)), fun hc => by rw [hmode]; exact h.moded (hconf ▸ hc),
      fun hc => by rw [hmode, hclaim.run]; exact h.calibrating (hconf ▸ hc)⟩, fun hs => ?_⟩
    exact hclaim.modeAt hmode (hs.resolve_right (by simp))

/-- A table change brings every informed segment into its right mode, and leaves the others in theirs. -/
theorem modeLaw_tableChange_of_steady {entries : List Entry} {inserted : Option Entry} {informed : SegMask} {s : State}
    (hst : ∀ i, ModeSteady (setEntries entries s) i)
    (hset : ∀ i, maskHas informed i = false → ModeAt (setEntries entries s) i) :
    ModeLaw (tableChange entries inserted informed s) := modeLaw_iff.mpr fun i => by
  obtain ⟨u, h, hu⟩ := tableChange_cases entries inserted informed s
  rw [h]
  rcases hu with ⟨rfl, _⟩ | ⟨r, res, hr, rfl⟩
  · exact modeAt_informed (hst i) (hset i)
  · obtain ⟨h1, h2⟩ := modeAt_endRun (r := r) (res := res) (s := setEntries entries s) (fun j => by simp [inRun, hr]) (hst i)
    exact modeAt_informed h1 fun hi => h2 (.inl (hset i hi))

/-- A table change keeps the precedence where segments that are not informed, or not configured, are claimed as before. -/
theorem modeLaw_tableChange {entries : List Entry} {inserted : Option Entry} {informed : SegMask} {s : State} (h : ModeLaw s)
    (hcl : ∀ i, maskHas informed i = false ∨ configured s i = false → SameClaims i s.table.entries entries) :
    ModeLaw (tableChange entries inserted informed s) := by
  have hs := modeLaw_iff.mp h
  have hat : ∀ i, maskHas informed i = false ∨ configured s i = false → ModeAt (setEntries entries s) i := fun i hi =>
    ClaimedAlike.modeAt (s := s) ⟨rfl, rfl, hcl i hi⟩ rfl (hs i)
  refine modeLaw_tableChange_of_steady (fun i => ?_) fun i hi => hat i (.inl hi)
  cases hc : configured s i with
  | false => exact (hat i (.inr hc)).steady
  | true => exact ⟨fun hc' => absurd (hc.symm.trans hc') (by simp), (hs i).steady.moded, (hs i).steady.calibrating⟩

/-! ## The requests of the table (Section 5) -/

/-- Nothing of the table claims an unconfigured segment. -/
theorem unclaimed_of_unconfigured {s : State} (h : ModeLaw s) {i : SegId} (hc : configured s i = false) :
    claims asksLock s.table.entries i = false ∧ claims asksHold s.table.entries i = false := by
  have hu := (modeLaw_iff.mp h i).unheld hc
  rw [← isLocked_eq_claims, ← isHeld_eq_claims]
  exact ⟨hu.lock, hu.hold⟩

/-- Segments taken out of entries: one of no altered entry, or not configured, is claimed as before. -/
theorem sameClaims_takeOut {s : State} (h : ModeLaw s) {sel : Entry → Bool} {m : SegMask} {i : SegId}
    (hi : maskHas (takenFrom sel m s.table.entries) i = false ∨ configured s i = false) :
    SameClaims i s.table.entries (takeOut sel m s.table.entries) := by
  rcases hi with hi | hc
  · exact .of_covering (covering_takeOut_of_not_taken hi)
  · obtain ⟨hl, hh⟩ := unclaimed_of_unconfigured h hc
    exact .of_within (fun e he => within_of_mem_takeOut he) hl hh

/-- A mask cut to the configured segments holds no other. -/
theorem maskHas_of_sub {m : SegMask} {s : State} (hm : m &&& configuredMask s = m) {i : SegId} (hc : configured s i = false) :
    maskHas m i = false := by
  rw [← hm, maskHas_and, maskHas_configuredMask, hc, Bool.and_false]

theorem modeLaw_replaceOver {s : State} (h : ModeLaw s) (sel : Entry → Bool) {m : SegMask} {new : Entry} (clamped : Bool)
    (hm : new.mask &&& configuredMask s = new.mask) : ModeLaw (replaceOver sel m new clamped s).state := by
  unfold replaceOver
  dsimp only
  split
  · exact h
  · refine modeLaw_tableChange h fun i hi => ?_
    rw [maskHas_or, Bool.or_eq_false_iff] at hi
    refine (sameClaims_takeOut h (hi.imp_left (·.1))).append ?_
    rcases hi with hi | hc
    · exact hi.2
    · exact maskHas_of_sub hm hc

theorem modeLaw_releaseOver {s : State} (h : ModeLaw s) (sel : Entry → Bool) (m : SegMask) (clamped : Bool) :
    ModeLaw (releaseOver sel m clamped s).state := modeLaw_tableChange h fun _ hi => sameClaims_takeOut h hi

theorem modeLaw_overrideSet {s : State} (h : ModeLaw s) (mask : SegMask) (level minutes : Nat) :
    ModeLaw (overrideSet mask level minutes s).state := by
  unfold overrideSet
  dsimp only
  split
  · exact h
  · exact modeLaw_replaceOver h _ _ (keptMask_sub mask s)

theorem modeLaw_overrideCancel {s : State} (h : ModeLaw s) (mask : SegMask) : ModeLaw (overrideCancel mask s).state := by
  unfold overrideCancel
  dsimp only
  split
  · exact h
  · exact modeLaw_releaseOver h _ _ _

theorem modeLaw_lockSet {s : State} (h : ModeLaw s) (mask : SegMask) (level : Nat) : ModeLaw (lockSet mask level s).state := by
  unfold lockSet
  dsimp only
  split
  · exact h
  · exact modeLaw_replaceOver h _ _ (keptMask_sub mask s)

theorem modeLaw_lockRelease {s : State} (h : ModeLaw s) (mask : SegMask) : ModeLaw (lockRelease mask s).state := by
  unfold lockRelease
  dsimp only
  split
  · exact h
  · exact modeLaw_releaseOver h _ _ _

theorem modeLaw_holdSet {s : State} (h : ModeLaw s) (mask : SegMask) (seconds : Nat) : ModeLaw (holdSet mask seconds s).state := by
  unfold holdSet
  dsimp only
  split
  · exact h
  · exact modeLaw_replaceOver h _ _ (keptMask_sub mask s)

theorem modeLaw_holdSettled {s : State} (h : ModeLaw s) (mask : SegMask) : ModeLaw (holdSettled mask s).state := by
  unfold holdSettled
  dsimp only
  split
  · exact h
  · split
    · exact h
    · split
      · exact modeLaw_releaseOver h _ _ _
      · exact modeLaw_replaceOver h _ _ (heldMask_sub mask s)

/-- A change of CAP entries alone claims no segment (R52). -/
theorem modeLaw_capChange {entries : List Entry} {inserted : Option Entry} {informed : SegMask} {s : State} (h : ModeLaw s)
    (hcap : ∀ f i, (∀ id level x, f (.cap id level x) = false) → claims f entries i = claims f s.table.entries i) :
    ModeLaw (tableChange entries inserted informed s) :=
  modeLaw_tableChange h fun i _ => .of_all fun f hf => hcap f i hf

theorem claims_replaceCap {f : Ask → Bool} (hf : ∀ id level x, f (.cap id level x) = false) {id : Nat} {new : Entry}
    (hn : isCap id new = true) (t : List Entry) (i : SegId) :
    claims f (t.map fun e => if isCap id e then new else e) i = claims f t i := by
  have hcap : ∀ e, isCap id e = true → f e.ask = false := fun e he => by
    obtain ⟨level, x, ha⟩ := isCap_iff.mp he
    rw [ha, hf]
  rw [claims, List.any_map, claims]
  congr 1; funext e
  cases he : isCap id e with
  | false => simp [he]
  | true => simp [he, hcap e he, hcap new hn]

theorem claims_withoutCap {f : Ask → Bool} (hf : ∀ id level x, f (.cap id level x) = false) (id : Nat) (t : List Entry)
    (i : SegId) : claims f (t.filter fun e => !isCap id e) i = claims f t i := by
  rw [claims, List.any_filter, claims]
  congr 1; funext e
  cases he : isCap id e with
  | false => rfl
  | true =>
    obtain ⟨level, x, ha⟩ := isCap_iff.mp he
    rw [ha, hf]; rfl

theorem modeLaw_capSet {s : State} (h : ModeLaw s) (id : Nat) (mask : SegMask) (level minutes : Nat) :
    ModeLaw (capSet id mask level minutes s).state := by
  unfold capSet
  dsimp only
  split
  · exact h
  · split
    · exact h
    · split
      · exact modeLaw_capChange h fun f i hf => claims_replaceCap hf (by simp [isCap]) _ i
      · split
        · exact h
        · exact modeLaw_capChange h fun f i hf => by simp [claims, hf]

theorem modeLaw_capCancel {s : State} (h : ModeLaw s) (id : Nat) : ModeLaw (capCancel id s).state := by
  unfold capCancel
  split
  · exact h
  · split
    · exact h
    · exact modeLaw_capChange h fun f i hf => claims_withoutCap hf id _ i

/-! ## Changes that leave modes and claims alone -/

/-- Modes, configured segments, the run's segments and the entries stay. -/
structure ModesKept (s t : State) : Prop where
  mode : ∀ i, modeOf t i = modeOf s i
  configured : ∀ i, configured t i = configured s i
  run : ∀ i, inRun t i = inRun s i
  entries : t.table.entries = s.table.entries

theorem ModesKept.refl (s : State) : ModesKept s s := ⟨fun _ => rfl, fun _ => rfl, fun _ => rfl, rfl⟩

theorem ModesKept.trans {s t u : State} (h : ModesKept s t) (k : ModesKept t u) : ModesKept s u :=
  ⟨fun i => (k.mode i).trans (h.mode i), fun i => (k.configured i).trans (h.configured i), fun i => (k.run i).trans (h.run i),
    k.entries.trans h.entries⟩

theorem ModesKept.foldl {α : Type} {f : State → α → State} (h : ∀ s a, ModesKept s (f s a)) (l : List α) (s : State) :
    ModesKept s (l.foldl f s) := List.foldlRecOn _ _ (.refl s) fun u hu a _ => hu.trans (h u a)

theorem ModesKept.of_quiet {s t : State} (h : Quiet s t) (hm : ∀ i, modeOf t i = modeOf s i) : ModesKept s t :=
  ⟨hm, fun i => (ClaimedAlike.of_quiet h i).configured, fun i => (ClaimedAlike.of_quiet h i).run, by rw [h.table]⟩

theorem ModesKept.modeLaw {s t : State} (h : ModesKept s t) (hs : ModeLaw s) : ModeLaw t := modeLaw_iff.mpr fun i =>
  ClaimedAlike.modeAt ⟨h.configured i, h.run i, .of_covering (by rw [h.entries])⟩ (h.mode i) (modeLaw_iff.mp hs i)

theorem Neutral.modesKept {s t : State} (h : Neutral s t) : ModesKept s t :=
  ⟨fun i => (h.sameAt i).mode, fun i => (h.sameAt i).configured, fun i => (h.sameAt i).inRun, h.entries⟩

theorem modesKept_setPorts (s : State) (x : Ports) : ModesKept s (s.setPorts x) := ⟨fun _ => rfl, fun _ => rfl, fun _ => rfl, rfl⟩

theorem modesKept_setCoupling (s : State) (x : CouplingStore) : ModesKept s (s.setCoupling x) :=
  ⟨fun _ => rfl, fun _ => rfl, fun _ => rfl, rfl⟩

theorem modesKept_recompose (s : State) (i : SegId) : ModesKept s (recompose i s) :=
  ⟨fun _ => rfl, fun _ => rfl, fun _ => rfl, rfl⟩

theorem modesKept_updSeg (i : SegId) {f : SegConfig → SegConfig} (hf : ∀ c, (f c).configured = c.configured) (s : State) :
    ModesKept s (updSeg i f s) := by
  refine ⟨fun _ => rfl, fun j => ?_, fun _ => rfl, rfl⟩
  have hcfg : segCfg (updSeg i f s) j = if i = j then f (segCfg s j) else segCfg s j := updAt_get ..
  rw [configured, hcfg]
  split
  · exact hf _
  · rfl

theorem modesKept_retune (i : SegId) {f : SegConfig → SegConfig} (hf : ∀ c, (f c).configured = c.configured) (s : State) :
    ModesKept s (retune i f s) :=
  ((modesKept_updSeg i hf s).trans (.of_quiet (quiet_updCtrl i invalidate _) fun j =>
    modeOf_updCtrl (f := invalidate) (fun _ => rfl) j _)).trans (modesKept_recompose _ i)

theorem modesKept_segTune (n : Nat) (x : Tuning) (s : State) : ModesKept s (segTune n x s).state := by
  unfold segTune
  split
  · exact .refl s
  · split
    · exact .refl s
    · split
      · exact .refl s
      · exact modesKept_retune _ (f := tuneConfig (clampTuning x)) (fun _ => rfl) s

theorem modesKept_bandSet (n b : Nat) (q : BandConfig) (s : State) : ModesKept s (bandSet n b q s).state := by
  unfold bandSet
  split
  · exact .refl s
  · repeat' split
    case h_2 => exact modesKept_retune _ (fun _ => by rfl) s
    all_goals exact .refl s

theorem modesKept_writeThreshold (n : Nat) (s : State) (i : SegId) : ModesKept s (writeThreshold n s i) := by
  have h := modesKept_updSeg i (f := fun c => { c with glareThreshold := n }) (fun _ => rfl) s
  unfold writeThreshold
  dsimp only
  split
  · exact h.trans (.of_quiet (onCtrl_setGlare i false _).quiet fun j => modeOf_setGlare i j false _)
  · exact h

theorem modesKept_glareSet (m : SegMask) (n : Nat) (s : State) : ModesKept s (glareSet m n s).state := by
  unfold glareSet
  dsimp only
  split
  · exact .refl s
  · exact .foldl (modesKept_writeThreshold _) _ s

theorem modesKept_couplingWrite (k d n : Nat) (ps : List (Nat × Nat)) (s : State) :
    ModesKept s (couplingWrite k d n ps s).state := by
  unfold couplingWrite
  dsimp only
  repeat' split
  all_goals first | exact .refl s | exact modesKept_setCoupling s _

/-! ## Calibration (Section 8) -/

theorem modeLaw_endRun {r : CalRun} {res : CalResult} {s : State} (h : ModeLaw s) (hr : ∀ i, inRun s i = maskHas r.segments i) :
    ModeLaw (endRun r res s) := modeLaw_iff.mpr fun i =>
  (modeAt_endRun hr (modeLaw_iff.mp h i).steady).2 (.inl (modeLaw_iff.mp h i))

theorem modeLaw_abortRun {s : State} (h : ModeLaw s) (why : AbortReason) : ModeLaw (abortRun why s) := by
  unfold abortRun
  split
  · exact h
  · next r hr => exact modeLaw_endRun h fun i => by simp [inRun, hr]

/-- The start of a run over configured segments brings them into CALIBRATING (R58, R136). -/
theorem modeLaw_beginRun {m : SegMask} {q : CalParams} {clamped : Bool} {s : State} (h : ModeLaw s)
    (hidle : s.cal.run = none) (hm : ∀ i, maskHas m i = true → configured s i = true) : ModeLaw (beginRun m q clamped s) := by
  unfold beginRun
  dsimp only
  refine (neutral_testFadeWait (Neutral.refl _)).modesKept.modeLaw (modeLaw_iff.mpr fun i => ?_)
  have hr := remoded_entering m (s.setCal ⟨some (newRun m q s), ⟨.running, m, q, clamped, Vector.replicate 32 .notInvolved⟩⟩)
  generalize (maskSegs m).foldl enterCalibrating _ = t at hr ⊢
  have hrun : inRun t i = maskHas m i := by rw [inRun, hr.quiet.cal]; rfl
  have hconf : configured t i = configured s i := (ClaimedAlike.of_quiet hr.quiet i).configured
  have hmode := hr.mode i
  cases hi : maskHas m i with
  | true =>
    rw [if_pos hi] at hmode
    exact ⟨fun hc => absurd (hconf.symm.trans hc) (by simp [hm i hi]),
      fun _ => by rw [hmode]; exact rightMode_calibrating (hrun.trans hi)⟩
  | false =>
    rw [hi] at hmode
    have hclaim : ClaimedAlike i s t := ⟨hconf, by rw [hrun, hi, inRun, hidle]; rfl, .of_covering (by rw [hr.quiet.table]; rfl)⟩
    exact hclaim.modeAt hmode (modeLaw_iff.mp h i)

theorem modeLaw_calStart {s : State} (h : ModeLaw s) (mask : SegMask) (base high low half su opt : Nat) :
    ModeLaw (calStart mask base high low half su opt s).state := by
  unfold calStart
  dsimp only
  split
  · exact h
  next hrun =>
  split
  · exact h
  split
  · exact h
  split
  · exact h
  split
  · exact h
  · exact h
  · exact h
  split
  · exact h
  split
  · exact h
  refine modeLaw_beginRun h (by simpa using hrun) fun i hi => ?_
  rw [maskHas_and, maskHas_configuredMask, Bool.and_eq_true] at hi
  exact hi.2

/-- The run in progress replaced by one over the same segments. -/
theorem modesKept_setRun {r r' : CalRun} {s : State} (hr : ∀ i, inRun s i = maskHas r.segments i)
    (h : r'.segments = r.segments) : ModesKept s (setRun r' s) :=
  ⟨fun _ => rfl, fun _ => rfl, fun i => by rw [hr, ← h]; rfl, rfl⟩

/-- Entry to a phase of the run in progress moves no mode (R137). -/
theorem modesKept_enterPhase {r : CalRun} {s : State} (hr : ∀ i, inRun s i = maskHas r.segments i) (f : Phase)
    (probe cycle : Nat) : ModesKept s (enterPhase f probe cycle r s) := by
  unfold enterPhase
  dsimp only
  refine ModesKept.trans ?_ (neutral_testFadeWait (Neutral.refl _)).modesKept
  refine ModesKept.trans ?_ (.foldl modesKept_recompose _ _)
  exact modesKept_setRun hr rfl

theorem modeLaw_commit {r : CalRun} {s : State} (h : ModeLaw s) (hr : ∀ i, inRun s i = maskHas r.segments i) :
    ModeLaw (commit r s) := by
  have hk := modesKept_setCoupling s (commitStore r s.coupling)
  unfold commit
  exact modeLaw_endRun (hk.modeLaw h) fun i => (hk.run i).trans (hr i)

theorem modeLaw_enterPhase {r : CalRun} {s : State} (h : ModeLaw s) (hr : ∀ i, inRun s i = maskHas r.segments i) (f : Phase)
    (probe cycle : Nat) : ModeLaw (enterPhase f probe cycle r s) := (modesKept_enterPhase hr f probe cycle).modeLaw h

/-- What follows the last cycle of a probe position: the next position, the DARK phase, or the commit (R141). -/
theorem modeLaw_probesOver {x : CalRun} {s : State} (h : ModeLaw s) (hr : ∀ i, inRun s i = maskHas x.segments i) :
    ModeLaw (if x.probe + 1 < x.groups.length then enterPhase .probeHigh (x.probe + 1) 1 x s
      else if x.params.dark = .last then enterPhase .dark x.probe x.cycle x s else commit x s) := by
  split
  · exact modeLaw_enterPhase h hr _ _ _
  · split
    · exact modeLaw_enterPhase h hr _ _ _
    · exact modeLaw_commit h hr

/-- What follows a phase is the entry to another one or the commit (R139 to R141). -/
theorem modeLaw_nextPhase {r : CalRun} {s : State} (h : ModeLaw s) (hr : ∀ i, inRun s i = maskHas r.segments i) :
    ModeLaw (nextPhase r s) := by
  have hmap : ∀ f i, inRun s i = maskHas (mapInvolved r f).segments i := fun f i => (hr i).trans (by rw [mapInvolved])
  unfold nextPhase
  split
  · split <;> exact modeLaw_enterPhase h hr _ _ _
  · dsimp only
    split
    · exact modeLaw_enterPhase h (hmap _) _ _ _
    · exact modeLaw_commit h (hmap _)
  · exact modeLaw_enterPhase h hr _ _ _
  · split
    · exact modeLaw_enterPhase h hr _ _ _
    · exact modeLaw_probesOver h (by split <;> [exact hr; exact hmap _])

theorem modeLaw_calStageTimerExpiry {s : State} (h : ModeLaw s) : ModeLaw (calStageTimerExpiry s) := by
  unfold calStageTimerExpiry
  split
  · exact h
  next r hr =>
  have hin : ∀ i, inRun s i = maskHas r.segments i := fun i => by simp [inRun, hr]
  split
  · unfold stageExpiry
    split
    · exact h
    · exact (modesKept_setRun hin rfl).modeLaw h
    · exact modeLaw_nextPhase h hin
    · exact modeLaw_nextPhase h hin
  · exact h

/-! ## Passes, expiries, the bus and the resets -/

theorem modeLaw_passSegment {i : SegId} {s : State} (h : ModeLaw s) (hc : configured s i = true) : ModeLaw (passSegment i s) := by
  rw [passSegment_eq]
  have hk := onCtrl_passed i s
  have hmode := modeOf_passed i s
  refine (modesKept_recompose (passed i s) i).modeLaw (modeLaw_iff.mpr fun j => ?_)
  have hclaim := ClaimedAlike.of_quiet hk.quiet j
  by_cases hj : j = i
  · subst hj
    refine ⟨fun hc' => absurd (hclaim.configured.symm.trans hc') (by simp [hc]), fun _ => ?_⟩
    rw [hmode]
    refine hclaim.rightMode (rightMode_modeByPass ?_ _)
    rw [countPass_mode]
    exact (modeLaw_iff.mp h j).right hc
  · exact hclaim.modeAt (congrArg Ctrl.mode (hk.others j hj)) (modeLaw_iff.mp h j)

theorem modeLaw_departDue {s : State} (h : ModeLaw s) : ModeLaw (departDue s) := by
  unfold departDue
  dsimp only
  have hp := (modesKept_setPorts s ((s.table.entries.filter (dueAt s.table.uptime)).foldl raiseExpiry s.ports)).modeLaw h
  refine modeLaw_tableChange hp fun i hi => ?_
  rcases hi with hi | hc
  · refine .of_covering (covering_filter fun e he hf => ?_)
    rw [maskHas_foldl, List.any_filter, Bool.or_eq_false_iff, List.any_eq_false] at hi
    have hdue : dueAt s.table.uptime e = true := by simpa using hf
    simpa [hdue] using hi.2 e he
  · obtain ⟨hl, hh⟩ := unclaimed_of_unconfigured hp hc
    exact .of_within (fun e he => ⟨e, (List.mem_filter.mp he).1, rfl, fun _ hi => hi⟩) hl hh

theorem modeLaw_busFault {s : State} (h : ModeLaw s) : ModeLaw (busFault s) := by
  unfold busFault
  split
  · exact h
  · have hn : Neutral s (raiseLinkChange (setLink (linkDown s.lum.link) s)) :=
      neutral_setPorts (neutral_setLink (Neutral.refl s) _) _
    refine modeLaw_abortRun ?_ _
    split
    · exact hn.modesKept.modeLaw h
    · exact (neutral_endQuery hn _).modesKept.modeLaw h

theorem modeLaw_powerOn (a b c : StrapPins) (s : State) : ModeLaw (powerOn a b c s) :=
  (jointLaw_powerOn a b c s).2.2.1

/-- The warm restart ends the run, empties the table and leaves every configured segment in START (R15). -/
theorem modeLaw_warmRestart {s : State} (h : ModeLaw s) (p : PortId) : ModeLaw (warmRestart p s) := by
  have hrun : ∀ i, inRun (warmRestart p s) i = false := fun i => by
    simp only [inRun, warmRestart, restartCal]
    cases hr : s.cal.run with
    | none => rw [hr]; rfl
    | some r => rfl
  have hctrl : ∀ i : SegId, (warmRestart p s).ctrls[i] =
      if configured s i then restartCtrl (segCfg s i) (presentLevels s.lum i) s.ctrls[i] else s.ctrls[i] := fun i =>
    ofFn_get _ i
  refine modeLaw_iff.mpr fun i => ⟨fun hc => ?_, fun hc => ?_⟩
  · have hc : configured s i = false := hc
    refine ⟨?_, hrun i, rfl, rfl⟩
    rw [modeOf, hctrl, if_neg (by simp [hc])]
    exact ((modeLaw_iff.mp h i).unheld hc).mode
  · have hc : configured s i = true := hc
    have hm : modeOf (warmRestart p s) i = .start := by rw [modeOf, hctrl, if_pos hc]; rfl
    have hlock : isLocked (warmRestart p s) i = false := rfl
    have hhold : isHeld (warmRestart p s) i = false := rfl
    rw [hm]
    constructor <;> simp [hrun i, hlock, hhold]

theorem modeLaw_restart {s : State} (h : ModeLaw s) (p : PortId) : ModeLaw (restart p s) := by
  have hp : ∀ r st l, ModeLaw (placeReply p r st l s) := fun r st l => (modesKept_setPorts s _).modeLaw h
  unfold restart
  split
  · exact h
  · exact hp _ _ _
  · exact hp _ _ _
  · exact modeLaw_warmRestart (hp _ _ _) p

/-! ## The layout requests (Section 1) -/

/-- A defined segment, which nothing claimed, is in START (R5). -/
theorem modeLaw_defineSegment {i : SegId} {cfg : SegConfig} {s : State} (h : ModeLaw s) (hi : configured s i = false)
    (hcfg : cfg.configured = true) : ModeLaw (defineSegment i cfg s) := by
  have hseg : ∀ j, segCfg (defineSegment i cfg s) j = if i = j then cfg else segCfg s j := fun j => updAt_get _ _ _ _
  have hctrl : ∀ j : SegId, (defineSegment i cfg s).ctrls[j] = if i = j then definedCtrl cfg else s.ctrls[j] :=
    fun j => updAt_get _ _ _ _
  refine modeLaw_iff.mpr fun j => ?_
  by_cases hj : i = j
  · subst hj
    have hu := (modeLaw_iff.mp h i).unheld hi
    have hconf : configured (defineSegment i cfg s) i = true := by rw [configured, hseg, if_pos rfl, hcfg]
    have hm : modeOf (defineSegment i cfg s) i = .start := by rw [modeOf, hctrl, if_pos rfl]; rfl
    have hrun : inRun (defineSegment i cfg s) i = false := hu.run
    have hlock : isLocked (defineSegment i cfg s) i = false := hu.lock
    have hhold : isHeld (defineSegment i cfg s) i = false := hu.hold
    refine ⟨fun hc => absurd (hconf.symm.trans hc) (by simp), fun _ => ?_⟩
    rw [hm]
    constructor <;> simp [hrun, hlock, hhold]
  · have hclaim : ClaimedAlike j s (defineSegment i cfg s) :=
      ⟨by rw [configured, hseg, if_neg hj, configured], rfl, .of_covering rfl⟩
    exact hclaim.modeAt (by rw [modeOf, hctrl, if_neg hj, modeOf]) (modeLaw_iff.mp h j)

theorem modeLaw_segDefine {s : State} (h : ModeLaw s) (n b p q : Nat) : ModeLaw (segDefine n b p q s).state := by
  unfold segDefine
  split
  · exact h
  · split
    · split
      · exact h
      · next hc => exact modeLaw_defineSegment h (by simpa using hc) rfl
    · exact h

/-- The precedence holds before the segments are informed of a removal: nothing claims the segment any more (R8, R9). -/
theorem modeAt_removedUninformed {i : SegId} {s : State} (h : ModeLaw s) (hm : modeOf s i ≠ .calibrating) (j : SegId) :
    ModeAt (removedUninformed i s) j := by
  have hs := modeLaw_iff.mp h
  by_cases hj : i = j
  · subst hj
    have hconf := removedUninformed_configured i s
    have hcover := covering_removed_self i s.table.entries
    have hentries : (removedUninformed i s).table.entries = takeOut (fun _ => true) (maskOf i) s.table.entries := rfl
    refine ⟨fun _ => ⟨?_, (hs i).steady.inRun_false hm, ?_, ?_⟩, fun hc => absurd (hconf.symm.trans hc) (by simp)⟩
    · exact congrArg Ctrl.mode ((removedUntabled_ctrls i s i).trans (if_pos rfl))
    · rw [isLocked_eq_claims, claims_eq_covering, hentries, hcover]; rfl
    · rw [isHeld_eq_claims, claims_eq_covering, hentries, hcover]; rfl
  · have hclaim : ClaimedAlike j s (removedUninformed i s) :=
      ⟨congrArg SegConfig.configured ((removedUntabled_segCfg i s j).trans (if_neg hj)), rfl,
        .of_covering (covering_removed i (Ne.symm hj) _)⟩
    exact hclaim.modeAt (congrArg Ctrl.mode ((removedUntabled_ctrls i s j).trans (if_neg hj))) (hs j)

theorem modeLaw_removeSegment {i : SegId} {s : State} (h : ModeLaw s) (hm : modeOf s i ≠ .calibrating) :
    ModeLaw (removeSegment i s) := by
  have hat := modeAt_removedUninformed h hm
  rw [removeSegment_informed]
  refine (modesKept_setPorts (removedInformed i s) _).modeLaw (modeLaw_iff.mpr fun j => ?_)
  exact modeAt_informed (hat j).steady fun _ => hat j

theorem modeLaw_segRemove {s : State} (h : ModeLaw s) (n : Nat) : ModeLaw (segRemove n s).state := by
  unfold segRemove
  split
  · exact h
  · split
    · exact h
    · split
      · exact h
      · split
        · exact h
        · next hm => exact modeLaw_removeSegment h hm

/-! ## Every step -/

/-- Every command keeps the precedence of the modes. -/
theorem modeLaw_exec {c : Instr} {s t : State} (h : ModeLaw s) (he : exec c s = .next t) : ModeLaw t := by
  cases hn : isNeutral c with
  | true => exact (exec_neutral hn he).modesKept.modeLaw h
  | false =>
    have hserve : ∀ {p : PortId} {k : Kind} {owner : Body → State → Response},
        (∀ b, ModeLaw (owner b s).state) → ModeLaw (serve p k owner s) := fun ho =>
      serve_keeps (P := ModeLaw) (fun u x hu => (modesKept_setPorts u x).modeLaw hu) h ho
    cases c <;> first | exact absurd hn Bool.false_ne_true.symm | skip
    all_goals injection he with he; subst he
    case powerOnReset => exact modeLaw_powerOn _ _ _ s
    case segDefine => refine hserve fun b => ?_; split; exacts [modeLaw_segDefine h _ _ _ _, h]
    case segRemove => refine hserve fun b => ?_; split; exacts [modeLaw_segRemove h _, h]
    case segTune => refine hserve fun b => ?_; split; exacts [(modesKept_segTune _ _ s).modeLaw h, h]
    case bandSet => refine hserve fun b => ?_; split; exacts [(modesKept_bandSet _ _ _ s).modeLaw h, h]
    case couplingWrite => refine hserve fun b => ?_; split; exacts [(modesKept_couplingWrite _ _ _ _ s).modeLaw h, h]
    case overrideSet => refine hserve fun b => ?_; split; exacts [modeLaw_overrideSet h _ _ _, h]
    case overrideCancel => refine hserve fun b => ?_; split; exacts [modeLaw_overrideCancel h _, h]
    case lockSet => refine hserve fun b => ?_; split; exacts [modeLaw_lockSet h _ _, h]
    case lockRelease => refine hserve fun b => ?_; split; exacts [modeLaw_lockRelease h _, h]
    case holdSet => refine hserve fun b => ?_; split; exacts [modeLaw_holdSet h _ _, h]
    case holdSettled => refine hserve fun b => ?_; split; exacts [modeLaw_holdSettled h _, h]
    case capSet => refine hserve fun b => ?_; split; exacts [modeLaw_capSet h _ _ _ _, h]
    case capCancel => refine hserve fun b => ?_; split; exacts [modeLaw_capCancel h _, h]
    case calStart => refine hserve fun b => ?_; split; exacts [modeLaw_calStart h _ _ _ _ _ _ _, h]
    case calAbort => exact hserve fun _ => modeLaw_abortRun h _
    case glareSet => refine hserve fun b => ?_; split; exacts [(modesKept_glareSet _ _ s).modeLaw h, h]
    case restart => exact modeLaw_restart h _
    case pass =>
      split
      · next hc => rw [Bool.and_eq_true] at hc; exact modeLaw_passSegment h hc.1
      · exact h
    case uptimeTick => exact modeLaw_departDue (ModesKept.modeLaw ⟨fun _ => rfl, fun _ => rfl, fun _ => rfl, rfl⟩ h)
    case entryExpiry => exact modeLaw_departDue h
    case busFault => exact modeLaw_busFault h
    case calStageTimerExpiry => exact modeLaw_calStageTimerExpiry h

/-- Settles O8: a mode moves with what claims the segment, for a table change informs every segment whose lock or hold it moves,
the end of a run releases all of its segments, and a pass moves among START, ACTIVE and DEGRADED alone. -/
theorem modeLawKept : Obligations.ModeLawKept := by
  unfold Obligations.ModeLawKept
  exact step_keeps (fun s l h => ModesKept.modeLaw ⟨fun _ => rfl, fun _ => rfl, fun _ => rfl, rfl⟩ h)
    fun c s t h he => modeLaw_exec h he

end Sys2Proof.Proofs
end

section
/-! PROOFS. The ends of a run in the words of the statements: CAL_ABORT, the commit, and the bus fault; with the expiries of the
table (R58, R79, R127, R128, R146, R147, R149). -/

namespace Sys2Proof.Proofs

open Sys2Proof Sys2Proof.Machine Sys2Proof.Safety Sys2Proof.Laws

/-! ## CAL_ABORT (R149) -/

/-- Settles O57: in IDLE the abort leaves the state, and a run ends with its segments released. -/
theorem calAbortRule : Obligations.CalAbortRule := by
  unfold Obligations.CalAbortRule
  intro p link tag s h
  have hexec : exec (.calAbort p) s = .next (placeReply p ⟨link, tag, .calAbort⟩ .ok [] (abortRun .request s)) :=
    congrArg Host.Outcome.next (serve_runs (fun _ s => accept false (abortRun .request s)) h)
  refine ⟨fun hidle => ?_, fun r hr => ?_⟩
  · rw [hexec, abortRun, hidle]
  · obtain ⟨hrel, hports, hraised⟩ := endRun_released r { s.cal.result with outcome := .aborted .request } s
    obtain ⟨hcal, hlay, hsens, hcoup, htab, hen, hpend⟩ := endRun_frame r { s.cal.result with outcome := .aborted .request } s
    refine ⟨_, ?_, hcal, hrel, hports, hraised, hcoup, hlay, hsens, htab, hen, hpend⟩
    rw [hexec, abortRun, hr]

/-! ## The commit (R145, R146) -/

/-- What the last expiry of a run has gathered: the dark offsets at the end of DARK, or the pair under probe (R140, R143). -/
def lastGathered (r : CalRun) : CalRun :=
  if r.phase = .dark then mapInvolved r fun a => { a with dark := darkOffset a }
  else
    match probeGroup r.groups r.probe with
    | none => r
    | some g => mapInvolved r (settlePair r.params g)

/-- A change of what is gathered changes nothing else of the run. -/
theorem mapInvolved_frame (r : CalRun) (f : CalSensor → CalSensor) : (mapInvolved r f).segments = r.segments ∧
    (mapInvolved r f).groups = r.groups ∧ (mapInvolved r f).sensors = r.sensors ∧ (mapInvolved r f).params = r.params ∧
    (mapInvolved r f).probe = r.probe := by
  rw [mapInvolved]
  exact ⟨rfl, rfl, rfl, rfl, rfl⟩

/-- The last expiry of a run commits (R140, R141). -/
theorem calStageTimerExpiry_last {r : CalRun} {s : State} (hr : s.cal.run = some r) (ht : r.timer ≠ none) (hs : r.stage = .sample)
    (h : r.phase = .dark ∧ r.params.dark ≠ .first ∨
      r.phase = .probeLow ∧ r.params.loops ≤ r.cycle ∧ r.groups.length ≤ r.probe + 1 ∧ r.params.dark ≠ .last) :
    calStageTimerExpiry s = commit (lastGathered r) s := by
  have htimer : r.timer.isSome = true := Option.isSome_iff_ne_none.mpr ht
  have hnext : calStageTimerExpiry s = nextPhase r s := by
    simp only [calStageTimerExpiry, hr, htimer, if_true, stageExpiry, hs]
  rw [hnext, nextPhase]
  rcases h with ⟨hp, hd⟩ | ⟨hp, hc, hg, hd⟩
  · simp only [hp, mapInvolved, hd, if_false, lastGathered, if_true]
  · have hsame : ∀ x : CalRun, x.groups = r.groups → x.probe = r.probe → x.params = r.params →
        (if x.probe + 1 < x.groups.length then enterPhase .probeHigh (x.probe + 1) 1 x s
          else if x.params.dark = .last then enterPhase .dark x.probe x.cycle x s else commit x s) = commit x s :=
      fun x h1 h2 h3 => by rw [h1, h2, h3, if_neg (Nat.not_lt.mpr hg), if_neg hd]
    have hdark : ¬ r.phase = .dark := by rw [hp]; decide
    rw [lastGathered, if_neg hdark]
    simp only [hp, if_neg (Nat.not_lt.mpr hc)]
    cases probeGroup r.groups r.probe with
    | none => exact hsame r rfl rfl rfl
    | some g =>
      obtain ⟨_, hgroups, _, hparams, hprobe⟩ := mapInvolved_frame r (settlePair r.params g)
      exact hsame _ hgroups hprobe hparams

/-- Gathering writes what the sensors have gathered and nothing else of the run. -/
theorem lastGathered_frame (r : CalRun) : (lastGathered r).segments = r.segments ∧ (lastGathered r).groups = r.groups ∧
    (lastGathered r).sensors = r.sensors ∧ (lastGathered r).params = r.params := by
  unfold lastGathered
  split
  · obtain ⟨h1, h2, h3, h4, _⟩ := mapInvolved_frame r fun a => { a with dark := darkOffset a }
    exact ⟨h1, h2, h3, h4⟩
  · split
    · exact ⟨rfl, rfl, rfl, rfl⟩
    · next g _ =>
      obtain ⟨h1, h2, h3, h4, _⟩ := mapInvolved_frame r (settlePair r.params g)
      exact ⟨h1, h2, h3, h4⟩

theorem mapInvolved_gathered {r : CalRun} {k : SensorId} (h : r.sensors.contains k = true) (f : CalSensor → CalSensor) :
    (mapInvolved r f).gathered[k] = f r.gathered[k] := (ofFn_get _ k).trans (if_pos h)

theorem lastGathered_gathered {r : CalRun} {k : SensorId} (h : r.sensors.contains k = true) : (lastGathered r).gathered[k] =
    if r.phase = .dark then { r.gathered[k] with dark := darkOffset r.gathered[k] }
    else
      match r.groups[r.probe]? with
      | none => r.gathered[k]
      | some group =>
        { r.gathered[k] with
          highSum := 0, highCount := 0, lowSum := 0, lowCount := 0
          measured := match coefficient r.params r.gathered[k] with
            | none => r.gathered[k].measured
            | some c => r.gathered[k].measured ++ [⟨group, c⟩] } := by
  unfold lastGathered
  split
  · exact mapInvolved_gathered h _
  · rw [probeGroup]
    cases r.groups[r.probe]? with
    | none => rfl
    | some g => exact mapInvolved_gathered h _

/-- The status of R146 in the words of the statement. -/
theorem sensorStatus_eq (r : CalRun) (a : CalSensor) : sensorStatus r a =
    if (∀ x ∈ r.groups, measuredOf a x = none) ∧ (r.params.dark = .none ∨ a.darkCount = 0) then .noSamples
    else if r.params.dark ≠ .none ∧ a.dark = .rejected then .darkRejected
    else if ∃ x ∈ r.groups, measuredOf a x = none then .partly else .updated := by
  simp only [sensorStatus, Bool.and_eq_true, Bool.or_eq_true, List.all_eq_true, List.any_eq_true, Option.isNone_iff_eq_none,
    beq_iff_eq, bne_iff_ne]

/-- A run that ends with a new coupling store. -/
theorem endRun_setCoupling (r : CalRun) (res : CalResult) (x : CouplingStore) (s : State) :
    ∃ t, endRun r res (s.setCoupling x) = t ∧ t.cal = ⟨none, res⟩ ∧ t.coupling = x ∧ SegmentsReleased r s s.lum t ∧
      OnlyEventsAndCauses s t ∧
      (∀ q : PortId, t.ports[q].raised =
        if s.ports[q].role = .floor then s.ports[q].raised ||| 0x0040 else s.ports[q].raised) ∧
      t.layout = s.layout ∧ t.sensors = s.sensors ∧ t.table = s.table ∧ t.energy = s.energy ∧ t.pending = s.pending := by
  obtain ⟨hrel, hports, hraised⟩ := endRun_released r res (s.setCoupling x)
  obtain ⟨hcal, hlay, hsens, hcoup, htab, hen, hpend⟩ := endRun_frame r res (s.setCoupling x)
  exact ⟨_, rfl, hcal, hcoup, segmentsReleased_congr rfl rfl rfl rfl rfl hrel, hports, hraised, hlay, hsens, htab, hen, hpend⟩

/-- The stores of a commit: the involved sensors' lists, dark offsets and statuses (R146). -/
theorem commitStore_get (r : CalRun) (x : CouplingStore) (k : SensorId) :
    (commitStore r x).lists[k] = (if r.sensors.contains k then newList r r.gathered[k] x.lists[k] else x.lists[k]) ∧
    (commitStore r x).dark[k] = (if r.sensors.contains k then (match r.gathered[k].dark with
      | .measured d => d
      | .notTaken | .rejected => x.dark[k]) else x.dark[k]) := ⟨ofFn_get _ k, ofFn_get _ k⟩

theorem commitResult_status (r : CalRun) (x : CalResult) (k : SensorId) : (commitResult r x).statuses[k] =
    if r.sensors.contains k then sensorStatus r r.gathered[k] else x.statuses[k] := ofFn_get _ k

/-- The new list reads of the run its groups alone (R145). -/
theorem newList_congr {r r' : CalRun} (h : r'.groups = r.groups) (a : CalSensor) (old : List Coupling) :
    newList r' a old = newList r a old := by
  have hc : candidate r' a old = candidate r a old := by funext g; rw [candidate, candidate, h]
  rw [newList, newList, hc]

/-- Settles O60: the last expiry commits what the run has gathered, and the run ends with its segments released. -/
theorem commitRule : Obligations.CommitRule := by
  unfold Obligations.CommitRule
  intro r s hr ht hs h
  obtain ⟨hseg, hgroups, hsensors, hparams⟩ := lastGathered_frame r
  have hg : ∀ k : SensorId, r.sensors.contains k = true → _ := fun k hk => lastGathered_gathered (r := r) hk
  have hexec : exec .calStageTimerExpiry s = .next (commit (lastGathered r) s) :=
    congrArg Host.Outcome.next (calStageTimerExpiry_last hr ht hs h)
  rw [commit] at hexec
  generalize lastGathered r = r' at *
  obtain ⟨t, ht, hcal, hcoup, ⟨hctrls, hlum⟩, hframe⟩ :=
    endRun_setCoupling r' (commitResult r' s.cal.result) (commitStore r' s.coupling) s
  have hrun : t.cal.run = none := congrArg Calibration.run hcal
  have hres : t.cal.result = commitResult r' s.cal.result := congrArg Calibration.result hcal
  rw [hseg] at hlum
  have hrel : SegmentsReleased r s s.lum t := ⟨fun i => by rw [hctrls i, hseg], hlum⟩
  refine ⟨t, r'.gathered, hexec.trans (congrArg _ ht), hg, hrun, ?_⟩
  rw [hcoup, hres]
  refine ⟨rfl, rfl, rfl, rfl, fun k hk => ?_, fun k hk => ?_, hrel, hframe⟩
  · obtain ⟨hlist, hdark⟩ := commitStore_get r' s.coupling k
    rw [hlist, hdark, commitResult_status, hsensors, hk]
    exact ⟨rfl, rfl, rfl⟩
  · obtain ⟨hlist, hdark⟩ := commitStore_get r' s.coupling k
    rw [hlist, hdark, commitResult_status, hsensors, if_pos hk, if_pos hk, if_pos hk, newList_congr hgroups, sensorStatus_eq,
      hgroups, hparams]
    exact ⟨rfl, rfl, rfl⟩

end Sys2Proof.Proofs
end

section
/-! PROOFS. The bus fault and its restoration, and the expiries of the table (R79, R127, R128). -/

namespace Sys2Proof.Proofs

open Sys2Proof Sys2Proof.Machine Sys2Proof.Safety Sys2Proof.Laws

/-! ## A link that is DOWN (R115, R127) -/

/-- Only the queue of the link differs. -/
def OnlyQueue (k k' : Link) : Prop := k' = { k with queue := k'.queue }

/-- A DOWN link takes levels into its queue and starts nothing. -/
theorem onlyQueue_placed {k : Link} (h : k.state = .down) (unsent : Bool) (g : GroupId) (n : Nat) :
    OnlyQueue k (placed unsent g n k) := by
  unfold placed
  split
  · rfl
  · split
    · rfl
    · rw [arbitrate_idle (by simp [sends, h])]
      rfl

theorem onlyQueue_recomposed (chosen : SegId → Bool) (t : State) {l : Lum} (h : l.link.state = .down) :
    OnlyQueue l.link (recomposed chosen t l).link := by
  unfold recomposed handedDown
  dsimp only
  refine List.foldlRecOn _ _ rfl fun k hk g _ => ?_
  have hdown : k.state = .down := by rw [hk]; exact h
  split
  · exact hk
  · split
    · have := onlyQueue_placed hdown
      unfold OnlyQueue at this hk ⊢
      rw [this, hk]
    · exact hk

/-! ## The fault before the run is aborted (R127) -/

/-- What the luminaire side and the ports leave alone. -/
theorem LinkSide.frame {s t : State} (h : LinkSide s t) : t.pending = s.pending ∧ t.layout = s.layout ∧ t.ctrls = s.ctrls ∧
    t.sensors = s.sensors ∧ t.coupling = s.coupling ∧ t.table = s.table ∧ t.energy = s.energy ∧ t.cal = s.cal := by
  unfold LinkSide at h
  generalize t.ports = p, t.lum = l at h
  subst h
  exact ⟨rfl, rfl, rfl, rfl, rfl, rfl, rfl, rfl⟩

/-- The link of a fault report: DOWN, the transmission abandoned, the query ended NO_LINK. -/
def faultLink (k : Link) : Link :=
  { k with
    state := .down, faultReported := true, tx := none, unit := .idle
    pauseInForce := k.pauseInForce || k.state == .draining || k.state == .paused
    record := if k.unit = .idle then k.record else { k.record with valid := true, outcome := some .noLink } }

/-- The state in which a fault report aborts the run. -/
def faulted (s : State) : State :=
  let u := raiseLinkChange (setLink (linkDown s.lum.link) s)
  if unitIdle u.lum.link then u else endQuery .noLink u

theorem busFault_eq {s : State} (h : s.lum.link.faultReported = false) : busFault s = abortRun .link (faulted s) :=
  if_neg (by simp [h])

/-- A raised cause is recorded on a port with a role (R154). -/
theorem raiseAt_or (c : Cause) (p : Port) :
    raiseAt c p = { p with raised := p.raised ||| if p.role = .off then 0 else causeMask c } := by
  unfold raiseAt
  split
  · simp
  · rfl

theorem raiseAll_get (c : Cause) (v : Ports) (q : PortId) : (raiseAll c v)[q] = raiseAt c v[q] := by simp [raiseAll]

theorem raiseOn_get (p : PortId) (c : Cause) (v : Ports) (q : PortId) :
    (raiseOn p c v)[q] = if p = q then raiseAt c v[q] else v[q] := updAt_get ..

/-- LINK_CHANGE, and QUERY_DONE behind it where a query ends, on one port. -/
theorem raiseAt_fault (p : Port) (asked : Prop) [Decidable asked] :
    (if asked then raiseAt .queryDone (raiseAt .linkChange p) else raiseAt .linkChange p) =
      { p with raised := p.raised ||| if p.role = .off then 0 else 0x0400 ||| if asked then 0x0020 else 0 } := by
  by_cases hoff : p.role = .off
  · have hstays : ∀ c, raiseAt c p = p := fun c => if_pos hoff
    simp only [hstays, ite_self, if_pos hoff, BitVec.ofNat_eq_ofNat, BitVec.or_zero]
  · by_cases ha : asked <;> simp [raiseAt, hoff, ha, causeMask, Cause.bit, BitVec.or_assoc]

/-- What a fault report does before it aborts a run: the ports and the link. -/
theorem faulted_frame (s : State) : (faulted s).lum = { s.lum with link := faultLink s.lum.link } ∧
    (∀ q : PortId, (faulted s).ports[q] = { s.ports[q] with raised := s.ports[q].raised |||
      (if s.ports[q].role = .off then 0
      else 0x0400 ||| (if s.lum.link.unit ≠ .idle ∧ q = s.lum.link.record.port then 0x0020 else 0)) }) ∧
    LinkSide s (faulted s) := by
  unfold faulted
  dsimp only
  have hchange : ∀ q : PortId, (raiseLinkChange (setLink (linkDown s.lum.link) s)).ports[q] = raiseAt .linkChange s.ports[q] :=
    fun q => raiseAll_get ..
  by_cases hu : s.lum.link.unit = .idle
  · have hidle : unitIdle (raiseLinkChange (setLink (linkDown s.lum.link) s)).lum.link = true := beq_iff_eq.mpr hu
    rw [if_pos hidle]
    refine ⟨?_, fun q => ?_, rfl⟩
    · simp [faultLink, linkDown, hu]
    · rw [hchange, ← raiseAt_fault, if_neg fun h => h.1 hu]
  · have hbusy : ¬ unitIdle (raiseLinkChange (setLink (linkDown s.lum.link) s)).lum.link = true := fun h =>
      hu (beq_iff_eq.mp h)
    rw [if_neg hbusy]
    refine ⟨?_, fun q => ?_, rfl⟩
    · simp [faultLink, linkDown, hu, endQuery]
    · have hend : (endQuery .noLink (raiseLinkChange (setLink (linkDown s.lum.link) s))).ports[q] =
          if s.lum.link.record.port = q then raiseAt .queryDone (raiseLinkChange (setLink (linkDown s.lum.link) s)).ports[q]
          else (raiseLinkChange (setLink (linkDown s.lum.link) s)).ports[q] := raiseOn_get ..
      rw [hend, hchange, ← raiseAt_fault]
      simp only [ne_eq, hu, not_false_eq_true, true_and, eq_comm]

/-! ## BUS_FAULT and BUS_RESTORATION (R127, R128) -/

theorem busFault_holds {s : State} (h : s.lum.link.faultReported = false) :
    ∃ t : State, exec .busFault s = .next t ∧
      (s.cal.run = none → t.cal = s.cal ∧ t.lum = { s.lum with link := faultLink s.lum.link } ∧ t.ctrls = s.ctrls) ∧
      (∀ r, s.cal.run = some r →
        t.cal = ⟨none, { s.cal.result with outcome := .aborted .link }⟩ ∧
        SegmentsReleased r s { s.lum with link := faultLink s.lum.link } t ∧
        t.lum.link = { faultLink s.lum.link with queue := t.lum.link.queue }) ∧ OnlyEventsAndCauses s t ∧
      (∀ q : PortId, t.ports[q].raised = s.ports[q].raised |||
        (if s.ports[q].role = .off then 0
        else 0x0400 ||| (if s.lum.link.unit ≠ .idle ∧ q = s.lum.link.record.port then 0x0020 else 0)
          ||| (if s.cal.run ≠ none ∧ s.ports[q].role = .floor then 0x0040 else 0))) ∧
      t.layout = s.layout ∧ t.sensors = s.sensors ∧ t.coupling = s.coupling ∧ t.table = s.table ∧ t.energy = s.energy ∧
      t.pending = s.pending := by
  have hexec : exec .busFault s = .next (abortRun .link (faulted s)) := congrArg Host.Outcome.next (busFault_eq h)
  obtain ⟨hlum, hports, hother⟩ := faulted_frame s
  generalize faulted s = u at *
  obtain ⟨hupend, hulay, hctrls, husens, hucoup, hutab, huen, hucal⟩ := hother.frame
  have honly : OnlyEventsAndCauses s u := onlyEventsAndCauses_iff.mpr fun q => by rw [hports]
  cases hr : s.cal.run with
  | none =>
    have ht : abortRun .link u = u := by rw [abortRun, hucal, hr]
    refine ⟨u, by rw [hexec, ht], fun _ => ⟨hucal, hlum, hctrls⟩, nofun, honly, fun q => ?_,
      hulay, husens, hucoup, hutab, huen, hupend⟩
    rw [hports]
    simp
  | some r =>
    have ht : abortRun .link u = endRun r { s.cal.result with outcome := .aborted .link } u := by
      rw [abortRun, hucal, hr]
    obtain ⟨hrel, hrports, hraised⟩ := endRun_released r { s.cal.result with outcome := .aborted .link } u
    obtain ⟨hcal, hlay, hsens, hcoup, htab, hen, hpend⟩ := endRun_frame r { s.cal.result with outcome := .aborted .link } u
    rw [← ht] at hrel hrports hraised hcal hlay hsens hcoup htab hen hpend
    generalize abortRun .link u = t at *
    refine ⟨t, hexec, nofun, fun r' h => ?_, onlyEventsAndCauses_trans honly hrports, fun q => ?_,
      hlay.trans hulay, hsens.trans husens, hcoup.trans hucoup, htab.trans hutab, hen.trans huen, hpend.trans hupend⟩
    · cases h
      have hrel' : SegmentsReleased r s { s.lum with link := faultLink s.lum.link } t :=
        segmentsReleased_congr rfl hctrls hulay (by rw [hlum]) (by rw [hutab]) (hlum ▸ hrel)
      have hlink : OnlyQueue (faultLink s.lum.link) t.lum.link := by
        rw [hrel'.2]
        exact onlyQueue_recomposed (l := { s.lum with link := faultLink s.lum.link }) _ _ rfl
      exact ⟨hcal, hrel', hlink⟩
    · rw [hraised, hports]
      generalize s.ports[q] = p
      cases hp : p.role <;> simp [BitVec.or_assoc]

/-- Settles O54: the fault takes the link down and ends query and run; the restoration queues every group without an entry, or
marks every group unsent under the pause. -/
theorem busFaultAndRestoration : Obligations.BusFaultAndRestoration := by
  unfold Obligations.BusFaultAndRestoration
  refine ⟨fun s h => ?_, fun s h => ⟨restoreLink s.lum, ?_, fun hp => ?_, fun hp => ?_⟩⟩
  · obtain ⟨t, ht⟩ := busFault_holds h
    exact ⟨t, faultLink s.lum.link, ht.1, rfl, ht.2⟩
  · exact congrArg Host.Outcome.next (if_pos h)
  · rw [restoreLink, if_pos hp]; rfl
  · rw [restoreLink, if_neg (by simp [hp])]
    refine congrArg (fun levels => Lum.mk (setUnsent false s.lum).groups (arbitrate { s.lum.link with
      state := .running, pauseInForce := false, faultReported := false, queue := s.lum.link.queue ++ levels })) ?_
    refine List.filterMap_congr fun g _ => ?_
    cases s.lum.groups[g] with
    | none => rfl
    | some r =>
      change (if !queued s.lum.link g then some (g, r.present) else none) =
        if queued s.lum.link g then none else some (g, r.present)
      cases queued s.lum.link g <;> rfl

end Sys2Proof.Proofs
end

section
/-! PROOFS. The second and the expiries (R77, R79, R80). -/

namespace Sys2Proof.Proofs

open Sys2Proof Sys2Proof.Machine Sys2Proof.Safety Sys2Proof.Laws

/-! ## The causes of expiries (R79) -/

/-- The expiry of the entry is announced to the role. -/
def expiresFor (r : Role) (e : Entry) : Bool :=
  match r, e.ask with
  | .floor, .override _ _ | .shade, .hold _ false | .energy, .cap _ _ _ => true
  | _, _ => false

/-- The cause by which expiries are announced to the role: OVERRIDE_EXPIRED, HOLD_EXPIRED or CAP_EXPIRED. -/
def expiryBit : Role → BitVec 16
  | .off => 0
  | .floor => 0x0100
  | .shade => 0x0080
  | .energy => 0x0200

/-- A cause raised to a role's port joins the cause set there. -/
theorem raiseRole_joins {r : Role} (hr : r ≠ .off) (c : Cause) (v : Ports) (q : PortId) : (raiseRole r c v)[q] =
    { v[q] with raised := v[q].raised ||| if v[q].role = r then causeMask c else 0 } := by
  rw [raiseRole_get, raiseAt]
  generalize v[q] = p
  by_cases hp : p.role = r
  · rw [if_pos hp, if_pos hp, if_neg (hp ▸ hr)]
  · simp [hp]

theorem raiseExpiry_get (v : Ports) (e : Entry) (q : PortId) : (raiseExpiry v e)[q] =
    { v[q] with raised := v[q].raised ||| if expiresFor v[q].role e then expiryBit v[q].role else 0 } := by
  unfold raiseExpiry expiryCause expiresFor
  cases e.ask with
  | override => exact (raiseRole_joins (r := .floor) nofun ..).trans (by cases v[q].role <;> rfl)
  | hold _ settling =>
    cases settling
    · exact (raiseRole_joins (r := .shade) nofun ..).trans (by cases v[q].role <;> rfl)
    · simp
  | lock => simp
  | cap => exact (raiseRole_joins (r := .energy) nofun ..).trans (by cases v[q].role <;> rfl)

theorem foldl_raiseExpiry_get (l : List Entry) (v : Ports) (q : PortId) : (l.foldl raiseExpiry v)[q] =
    { v[q] with raised := v[q].raised ||| if l.any (expiresFor v[q].role) then expiryBit v[q].role else 0 } := by
  induction l generalizing v with
  | nil => simp
  | cons e l ih =>
    rw [List.foldl_cons, ih, raiseExpiry_get, List.any_cons]
    cases expiresFor v[q].role e <;> cases l.any (expiresFor v[q].role) <;> simp [BitVec.or_assoc]

/-- Some departing entry satisfies the test. -/
theorem any_departing {t : List Entry} {now : Nat} {f : Entry → Bool} :
    (t.filter (dueAt now)).any f = true ↔ ∃ e ∈ t, expiryOf e = some now ∧ f e = true := by
  simp only [List.any_eq_true, List.mem_filter, dueAt, beq_iff_eq, and_assoc]

/-- The announcement of the departing entries in the words of the statement. -/
theorem departing_bits (t : List Entry) (now : Nat) (role : Role) :
    (if (t.filter (dueAt now)).any (expiresFor role) then expiryBit role else 0) =
      if role = .floor ∧ (∃ e ∈ t, isOverride e = true ∧ expiryOf e = some now) then 0x0100
      else if role = .shade ∧ (∃ e ∈ t, e.ask = .hold now false) then 0x0080
      else if role = .energy ∧ (∃ e ∈ t,
          (match e.ask with
            | .cap _ _ x => x == some now
            | _ => false) = true) then 0x0200
      else 0 := by
  have hfloor : ∀ e : Entry, expiryOf e = some now ∧ expiresFor .floor e = true ↔ isOverride e = true ∧ expiryOf e = some now :=
    fun e => by unfold expiryOf expiresFor isOverride; cases e.ask <;> simp
  have hshade : ∀ e : Entry, expiryOf e = some now ∧ expiresFor .shade e = true ↔ e.ask = .hold now false := fun e => by
    unfold expiryOf expiresFor
    cases e.ask with
    | hold x settling => cases settling <;> simp
    | _ => simp
  have henergy : ∀ e : Entry, expiryOf e = some now ∧ expiresFor .energy e = true ↔
      (match e.ask with
        | .cap _ _ x => x == some now
        | _ => false) = true := fun e => by unfold expiryOf expiresFor; cases e.ask <;> simp
  simp only [any_departing]
  cases role with
  | off => simp [expiryBit]
  | floor => simp only [hfloor, true_and, reduceCtorEq, false_and, if_false, expiryBit]
  | shade => simp only [hshade, true_and, reduceCtorEq, false_and, if_false, expiryBit]
  | energy => simp only [henergy, true_and, reduceCtorEq, false_and, if_false, expiryBit]

/-- Settles O41: the tick moves the uptime, and at either command the due entries leave as one table change behind their
announcements. -/
theorem tickAndExpiry : Obligations.TickAndExpiry := by
  unfold Obligations.TickAndExpiry
  intro c now s h
  obtain ⟨entries, hentries⟩ : ∃ entries, s.table.entries.filter (fun e => !dueAt now e) = entries := ⟨_, rfl⟩
  obtain ⟨ports, hports⟩ : ∃ ports, (s.table.entries.filter (dueAt now)).foldl raiseExpiry s.ports = ports := ⟨_, rfl⟩
  obtain ⟨informed, hinformed⟩ : ∃ m, (s.table.entries.filter (dueAt now)).foldl (fun m e => m ||| e.mask) 0 = m := ⟨_, rfl⟩
  have hexec : exec c s = .next (tableChange entries none informed
      ((s.setTable { s.table with uptime := now }).setPorts ports)) := by
    rw [← hentries, ← hports, ← hinformed]
    rcases h with ⟨rfl, hlt, rfl⟩ | ⟨rfl, hge, rfl⟩ | ⟨rfl, rfl⟩
    · have hnext : nextUptime s.table.uptime = s.table.uptime + 1 := if_pos hlt
      rw [← hnext]; rfl
    · have hnext : nextUptime s.table.uptime = Config.uptimePastEnd.toNat := if_neg (Nat.not_lt.mpr hge)
      rw [← hnext]; rfl
    · rfl
  obtain ⟨t, ht, hq, hctrls, hlum⟩ := informed_changed entries informed
    ((s.setTable { s.table with uptime := now }).setPorts ports)
  have hdeparted : OnlyEventsAndCauses s ((s.setTable { s.table with uptime := now }).setPorts ports) :=
    onlyEventsAndCauses_iff.mpr fun q => by rw [setPorts_ports, ← hports, foldl_raiseExpiry_get]
  refine ⟨t, hexec.trans (congrArg _ ht), by rw [hq.table]; rfl, by rw [hq.table]; rfl, ?_, fun q => ?_, hq.layout, hq.sensors,
    hq.coupling, hq.energy, hq.cal, hq.pending,
    onlyEventsAndCauses_trans hdeparted (onlyEventsAndCauses_of_onlyEvents hq.ports), informed, fun i => ?_, ?_, hlum⟩
  · rw [hq.table]
    refine hentries.symm.trans (List.filter_congr fun e _ => ?_)
    by_cases he : expiryOf e = some now <;> simp [dueAt, he]
  · rw [raised_of_onlyEvents hq.ports, setEntries_ports, setPorts_ports, ← hports, foldl_raiseExpiry_get]
    exact congrArg (s.ports[q].raised ||| ·) (departing_bits ..)
  · have hnone : maskHas 0 i = false := maskHas_zero i
    rw [← hinformed, maskHas_foldl, hnone, Bool.false_or, any_departing]
  · rw [hq.table]
    exact hctrls

end Sys2Proof.Proofs
end

section
/-! PROOFS. A change of mode reaches every port that enables its segment (R59, R170). -/

namespace Sys2Proof.Proofs

open Sys2Proof Sys2Proof.Machine Sys2Proof.Safety Sys2Proof.Laws

/-! ## Event sets that only grow -/

/-- The port keeps its role, its mask and every event recorded. -/
structure EventsGrow (p q : Port) : Prop where
  role : q.role = p.role
  mask : q.segMask = p.segMask
  events : ∀ (i : SegId) (n : Nat), p.events[i].getLsbD n = true → q.events[i].getLsbD n = true

theorem EventsGrow.refl (p : Port) : EventsGrow p p := ⟨rfl, rfl, fun _ _ h => h⟩

theorem EventsGrow.trans {p q r : Port} (h : EventsGrow p q) (k : EventsGrow q r) : EventsGrow p r :=
  ⟨k.role.trans h.role, k.mask.trans h.mask, fun i n hb => k.events i n (h.events i n hb)⟩

theorem eventsGrow_offerAt (i : SegId) (e : SegEvent) (p : Port) : EventsGrow p (offerAt i e p) where
  role := by rw [offerAt_eq]
  mask := by rw [offerAt_eq]
  events := fun j n h => by
    rw [offerAt_events]
    split
    · rw [BitVec.getLsbD_or, h, Bool.true_or]
    · exact h

theorem eventsGrow_raiseAt (c : Cause) (p : Port) : EventsGrow p (raiseAt c p) := by
  rw [raiseAt_eq]
  exact ⟨rfl, rfl, fun _ _ h => h⟩

theorem eventsGrow_raiseRole (r : Role) (c : Cause) (v : Ports) (q : PortId) : EventsGrow v[q] (raiseRole r c v)[q] := by
  rw [raiseRole_get]
  split
  · exact eventsGrow_raiseAt c _
  · exact .refl _

theorem eventsGrow_placeReplyAt (k : Kind) (tag : Byte) (st : Status) (l : List Byte) (p : Port) :
    EventsGrow p (placeReplyAt k tag st l p) := by
  unfold placeReplyAt
  refine EventsGrow.trans ?_ (eventsGrow_raiseAt .replyReady _)
  exact ⟨rfl, rfl, fun _ _ h => h⟩

/-! ## Changes that announce the modes they change -/

/-- Event sets only grow, and a segment whose mode differs has MODE_CHANGE at every port that enables it. -/
structure Announces (s t : State) : Prop where
  ports : ∀ q : PortId, EventsGrow s.ports[q] t.ports[q]
  raised : ∀ i : SegId, modeOf t i ≠ modeOf s i → ∀ q : PortId, s.ports[q].role ≠ .off →
    maskHas s.ports[q].segMask i = true → t.ports[q].events[i].getLsbD SegEvent.modeChange.bit = true

theorem Announces.of_modes {s t : State} (hp : ∀ q : PortId, EventsGrow s.ports[q] t.ports[q])
    (hm : ∀ i, modeOf t i = modeOf s i) : Announces s t := ⟨hp, fun i h => absurd (hm i) h⟩

/-- A change that leaves ports and modes alone announces nothing. -/
theorem Announces.of_same {s t : State} (hp : t.ports = s.ports) (hm : ∀ i, modeOf t i = modeOf s i) : Announces s t :=
  .of_modes (fun q => by rw [hp]; exact .refl _) hm

theorem Announces.refl (s : State) : Announces s s := .of_same rfl fun _ => rfl

theorem Announces.trans {s t u : State} (h : Announces s t) (k : Announces t u) : Announces s u where
  ports := fun q => (h.ports q).trans (k.ports q)
  raised := fun i hi q hr hm => by
    by_cases ht : modeOf t i = modeOf s i
    · exact k.raised i (fun e => hi (e.trans ht)) q ((h.ports q).role ▸ hr) ((h.ports q).mask ▸ hm)
    · exact (k.ports q).events i _ (h.raised i ht q hr hm)

/-- What precedes the announced change leaves ports and modes alone. -/
theorem Announces.after_same {s u t : State} (h : Announces u t) (hp : u.ports = s.ports) (hm : ∀ i, modeOf u i = modeOf s i) :
    Announces s t := .trans (.of_same hp hm) h

theorem Announces.foldl {α : Type} {f : State → α → State} (h : ∀ s a, Announces s (f s a)) (l : List α) (s : State) :
    Announces s (l.foldl f s) := List.foldlRecOn _ _ (.refl s) fun u hu a _ => hu.trans (h u a)

theorem announces_raiseEvent (i : SegId) (e : SegEvent) (s : State) : Announces s (raiseEvent i e s) :=
  .of_modes (fun q => by rw [raiseEvent_ports, offerEvent_get]; exact eventsGrow_offerAt i e _) fun _ => rfl

theorem announces_setRole (r : Role) (c : Cause) (s : State) : Announces s (s.setPorts (raiseRole r c s.ports)) :=
  .of_modes (fun q => eventsGrow_raiseRole r c s.ports q) fun _ => rfl

theorem announces_recompose (i : SegId) (s : State) : Announces s (recompose i s) := .of_same rfl fun _ => rfl

/-- A change of one segment's record with MODE_CHANGE raised for it. -/
theorem announces_moded (i : SegId) (f : Ctrl → Ctrl) (s : State) : Announces s (raiseEvent i .modeChange (updCtrl i f s)) where
  ports := (announces_raiseEvent i .modeChange (updCtrl i f s)).ports
  raised := fun j hj q hr hm => by
    have hij : i = j := by
      by_contra hij
      refine hj ?_
      rw [modeOf, raiseEvent_ctrls, updCtrl_ctrls, updAt_get, if_neg hij, modeOf]
    subst hij
    have hevents : (raiseEvent i .modeChange (updCtrl i f s)).ports[q].events[i] = s.ports[q].events[i] ||| 1 := by
      rw [raiseEvent_ports, offerEvent_get, offerAt_events]
      exact if_pos ⟨rfl, hr, hm⟩
    rw [hevents, BitVec.getLsbD_or]
    exact Bool.or_true _

theorem announces_changeMode (i : SegId) (m : Mode) (s : State) : Announces s (changeMode i m s) := by
  unfold changeMode
  split
  · exact .refl s
  · exact announces_moded i _ s

theorem announces_remode (c : State → SegId → Bool) (m : State → SegId → Mode) (s : State) (i : SegId) :
    Announces s (remode c m s i) := by
  unfold remode
  split
  · exact (announces_changeMode i _ s).trans (announces_recompose i _)
  · exact .refl s

/-! ## The end of a run, table changes, passes -/

theorem announces_endRun (r : CalRun) (res : CalResult) (s : State) : Announces s (endRun r res s) := by
  unfold endRun
  dsimp only
  refine Announces.trans ?_ (announces_setRole .floor .calDone _)
  rw [leaveCalibrating_eq_remode]
  exact (Announces.foldl (announces_remode _ _) _ _).after_same rfl fun _ => rfl

theorem announces_abortRun (why : AbortReason) (s : State) : Announces s (abortRun why s) := by
  unfold abortRun
  split
  · exact .refl s
  · exact announces_endRun ..

theorem announces_tableChange (entries : List Entry) (inserted : Option Entry) (informed : SegMask) (s : State) :
    Announces s (tableChange entries inserted informed s) := by
  obtain ⟨u, h, hu⟩ := tableChange_cases entries inserted informed s
  rw [h, informSegment_eq_remode]
  refine .trans ?_ (.foldl (announces_remode _ _) _ u)
  have hset : Announces s (setEntries entries s) := .of_same rfl fun _ => rfl
  rcases hu with ⟨rfl, _⟩ | ⟨r, res, _, rfl⟩
  · exact hset
  · exact hset.trans (announces_endRun r res _)

theorem TableRequested.announces {s t : State} (h : TableRequested s t) : Announces s t := by
  rcases h with rfl | ⟨entries, inserted, informed, rfl⟩
  · exact .refl _
  · exact announces_tableChange entries inserted informed s

theorem announces_updCtrl (i : SegId) {f : Ctrl → Ctrl} (hf : ∀ c, (f c).mode = c.mode) (s : State) :
    Announces s (updCtrl i f s) := .of_same rfl fun j => modeOf_updCtrl hf j s

theorem announces_setGlare (i : SegId) (on : Bool) (s : State) : Announces s (setGlare i on s) := by
  unfold setGlare glareEvent
  refine .trans (announces_updCtrl i (f := fun c => { c with glare := on }) (fun _ => rfl) s) ?_
  split
  · exact .refl _
  · exact announces_raiseEvent ..

theorem announces_passMode (i : SegId) (data : Bool) (s : State) : Announces s (passMode i data s) := by
  have h : ∀ m, Announces s (changeMode i m (updCtrl i (countPass data) s)) := fun m =>
    (announces_updCtrl i (countPass_mode data) s).trans (announces_changeMode i m _)
  unfold passMode
  dsimp only
  split
  · exact (h _).trans (announces_raiseEvent ..)
  · exact h _

theorem announces_passDaylight (i : SegId) (raw : Option Nat) (s : State) : Announces s (passDaylight i raw s) := by
  have h := announces_updCtrl i (f := fun c => { c with lastRaw := raw }) (fun _ => rfl) s
  unfold passDaylight passRaw
  split
  · exact .refl s
  · cases raw with
    | none => exact h
    | some d => exact h.trans (announces_setGlare ..)

theorem announces_passControl (i : SegId) (cfg : SegConfig) (seed : Bool) (raw : Option Nat) (s : State) :
    Announces s (passControl i cfg seed raw s) := by
  unfold passControl
  split
  · split
    · exact announces_updCtrl i (f := controlStep _ _ _) (fun _ => rfl) s
    · exact .refl s
  · exact .refl s

theorem announces_passSegment (i : SegId) (s : State) : Announces s (passSegment i s) := by
  rw [passSegment_eq, passed]
  exact ((((announces_passMode i _ s).trans (announces_passDaylight i _ _)).trans (announces_passControl i _ _ _ _)).trans
    (announces_updCtrl i (f := rearm _) (fun _ => rfl) _)).trans (announces_recompose i _)

/-! ## The layout, the sequencer, expiries and the bus -/

theorem announces_segDefine (n b p q : Nat) (s : State) : Announces s (segDefine n b p q s).state := by
  have hdef : ∀ i cfg, Announces s (defineSegment i cfg s) := fun i cfg => by
    have hmoded := (announces_moded i (fun _ => definedCtrl cfg) ((updSeg i (fun _ => cfg) s).setSensors
      (reassign s.layout (updSeg i (fun _ => cfg) s).layout s.sensors))).after_same (s := s) rfl fun _ => rfl
    exact hmoded.trans (.of_same rfl fun _ => rfl)
  unfold segDefine
  split
  · exact .refl s
  · split
    · split
      · exact .refl s
      · exact hdef _ _
    · exact .refl s

theorem announces_testFadeWait (s : State) : Announces s (testFadeWait s) := by
  unfold testFadeWait
  repeat' split
  all_goals exact .of_same rfl fun _ => rfl

theorem announces_beginRun (m : SegMask) (q : CalParams) (clamped : Bool) (s : State) :
    Announces s (beginRun m q clamped s) := by
  unfold beginRun
  dsimp only
  refine .trans ?_ (announces_testFadeWait _)
  rw [enterCalibrating_eq_remode]
  exact (Announces.foldl (announces_remode _ _) _ _).after_same rfl fun _ => rfl

theorem announces_calStart (mask : SegMask) (base high low half su opt : Nat) (s : State) :
    Announces s (calStart mask base high low half su opt s).state := by
  unfold calStart
  dsimp only
  repeat' split
  all_goals first | exact .refl s | exact announces_beginRun _ _ _ s

theorem announces_enterPhase (f : Phase) (probe cycle : Nat) (r : CalRun) (s : State) :
    Announces s (enterPhase f probe cycle r s) := by
  unfold enterPhase
  dsimp only
  refine .trans ?_ (announces_testFadeWait _)
  exact (Announces.foldl (fun u i => announces_recompose i u) _ _).after_same rfl fun _ => rfl

theorem announces_setCoupling (x : CouplingStore) (s : State) : Announces s (s.setCoupling x) := .of_same rfl fun _ => rfl

theorem announces_commit (r : CalRun) (s : State) : Announces s (commit r s) := by
  unfold commit
  exact (announces_setCoupling _ s).trans (announces_endRun ..)

theorem announces_nextPhase (r : CalRun) (s : State) : Announces s (nextPhase r s) := by
  unfold nextPhase
  dsimp only
  repeat' split
  all_goals first | exact announces_enterPhase _ _ _ _ s | exact announces_commit _ s

theorem announces_calStageTimerExpiry (s : State) : Announces s (calStageTimerExpiry s) := by
  unfold calStageTimerExpiry
  split
  · exact .refl s
  · split
    · unfold stageExpiry
      split
      · exact .refl s
      · exact .of_same rfl fun _ => rfl
      · exact announces_nextPhase _ s
      · exact announces_nextPhase _ s
    · exact .refl s

theorem announces_departDue (s : State) : Announces s (departDue s) := by
  unfold departDue
  dsimp only
  refine Announces.trans ?_ (announces_tableChange ..)
  refine .of_modes (fun q => ?_) fun _ => rfl
  rw [setPorts_ports, foldl_raiseExpiry_get]
  exact ⟨rfl, rfl, fun _ _ h => h⟩

theorem announces_busFault (s : State) : Announces s (busFault s) := by
  cases h : s.lum.link.faultReported with
  | true => rw [busFault, if_pos h]; exact .refl s
  | false =>
    obtain ⟨_, hports, hside⟩ := faulted_frame s
    obtain ⟨_, _, hctrls, _⟩ := hside.frame
    rw [busFault_eq h]
    refine .trans (.of_modes (fun q => ?_) fun i => by rw [modeOf, hctrls, modeOf]) (announces_abortRun .link _)
    rw [hports]
    exact ⟨rfl, rfl, fun _ _ h => h⟩

/-! ## Every command -/

theorem announces_placeReply (p : PortId) (r : Request) (st : Status) (l : List Byte) (s : State) :
    Announces s (placeReply p r st l s) := by
  refine .of_modes (fun q => ?_) fun _ => rfl
  rw [placeReply, setPorts_ports, updAt_get]
  split
  · exact eventsGrow_placeReplyAt ..
  · exact .refl _

/-- A request announces what its owning block announces: its reply changes no mode and no event set. -/
theorem announces_serve {p : PortId} {k : Kind} {owner : Body → State → Response} {s : State}
    (h : ∀ b, Announces s (owner b s).state) : Announces s (serve p k owner s) := by
  rcases serve_cases p k owner s with ⟨e, _⟩ | ⟨r, _, _, _, ⟨_, _, e⟩ | ⟨_, _, e⟩ | ⟨_, e⟩⟩ <;> rw [e]
  · exact .refl s
  · exact announces_placeReply ..
  · exact announces_placeReply ..
  · exact (h r.body).trans (announces_placeReply ..)

/-- Every command but the resets and SEG_REMOVE leaves the modes, or announces those it changes. -/
theorem exec_announces {c : Instr} {s t : State} (hpower : ∀ x y z, c ≠ .powerOnReset x y z) (hrestart : ∀ p, c ≠ .restart p)
    (hremove : ∀ p, c ≠ .segRemove p) (he : exec c s = .next t) : (∀ i, modeOf t i = modeOf s i) ∨ Announces s t := by
  cases hn : isNeutral c with
  | true => exact .inl (exec_neutral hn he).modesKept.mode
  | false =>
    have hmodes : ∀ {p : PortId} {k : Kind} {owner : Body → State → Response},
        (∀ b, ModesKept s (owner b s).state) → ∀ i, modeOf (serve p k owner s) i = modeOf s i := fun ho =>
      (serve_keeps (P := ModesKept s) (fun u x hu => hu.trans (modesKept_setPorts u x)) (.refl s) ho).mode
    have hserve := @announces_serve
    cases c <;> first | exact absurd hn Bool.false_ne_true.symm | skip
    all_goals injection he with he; subst he
    case powerOnReset => exact absurd rfl (hpower _ _ _)
    case restart => exact absurd rfl (hrestart _)
    case segRemove => exact absurd rfl (hremove _)
    case segTune => refine .inl (hmodes fun b => ?_); split; exacts [modesKept_segTune _ _ s, .refl s]
    case bandSet => refine .inl (hmodes fun b => ?_); split; exacts [modesKept_bandSet _ _ _ s, .refl s]
    case couplingWrite => refine .inl (hmodes fun b => ?_); split; exacts [modesKept_couplingWrite _ _ _ _ s, .refl s]
    case glareSet => refine .inl (hmodes fun b => ?_); split; exacts [modesKept_glareSet _ _ s, .refl s]
    all_goals right
    case segDefine => refine hserve fun b => ?_; split; exacts [announces_segDefine _ _ _ _ s, .refl s]
    case overrideSet => refine hserve fun b => ?_; split; exacts [(tableRequested_overrideSet s _ _ _).announces, .refl s]
    case overrideCancel => refine hserve fun b => ?_; split; exacts [(tableRequested_overrideCancel s _).announces, .refl s]
    case lockSet => refine hserve fun b => ?_; split; exacts [(tableRequested_lockSet s _ _).announces, .refl s]
    case lockRelease => refine hserve fun b => ?_; split; exacts [(tableRequested_lockRelease s _).announces, .refl s]
    case holdSet => refine hserve fun b => ?_; split; exacts [(tableRequested_holdSet s _ _).announces, .refl s]
    case holdSettled => refine hserve fun b => ?_; split; exacts [(tableRequested_holdSettled s _).announces, .refl s]
    case capSet => refine hserve fun b => ?_; split; exacts [(tableRequested_capSet s _ _ _ _).announces, .refl s]
    case capCancel => refine hserve fun b => ?_; split; exacts [(tableRequested_capCancel s _).announces, .refl s]
    case calStart => refine hserve fun b => ?_; split; exacts [announces_calStart _ _ _ _ _ _ _ s, .refl s]
    case calAbort => exact hserve fun _ => announces_abortRun _ s
    case pass =>
      split
      · exact announces_passSegment _ s
      · exact .refl s
    case uptimeTick => exact (announces_departDue _).after_same rfl fun _ => rfl
    case entryExpiry => exact announces_departDue s
    case busFault => exact announces_busFault s
    case calStageTimerExpiry => exact announces_calStageTimerExpiry s

/-- Settles O40: modes change with MODE_CHANGE offered to every port, and what follows in the same command takes no event away. -/
theorem modeChangeRaised : Obligations.ModeChangeRaised := by
  unfold Obligations.ModeChangeRaised
  intro c s t hpower hrestart hremove he i hi q hrole hmask
  rcases exec_announces hpower hrestart hremove he with h | h
  · exact absurd (h i) hi
  · exact h.raised i hi q hrole hmask

end Sys2Proof.Proofs
end

section
/-! PROOFS. The pass of a segment: counts, mode, control arithmetic, glare and events (R53, R55, R59 to R67, R71). -/

namespace Sys2Proof.Proofs

open Sys2Proof Sys2Proof.Machine Sys2Proof.Safety Sys2Proof.Laws

/-! ## The record a pass leaves -/

theorem usableDaylight_isSome (s : State) (k : Option SensorId) :
    (usableDaylight s k).isSome = sensorUsable s.sensors k := by
  cases k with
  | none => rfl
  | some k =>
    have hval : sensorUsable s.sensors (some k) = holderUsable s.sensors.holders[k] := rfl
    rw [hval, usableDaylight]
    split
    · next h => exact h.symm
    · next h => exact (Bool.eq_false_of_not_eq_true h).symm

/-- A pass has data exactly where there is a raw daylight (R41, R46). -/
theorem rawDaylight_isSome (s : State) (i : SegId) : (rawDaylight s i).isSome = passData i s := by
  rw [rawDaylight, passData, ← usableDaylight_isSome, ← usableDaylight_isSome]
  cases usableDaylight s (segCfg s i).primary <;> cases usableDaylight s (segCfg s i).secondary <;> rfl

/-- Counts and mode after the first steps of a pass (R53, R55). -/
def countedCtrl (data : Bool) (c : Ctrl) : Ctrl := { countPass data c with mode := modeByPass data (countPass data c) }

/-- Raw daylight and glare flag after the third step (R61, R71). -/
def sightedCtrl (cfg : SegConfig) (raw : Option Nat) (c : Ctrl) : Ctrl :=
  if c.mode = .calibrating then c
  else { c with lastRaw := raw, glare := (raw.map fun d => glareAfter cfg d c.glare).getD c.glare }

/-- The control arithmetic of an ACTIVE pass with data (R61). -/
def steppedCtrl (cfg : SegConfig) (seed : Bool) (raw : Option Nat) (c : Ctrl) : Ctrl :=
  match raw with
  | some d => if c.mode = .active then controlStep cfg seed d c else c
  | none => c

/-- The record of a segment after its pass. -/
def passedCtrl (cfg : SegConfig) (raw : Option Nat) (c : Ctrl) : Ctrl :=
  rearm cfg.passPeriod (steppedCtrl cfg (c.mode != .active) raw (sightedCtrl cfg raw (countedCtrl raw.isSome c)))

/-- A pass enters no mode but ACTIVE and DEGRADED (R55). -/
theorem enterMode_modeByPass (data : Bool) (cfg : SegConfig) (snap : Vector Nat 3) {c : Ctrl} (h : c.mode ≠ modeByPass data c) :
    enterMode (modeByPass data c) cfg snap c = { c with mode := modeByPass data c } := by
  have hmoved : modeByPass data c = .active ∨ modeByPass data c = .degraded := by
    unfold modeByPass at h ⊢
    cases hc : c.mode <;> rw [hc] at h <;> simp only at h ⊢
    case start =>
      cases data
      · by_cases hm : c.miss = 3
        · exact .inr (by simp [hm])
        · exact absurd (by simp [hm]) h
      · exact .inl rfl
    case active => cases data <;> [exact .inr rfl; exact .inl rfl]
    case degraded => split <;> [exact .inl rfl; exact .inr rfl]
    all_goals exact absurd rfl h
  rcases hmoved with h | h <;> rw [h] <;> rfl

theorem updCtrl_get (i : SegId) (f : Ctrl → Ctrl) (s : State) : (updCtrl i f s).ctrls[i] = f s.ctrls[i] := by
  rw [updCtrl_ctrls, updAt_get, if_pos rfl]

theorem setGlare_get (i : SegId) (on : Bool) (s : State) : (setGlare i on s).ctrls[i] = { s.ctrls[i] with glare := on } := by
  rw [setGlare_ctrls, updAt_get, if_pos rfl]

theorem passMode_ctrl (i : SegId) (data : Bool) (s : State) : (passMode i data s).ctrls[i] = countedCtrl data s.ctrls[i] := by
  have hchange : (changeMode i (modeByPass data (countPass data s.ctrls[i])) (updCtrl i (countPass data) s)).ctrls[i] =
      countedCtrl data s.ctrls[i] := by
    have hmode : modeOf (updCtrl i (countPass data) s) i = (countPass data s.ctrls[i]).mode := by rw [modeOf, updCtrl_get]
    rw [changeMode_ctrl, changedCtrl_eq, hmode, updCtrl_get]
    unfold countedCtrl
    split
    · next h => rw [← h]
    · next h => exact enterMode_modeByPass _ _ _ h
  unfold passMode
  dsimp only
  rw [updCtrl_get]
  split
  · exact hchange
  · exact hchange

theorem passDaylight_ctrl (i : SegId) (raw : Option Nat) (s : State) :
    (passDaylight i raw s).ctrls[i] = sightedCtrl (segCfg s i) raw s.ctrls[i] := by
  unfold passDaylight passRaw sightedCtrl
  rw [modeOf]
  split
  · rfl
  · cases raw with
    | none => exact updCtrl_get ..
    | some d => exact (setGlare_get ..).trans (by rw [updCtrl_get]; rfl)

theorem passControl_ctrl (i : SegId) (cfg : SegConfig) (seed : Bool) (raw : Option Nat) (s : State) :
    (passControl i cfg seed raw s).ctrls[i] = steppedCtrl cfg seed raw s.ctrls[i] := by
  unfold passControl steppedCtrl
  cases raw with
  | none => rfl
  | some d =>
    dsimp only
    rw [modeOf]
    split
    · exact updCtrl_get ..
    · rfl

theorem passed_ctrl (i : SegId) (s : State) : (passed i s).ctrls[i] = passedCtrl (segCfg s i) (rawDaylight s i) s.ctrls[i] := by
  have hcfg : segCfg (passMode i (passData i s) s) i = segCfg s i := by
    rw [segCfg, (onCtrl_passMode i _ s).quiet.layout, segCfg]
  rw [passed, updCtrl_get, passControl_ctrl, passDaylight_ctrl, passMode_ctrl, hcfg, ← rawDaylight_isSome]
  rfl

/-! ## The fields of that record -/

section
variable (cfg : SegConfig) (raw : Option Nat) (c : Ctrl)

theorem steppedCtrl_eq (seed : Bool) : steppedCtrl cfg seed raw c = { c with
    filter := (steppedCtrl cfg seed raw c).filter, bandDaylight := (steppedCtrl cfg seed raw c).bandDaylight
    outputs := (steppedCtrl cfg seed raw c).outputs } := by
  unfold steppedCtrl
  cases raw with
  | none => rfl
  | some d => dsimp only; split <;> rfl

theorem countPass_eq (data : Bool) : countPass data c = { c with
    good := if data then min 3 (c.good + 1) else 0, miss := if data then 0 else min 3 (c.miss + 1) } := by
  cases data <;> rfl

theorem sightedCtrl_eq : sightedCtrl cfg raw c =
    { c with lastRaw := (sightedCtrl cfg raw c).lastRaw, glare := (sightedCtrl cfg raw c).glare } := by
  unfold sightedCtrl
  split <;> rfl

/-- Counts, mode, snapshots and timer do not depend on the arithmetic of the later steps. -/
theorem passedCtrl_counts : (passedCtrl cfg raw c).good = (if raw.isSome then min 3 (c.good + 1) else 0) ∧
    (passedCtrl cfg raw c).miss = (if raw.isSome then 0 else min 3 (c.miss + 1)) ∧
    (passedCtrl cfg raw c).mode = modeByPass raw.isSome (countPass raw.isSome c) ∧
    (passedCtrl cfg raw c).passTimer = some cfg.passPeriod ∧ (passedCtrl cfg raw c).startSnap = c.startSnap ∧
    (passedCtrl cfg raw c).heldSnap = c.heldSnap := by
  unfold passedCtrl
  rw [steppedCtrl_eq, sightedCtrl_eq, countedCtrl, countPass_eq]
  exact ⟨rfl, rfl, rfl, rfl, rfl, rfl⟩

theorem modeByPass_calibrating (data : Bool) : modeByPass data (countPass data c) = .calibrating ↔ c.mode = .calibrating := by
  rw [modeByPass, countPass_mode]
  cases c.mode <;> simp <;> repeat' split
  all_goals simp

theorem passedCtrl_sight : (passedCtrl cfg raw c).lastRaw = (if c.mode = .calibrating then c.lastRaw else raw) ∧
    (passedCtrl cfg raw c).glare =
      if c.mode = .calibrating then c.glare else (raw.map fun d => glareAfter cfg d c.glare).getD c.glare := by
  have hkept : (countPass raw.isSome c).lastRaw = c.lastRaw ∧ (countPass raw.isSome c).glare = c.glare := by
    rw [countPass_eq]
    exact ⟨rfl, rfl⟩
  unfold passedCtrl
  rw [steppedCtrl_eq]
  unfold sightedCtrl countedCtrl
  dsimp only [rearm]
  by_cases h : c.mode = .calibrating
  · rw [if_pos ((modeByPass_calibrating c _).mpr h), if_pos h, if_pos h]
    exact hkept
  · rw [if_neg fun k => h ((modeByPass_calibrating c _).mp k), if_neg h, if_neg h, hkept.2]
    exact ⟨rfl, rfl⟩

end

/-! ## Counts and mode -/

/-- A pass that is due, in the model's terms. -/
theorem exec_pass {i : SegId} {s : State} (hc : configured s i = true) (ht : s.ctrls[i].passTimer ≠ none) :
    exec (.pass i) s = .next (passSegment i s) :=
  congrArg Host.Outcome.next (if_pos (by rw [hc, Bool.true_and, Option.isSome_iff_ne_none]; exact ht))

theorem passSegment_ctrl (i : SegId) (s : State) :
    (passSegment i s).ctrls[i] = passedCtrl (segCfg s i) (rawDaylight s i) s.ctrls[i] := passed_ctrl i s

/-- Settles O46. -/
theorem passCountsAndMode : Obligations.PassCountsAndMode := by
  unfold Obligations.PassCountsAndMode
  intro i s hc ht
  obtain ⟨hq, hlum, hothers⟩ := onCtrl_passed i s
  have hconf : configured (passed i s) i = true := by rw [configured, segCfg, hq.layout]; exact hc
  have hrec := recompose_recomposed hconf
  rw [hlum] at hrec
  obtain ⟨hgood, hmiss, hmode, htimer, hstart, hheld⟩ := passedCtrl_counts (segCfg s i) (rawDaylight s i) s.ctrls[i]
  obtain ⟨hlast, _⟩ := passedCtrl_sight (segCfg s i) (rawDaylight s i) s.ctrls[i]
  rw [← passSegment_ctrl] at hgood hmiss hmode htimer hstart hheld hlast
  refine ⟨passSegment i s, exec_pass hc ht, hgood, hmiss, ?_, hlast, htimer, hstart, hheld, hothers, hrec, hq.ports, hq.layout,
    hq.sensors, hq.coupling, hq.table, hq.energy, hq.cal, hq.pending⟩
  rw [hgood, hmiss]
  refine hmode.trans ?_
  rw [countPass_eq, modeByPass, modeOf]
  generalize s.ctrls[i] = c
  obtain ⟨mode⟩ := c
  cases (rawDaylight s i).isSome <;> cases mode <;> simp

end Sys2Proof.Proofs
end

section
/-! PROOFS. The control arithmetic of a pass and its events (R59, R64 to R67, R71, R170). -/

namespace Sys2Proof.Proofs

open Sys2Proof Sys2Proof.Machine Sys2Proof.Safety Sys2Proof.Laws

/-! ## The control arithmetic (R64 to R67) -/

/-- A filter value at the raw daylight stays (R64). -/
theorem filterMove_self (nUp nDown f : Nat) : filterMove nUp nDown f f = f := by simp [filterMove]

/-- A raw daylight above the filter value moves it up (R64). -/
theorem filterMove_up {nUp nDown raw f : Nat} (h : f < raw) : filterMove nUp nDown raw f =
    if raw - f < 2 ^ nUp then f + 1 else f + (raw - f) / 2 ^ nUp := by
  obtain ⟨d, rfl⟩ := Nat.exists_eq_add_of_lt h
  have hd : ((f + d + 1 : Nat) : Int) - f = ((d + 1 : Nat) : Int) := by omega
  have hsub : f + d + 1 - f = d + 1 := by omega
  have hpos : (0 : Int) < ((d + 1 : Nat) : Int) := by omega
  unfold filterMove
  dsimp only
  rw [hd, hsub, if_pos hpos, if_neg hpos.ne', Int.natAbs_natCast]
  refine if_congr Iff.rfl (if_pos hpos) ?_
  rw [← Int.ofNat_tdiv, ← Int.natCast_add, Int.toNat_natCast]

/-- A raw daylight below the filter value moves it down (R64). -/
theorem filterMove_down {nUp nDown raw f : Nat} (h : raw < f) : filterMove nUp nDown raw f =
    if f - raw < 2 ^ nDown then f - 1 else f - (f - raw) / 2 ^ nDown := by
  obtain ⟨d, rfl⟩ := Nat.exists_eq_add_of_lt h
  have hd : (raw : Int) - ((raw + d + 1 : Nat) : Int) = -((d + 1 : Nat) : Int) := by omega
  have hsub : raw + d + 1 - raw = d + 1 := by omega
  have hneg : ¬ (0 : Int) < -((d + 1 : Nat) : Int) := by omega
  have hne : -((d + 1 : Nat) : Int) ≠ 0 := by omega
  unfold filterMove
  dsimp only
  rw [hd, hsub, if_neg hneg, if_neg hne, Int.natAbs_neg, Int.natAbs_natCast]
  refine if_congr Iff.rfl (if_neg hneg) ?_
  rw [Int.neg_tdiv, ← Int.ofNat_tdiv]
  omega

theorem outputNext_eq (db : Nat) (q : BandConfig) (cand : Nat) (o : Output) : (outputNext db q cand o).valid = true ∧
    (outputNext db q cand o).value =
      if o.valid = false then cand
      else if db ≤ cand - o.value + (o.value - cand) then cand
      else if cand = q.lmin ∨ cand = q.lmax then cand
      else o.value := by
  unfold outputNext
  cases o.valid with
  | false => exact ⟨rfl, rfl⟩
  | true =>
    by_cases hband : db ≤ cand - o.value + (o.value - cand)
    · simp [hband]
    · by_cases hsame : cand = o.value
      · simp [hsame]
      · by_cases hend : cand = q.lmin ∨ cand = q.lmax <;> simp [hband, hsame, hend]

section
variable (cfg : SegConfig) (seed : Bool) (raw : Nat) (c : Ctrl)

/-- What an ACTIVE pass writes of a band of the segment. -/
theorem controlStep_band {b : BandId} (h : b.val < cfg.bandCount) :
    (controlStep cfg seed raw c).bandDaylight[b] = some (bandDaylight cfg.bands[b] (filterNext cfg seed raw c.filter)) ∧
    (controlStep cfg seed raw c).outputs[b] = outputNext cfg.deadBand cfg.bands[b] (candidateOutput cfg.bands[b]
      (shortfall cfg.target (bandDaylight cfg.bands[b] (filterNext cfg seed raw c.filter)))) c.outputs[b] :=
  ⟨(ofFn_get _ b).trans (if_pos h), (ofFn_get _ b).trans (if_pos h)⟩

/-- It leaves the bands that the segment does not have. -/
theorem controlStep_other {b : BandId} (h : cfg.bandCount ≤ b.val) :
    (controlStep cfg seed raw c).bandDaylight[b] = c.bandDaylight[b] ∧
    (controlStep cfg seed raw c).outputs[b] = c.outputs[b] :=
  ⟨(ofFn_get _ b).trans (if_neg (Nat.not_lt.mpr h)), (ofFn_get _ b).trans (if_neg (Nat.not_lt.mpr h))⟩

end

section
variable (cfg : SegConfig) (raw : Option Nat) (c : Ctrl)

/-- The arithmetic fields of a record. -/
def SameArithmetic (c d : Ctrl) : Prop := d.filter = c.filter ∧ d.bandDaylight = c.bandDaylight ∧ d.outputs = c.outputs

/-- The steps before the control arithmetic leave its fields alone. -/
theorem sameArithmetic_sighted : SameArithmetic c (sightedCtrl cfg raw (countedCtrl raw.isSome c)) := by
  rw [sightedCtrl_eq, countedCtrl, countPass_eq]
  exact ⟨rfl, rfl, rfl⟩

theorem mode_sighted : (sightedCtrl cfg raw (countedCtrl raw.isSome c)).mode = (passedCtrl cfg raw c).mode := by
  rw [passedCtrl, steppedCtrl_eq]; rfl

/-- A pass that leaves the segment in another mode than ACTIVE leaves its arithmetic alone (R61). -/
theorem passedCtrl_inactive (h : (passedCtrl cfg raw c).mode ≠ .active) : SameArithmetic c (passedCtrl cfg raw c) := by
  rw [← mode_sighted] at h
  have hsame := sameArithmetic_sighted cfg raw c
  unfold passedCtrl steppedCtrl
  cases raw with
  | none => exact hsame
  | some d => dsimp only; rw [if_neg h]; exact hsame

/-- A pass that leaves the segment ACTIVE had a raw daylight (R55). -/
theorem raw_of_active (h : (passedCtrl cfg raw c).mode = .active) : ∃ d, raw = some d := by
  obtain ⟨_, _, hmode, _⟩ := passedCtrl_counts cfg raw c
  rw [hmode, modeByPass, countPass_mode] at h
  cases raw with
  | some d => exact ⟨d, rfl⟩
  | none =>
    exfalso
    cases hc : c.mode <;> rw [hc] at h <;> simp at h
    split at h <;> cases h

end

/-- It steps the control arithmetic by that daylight. -/
theorem passedCtrl_active (cfg : SegConfig) (raw : Nat) (c : Ctrl) (h : (passedCtrl cfg (some raw) c).mode = .active) :
    SameArithmetic (controlStep cfg (c.mode != .active) raw (sightedCtrl cfg (some raw) (countedCtrl true c)))
      (passedCtrl cfg (some raw) c) := by
  rw [← mode_sighted] at h
  unfold passedCtrl steppedCtrl
  dsimp only
  rw [if_pos h]
  exact ⟨rfl, rfl, rfl⟩

/-- The control arithmetic of a pass that leaves the segment ACTIVE, in the words of the statement. -/
theorem passedCtrl_control (cfg : SegConfig) (raw : Nat) (c : Ctrl) (h : (passedCtrl cfg (some raw) c).mode = .active) :
    ∃ f, (passedCtrl cfg (some raw) c).filter = some f ∧ f = filterNext cfg (c.mode != .active) raw c.filter ∧
      ∀ b : BandId,
        (cfg.bandCount ≤ b.val → (passedCtrl cfg (some raw) c).bandDaylight[b] = c.bandDaylight[b] ∧
          (passedCtrl cfg (some raw) c).outputs[b] = c.outputs[b]) ∧
        (b.val < cfg.bandCount →
          (passedCtrl cfg (some raw) c).bandDaylight[b] = some (bandDaylight cfg.bands[b] f) ∧
          (passedCtrl cfg (some raw) c).outputs[b] = outputNext cfg.deadBand cfg.bands[b]
            (candidateOutput cfg.bands[b] (shortfall cfg.target (bandDaylight cfg.bands[b] f))) c.outputs[b]) := by
  obtain ⟨hf, hdb, hout⟩ := passedCtrl_active cfg raw c h
  obtain ⟨kf, kdb, kout⟩ := sameArithmetic_sighted cfg (some raw) c
  rw [Option.isSome_some] at kf kdb kout
  refine ⟨_, hf.trans rfl, by rw [kf], fun b => ⟨fun hb => ?_, fun hb => ?_⟩⟩
  · obtain ⟨h1, h2⟩ := controlStep_other cfg (c.mode != .active) raw (sightedCtrl cfg (some raw) (countedCtrl true c)) hb
    rw [hdb, hout, h1, h2, kdb, kout]
    exact ⟨rfl, rfl⟩
  · obtain ⟨h1, h2⟩ := controlStep_band cfg (c.mode != .active) raw (sightedCtrl cfg (some raw) (countedCtrl true c)) hb
    rw [hdb, hout, h1, h2, kout]
    exact ⟨rfl, rfl⟩

/-! ## The events of a pass (R59, R71, R170) -/

/-- The port takes the events for the segment where it enables it, and its event sets are else as they were. -/
structure Recorded (i : SegId) (m : BitVec 8) (p q : Port) : Prop where
  role : q.role = p.role
  mask : q.segMask = p.segMask
  events : ∀ j : SegId, q.events[j] =
    if i = j ∧ p.role ≠ .off ∧ maskHas p.segMask i = true then p.events[j] ||| m else p.events[j]

theorem Recorded.refl (i : SegId) (p : Port) : Recorded i 0 p p := ⟨rfl, rfl, fun j => by simp⟩

theorem Recorded.trans {i : SegId} {m n : BitVec 8} {p q r : Port} (h : Recorded i m p q) (k : Recorded i n q r) :
    Recorded i (m ||| n) p r := ⟨k.role.trans h.role, k.mask.trans h.mask, fun j => by
  rw [k.events, h.events, h.role, h.mask]
  split
  · rw [BitVec.or_assoc]
  · rfl⟩

theorem recorded_offerAt (i : SegId) (e : SegEvent) (p : Port) : Recorded i (eventMask e) p (offerAt i e p) where
  role := by rw [offerAt_eq]
  mask := by rw [offerAt_eq]
  events := fun j => offerAt_events i j e p

theorem recorded_raiseEvent (i : SegId) (e : SegEvent) (s : State) (q : PortId) :
    Recorded i (eventMask e) s.ports[q] (raiseEvent i e s).ports[q] := by
  rw [raiseEvent_ports, offerEvent_get]
  exact recorded_offerAt i e _

theorem recorded_changeMode (i : SegId) (m : Mode) (s : State) (q : PortId) :
    Recorded i (if m = modeOf s i then 0 else 0x01) s.ports[q] (changeMode i m s).ports[q] := by
  unfold changeMode
  by_cases h : modeOf s i = m
  · rw [if_pos h.symm]
    simp only [if_pos h]
    exact .refl i _
  · rw [if_neg (Ne.symm h)]
    simp only [if_neg h]
    exact recorded_raiseEvent i .modeChange _ q

/-- The events of a glare flag. -/
def glareBits (was is : Bool) : BitVec 8 := if was = is then 0 else if is then 0x04 else 0x08

theorem recorded_setGlare (i : SegId) (on : Bool) (s : State) (q : PortId) :
    Recorded i (glareBits s.ctrls[i].glare on) s.ports[q] (setGlare i on s).ports[q] := by
  unfold setGlare glareEvent glareBits
  by_cases h : s.ctrls[i].glare = on
  · simp only [if_pos h]
    exact .refl i _
  · simp only [if_neg h]
    cases on
    · exact recorded_raiseEvent i .glareOff _ q
    · exact recorded_raiseEvent i .glareOn _ q

/-- The events of the first steps of a pass: MODE_CHANGE, and SENSOR_LOST behind it. -/
theorem recorded_passMode (i : SegId) (data : Bool) (s : State) (q : PortId) :
    Recorded i ((if modeOf (passMode i data s) i = modeOf s i then 0 else 0x01) |||
      (if modeOf s i = .active ∧ modeOf (passMode i data s) i = .degraded then 0x02 else 0))
      s.ports[q] (passMode i data s).ports[q] := by
  have hold : modeOf (updCtrl i (countPass data) s) i = modeOf s i := modeOf_updCtrl (countPass_mode data) i s
  have hchange : Recorded i (if modeOf (passMode i data s) i = modeOf s i then 0 else 0x01) s.ports[q]
      (changeMode i (modeByPass data (countPass data s.ctrls[i])) (updCtrl i (countPass data) s)).ports[q] := by
    rw [modeOf_passMode, ← hold]
    exact recorded_changeMode i _ (updCtrl i (countPass data) s) q
  rw [modeOf_passMode] at hchange ⊢
  unfold passMode
  dsimp only
  rw [updCtrl_get]
  by_cases h : modeOf s i = .active ∧ modeByPass data (countPass data s.ctrls[i]) = .degraded
  · simp only [if_pos h]
    exact hchange.trans (recorded_raiseEvent i .sensorLost _ q)
  · simp only [if_neg h]
    exact hchange.trans (.refl i _)

/-- The event of the third step: the change of the glare flag. -/
theorem recorded_passDaylight (i : SegId) (raw : Option Nat) (s : State) (q : PortId) :
    Recorded i (glareBits s.ctrls[i].glare (passDaylight i raw s).ctrls[i].glare) s.ports[q] (passDaylight i raw s).ports[q] := by
  have hsame : ∀ b, glareBits b b = 0 := fun b => if_pos rfl
  rw [passDaylight_ctrl]
  unfold passDaylight passRaw sightedCtrl
  rw [modeOf]
  by_cases h : s.ctrls[i].mode = .calibrating
  · simp only [if_pos h, hsame]
    exact .refl i _
  · simp only [if_neg h]
    cases raw with
    | none =>
      simp only [Option.map_none, Option.getD_none, hsame]
      exact .refl i _
    | some d =>
      have hset := recorded_setGlare i (glareAfter (segCfg s i) d (updCtrl i (fun c => { c with lastRaw := some d }) s).ctrls[i].glare)
        (updCtrl i (fun c => { c with lastRaw := some d }) s) q
      have hbits : glareBits (updCtrl i (fun c => { c with lastRaw := some d }) s).ctrls[i].glare
          (glareAfter (segCfg s i) d (updCtrl i (fun c => { c with lastRaw := some d }) s).ctrls[i].glare) =
          glareBits s.ctrls[i].glare (glareAfter (segCfg s i) d s.ctrls[i].glare) := by rw [updCtrl_get]
      rw [hbits] at hset
      exact hset

theorem passControl_ports (i : SegId) (cfg : SegConfig) (seed : Bool) (raw : Option Nat) (s : State) :
    (passControl i cfg seed raw s).ports = s.ports := by
  unfold passControl
  split
  · split <;> rfl
  · rfl

/-- The events of a whole pass. -/
theorem recorded_passSegment (i : SegId) (s : State) (q : PortId) :
    Recorded i (((if modeOf (passSegment i s) i = modeOf s i then 0 else 0x01) |||
      (if modeOf s i = .active ∧ modeOf (passSegment i s) i = .degraded then 0x02 else 0)) |||
      glareBits s.ctrls[i].glare (passSegment i s).ctrls[i].glare) s.ports[q] (passSegment i s).ports[q] := by
  have hmode : modeOf (passMode i (passData i s) s) i = modeOf (passSegment i s) i :=
    (modeOf_passMode ..).trans (modeOf_passed i s).symm
  have hwas : (passMode i (passData i s) s).ctrls[i].glare = s.ctrls[i].glare := by
    rw [passMode_ctrl, countedCtrl, countPass_eq]
  have his : (passDaylight i (rawDaylight s i) (passMode i (passData i s) s)).ctrls[i].glare =
      (passSegment i s).ctrls[i].glare := by
    have hcfg : segCfg (passMode i (passData i s) s) i = segCfg s i := by
      rw [segCfg, (onCtrl_passMode i _ s).quiet.layout, segCfg]
    rw [passSegment_ctrl, passDaylight_ctrl, passMode_ctrl, hcfg, passedCtrl, steppedCtrl_eq, rawDaylight_isSome]
    rfl
  have hports : (passSegment i s).ports = (passDaylight i (rawDaylight s i) (passMode i (passData i s) s)).ports :=
    passControl_ports ..
  have hfirst := recorded_passMode i (passData i s) s q
  have hthird := recorded_passDaylight i (rawDaylight s i) (passMode i (passData i s) s) q
  rw [hmode] at hfirst
  rw [hwas, his] at hthird
  rw [hports]
  exact hfirst.trans hthird

theorem glareBits_eq (was is : Bool) : glareBits was is =
    (if was = false ∧ is = true then 0x04 else 0) ||| (if was = true ∧ is = false then 0x08 else 0) := by
  cases was <;> cases is <;> rfl

/-- The glare flag is evaluated against the threshold less an eighth while on, and against the threshold while off (R71). -/
theorem glareAfter_eq (cfg : SegConfig) (raw : Nat) (on : Bool) : glareAfter cfg raw on =
    if cfg.glareThreshold = 0 then on
    else if on then decide (cfg.glareThreshold - cfg.glareThreshold / 8 ≤ raw * cfg.bands[0].ratio / 256)
    else decide (cfg.glareThreshold ≤ raw * cfg.bands[0].ratio / 256) := by
  unfold glareAfter glareDaylight
  dsimp only
  simp only [← decide_not, Nat.not_lt]

/-- Settles O47. -/
theorem passControlAndEvents : Obligations.PassControlAndEvents := by
  unfold Obligations.PassControlAndEvents
  refine ⟨fun i s t hc ht he => ?_, fun i s t hc ht he => ?_⟩
  · rw [exec_pass hc ht] at he
    injection he with he
    subst he
    rw [modeOf, passSegment_ctrl]
    refine ⟨passedCtrl_inactive _ _ _, fun hactive => ?_⟩
    obtain ⟨raw, hraw⟩ := raw_of_active _ _ _ hactive
    rw [hraw] at hactive ⊢
    obtain ⟨f, hfilter, hf, hbands⟩ := passedCtrl_control _ _ _ hactive
    refine ⟨raw, f, rfl, hfilter, fun hseed => ?_, fun old hmode hold => ?_, fun b => ⟨(hbands b).1, fun hb => ?_⟩⟩
    · rw [hf]
      rcases hseed with hmode | hnone
      · rw [modeOf] at hmode
        cases s.ctrls[i].filter with
        | none => rfl
        | some x => exact if_pos (bne_iff_ne.mpr hmode)
      · rw [hnone]; rfl
    · have hmove : f = filterMove (segCfg s i).nUp (segCfg s i).nDown raw old := by
        rw [modeOf] at hmode
        rw [hf, hold, hmode]; rfl
      rw [hmove]
      exact ⟨fun h => by rw [h, filterMove_self], filterMove_up, filterMove_down⟩
    · obtain ⟨hdb, hout⟩ := (hbands b).2 hb
      rw [hdb, hout]
      obtain ⟨hvalid, hvalue⟩ := outputNext_eq (segCfg s i).deadBand (segCfg s i).bands[b]
        (candidateOutput (segCfg s i).bands[b] (shortfall (segCfg s i).target (bandDaylight (segCfg s i).bands[b] f)))
        s.ctrls[i].outputs[b]
      exact ⟨_, _, _, rfl, rfl, rfl, rfl, hvalid, hvalue⟩
  · rw [exec_pass hc ht] at he
    injection he with he
    subst he
    refine ⟨?_, fun q j h => ?_, fun q hrole hmask => ?_⟩
    · rw [passSegment_ctrl, (passedCtrl_sight _ _ _).2]
      cases rawDaylight s i with
      | none => exact ite_self _
      | some raw =>
        rw [Option.map_some, Option.getD_some, glareAfter_eq]
        by_cases hcal : s.ctrls[i].mode = .calibrating
        · rw [if_pos hcal]; exact (if_pos (.inl hcal)).symm
        · rw [if_neg hcal]
          by_cases hz : (segCfg s i).glareThreshold = 0
          · rw [if_pos hz]; exact (if_pos (.inr hz)).symm
          · rw [if_neg hz]; exact (if_neg fun k => k.elim hcal hz).symm
    · rw [(recorded_passSegment i s q).events, if_neg]
      rintro ⟨rfl, hrole, hmask⟩
      rcases h with h | h | h
      · exact h rfl
      · exact hrole h
      · rw [h] at hmask; cases hmask
    · rw [(recorded_passSegment i s q).events, if_pos ⟨rfl, hrole, hmask⟩, glareBits_eq]
      simp only [BitVec.or_assoc]

end Sys2Proof.Proofs
end

section
/-! PROOFS. SEG_READ (R73, R179): fields packed into one number and read back, and the record of a segment. -/

namespace Sys2Proof.Proofs

open Sys2Proof Sys2Proof.Machine Sys2Proof.Safety Sys2Proof.Laws

/-! ## Numbers in bytes and fields in numbers (R176, R179) -/

theorem foldl_beBytes (k n a : Nat) :
    (beBytes k n).foldl (fun a b => a * 256 + b.toNat) a = a * 256 ^ k + n % 256 ^ k := by
  induction k generalizing a with
  | zero => simp [beBytes, Nat.mod_one]
  | succ k ih =>
    rw [beBytes, List.foldl_cons, ih, Nat.mod_pow_succ, BitVec.toNat_ofNat]
    ring

/-- Bytes of a number read back as the number, within their range (R176). -/
theorem beNat_beBytes (k n : Nat) : beNat (beBytes k n) = n % 256 ^ k := by
  rw [beNat, foldl_beBytes, Nat.zero_mul, Nat.zero_add]

theorem packFields_concat (w : Nat) (l : List Nat) (x : Nat) : packFields w (l ++ [x]) = packFields w l * 2 ^ w + x := by
  simp [packFields]

theorem packFields_lt {w : Nat} {l : List Nat} (h : ∀ x ∈ l, x < 2 ^ w) : packFields w l < 2 ^ (w * l.length) := by
  induction l using List.reverseRecOn with
  | nil => simp [packFields]
  | append_singleton l x ih =>
    have hl := ih fun y hy => h y (List.mem_append_left _ hy)
    have hx := h x (by simp)
    rw [packFields_concat, List.length_append, List.length_singleton, Nat.mul_succ, Nat.pow_add]
    calc packFields w l * 2 ^ w + x < (packFields w l + 1) * 2 ^ w := by rw [Nat.succ_mul]; omega
      _ ≤ 2 ^ (w * l.length) * 2 ^ w := Nat.mul_le_mul_right _ hl

/-- A field stands in the packed number at its place from the end (R179). -/
theorem packFields_field {w : Nat} {l : List Nat} (h : ∀ x ∈ l, x < 2 ^ w) {j : Nat} (hj : j < l.length) :
    packFields w l / 2 ^ (w * (l.length - 1 - j)) % 2 ^ w = l[j] := by
  induction l using List.reverseRecOn with
  | nil => cases hj
  | append_singleton l x ih =>
    have hl : ∀ y ∈ l, y < 2 ^ w := fun y hy => h y (List.mem_append_left _ hy)
    have hx : x < 2 ^ w := h x (by simp)
    have hpos : 0 < 2 ^ w := Nat.two_pow_pos w
    rw [packFields_concat]
    have hlen : (l ++ [x]).length - 1 - j = l.length - j := by simp
    rw [hlen]
    by_cases hlast : j = l.length
    · subst hlast
      rw [Nat.sub_self, Nat.mul_zero, Nat.pow_zero, Nat.div_one, Nat.mul_add_mod', Nat.mod_eq_of_lt hx]
      simp
    · have hj : j < l.length := by simp at hj; omega
      have hexp : w * (l.length - j) = w + w * (l.length - 1 - j) := by
        rw [Nat.add_comm, ← Nat.mul_succ]
        congr 1; omega
      have hshift : (packFields w l * 2 ^ w + x) / 2 ^ w = packFields w l := by
        rw [Nat.mul_comm, Nat.mul_add_div hpos, Nat.div_eq_of_lt hx, Nat.add_zero]
      rw [hexp, Nat.pow_add, ← Nat.div_div_eq_div_mul, hshift, ih hl hj, List.getElem_append_left]

/-! ## The record of a segment (R73, R179) -/

theorem segRead_val (i : SegId) (s : State) : segRead i.val s = answer (segPayload i s) s := by rw [segRead, segId?_val]

theorem wordOrAbsent_eq (o : Option Nat) : wordOrAbsent o = beBytes 2 (o.getD 65535) := by cases o <;> rfl

/-- One of the sixteen levels of the level block. -/
def levelField (n : Nat) (c : Ctrl) (s : State) (i : SegId) (j : Fin 16) : Nat :=
  if j.val = 15 then (lowestCap s.table.entries i).getD 1023
  else
    let b : BandId := ⟨j.val % 3, by omega⟩
    if b.val < n then
      (if j.val < 3 then (s.lum.groups[groupOf i b].map (·.demanded)).getD 0
      else if j.val < 6 then (s.lum.groups[groupOf i b].map (·.present)).getD 0
      else if j.val < 9 then c.outputs[b].value
      else if j.val < 12 then c.startSnap[b] else c.heldSnap[b])
    else 0

theorem segLevels_eq (n : Nat) (c : Ctrl) (s : State) (i : SegId) :
    segLevels n c s i = (List.finRange 16).map (levelField n c s i) := rfl

theorem lowestCap_le {s : State} {i : SegId} (h : ∀ e ∈ s.table.entries, askInRange e.ask = true) {level : Nat}
    (hl : lowestCap s.table.entries i = some level) : level ≤ 1000 := by
  obtain ⟨e, he, _, hcap⟩ := mem_capsOver.mp (List.min?_mem hl)
  have hask := h e he
  unfold capLevel? at hcap
  cases ha : e.ask <;> rw [ha] at hcap hask <;> simp at hcap
  subst hcap
  simp [askInRange] at hask
  omega

/-- Every level of the block fits its ten bits. -/
theorem levelField_lt {s : State} (h : LevelsLaw s) (n : Nat) (i : SegId) (j : Fin 16) :
    levelField n s.ctrls[i] s i j < 2 ^ 10 := by
  obtain ⟨⟨hctrl, _, hask, _⟩, hgroups⟩ := h
  have hgroup : ∀ (g : GroupId) (f : Group → Nat), (∀ r : Group, r.present ≤ 1000 ∧ r.demanded ≤ 1000 → f r ≤ 1000) →
      (s.lum.groups[g].map f).getD 0 ≤ 1000 := fun g f hf => by
    cases hg : s.lum.groups[g] with
    | none => exact Nat.zero_le _
    | some r =>
      obtain ⟨h1, h2, _⟩ := hgroups g r hg
      exact hf r ⟨h1, h2⟩
  have hcap : (lowestCap s.table.entries i).getD 1023 ≤ 1023 := by
    cases hl : lowestCap s.table.entries i with
    | none => exact Nat.le_refl _
    | some level => exact (lowestCap_le hask hl).trans (by decide)
  unfold levelField
  split
  · exact Nat.lt_succ_of_le hcap
  · dsimp only
    obtain ⟨hout, hstart, hheld⟩ := hctrl i ⟨j.val % 3, by omega⟩
    have hd := hgroup (groupOf i ⟨j.val % 3, by omega⟩) (·.demanded) fun r hr => hr.2
    have hp := hgroup (groupOf i ⟨j.val % 3, by omega⟩) (·.present) fun r hr => hr.1
    repeat' split
    all_goals omega

/-- The level block read back: each level at its place (R179). -/
theorem levelBlock_field {s : State} (h : LevelsLaw s) (n : Nat) (i : SegId) (j : Fin 16) :
    beNat (beBytes 20 (packFields 10 (segLevels n s.ctrls[i] s i))) / 2 ^ (10 * (15 - j.val)) % 1024 =
      levelField n s.ctrls[i] s i j := by
  have hfit : ∀ x ∈ segLevels n s.ctrls[i] s i, x < 2 ^ 10 := fun x hx => by
    rw [segLevels_eq] at hx
    obtain ⟨k, _, rfl⟩ := List.mem_map.mp hx
    exact levelField_lt h n i k
  have hlen : (segLevels n s.ctrls[i] s i).length = 16 := rfl
  have hrange : (256 : Nat) ^ 20 = 2 ^ (10 * 16) := by norm_num
  have hfield := packFields_field hfit (j := j.val) (by rw [hlen]; exact j.isLt)
  have hlt := packFields_lt hfit
  rw [hlen, ← hrange] at hlt
  rw [beNat_beBytes, Nat.mod_eq_of_lt hlt]
  refine hfield.trans ?_
  simp [segLevels_eq]

theorem bit_mul (b : Bool) (n : Nat) : bit b * n = if b then n else 0 := by cases b <;> simp [bit]

/-- The flags byte, bit by bit (R179). -/
theorem segFlags_eq (n : Nat) (c : Ctrl) (t : List Entry) (i : SegId) : segFlags n c t i =
    (if c.glare then 128 else 0) + (if (overrideOver t i).isSome then 64 else 0) + (if holdOver t i then 32 else 0)
      + (if (lockOver t i).isSome then 16 else 0) + (if (lowestCap t i).isSome then 8 else 0)
      + (if 2 < n ∧ c.outputs[2].valid = true then 4 else 0) + (if 1 < n ∧ c.outputs[1].valid = true then 2 else 0)
      + (if 0 < n ∧ c.outputs[0].valid = true then 1 else 0) := by
  have hvalid : ∀ (k : Nat) (v : Bool), (decide (k < n) && v) = true ↔ k < n ∧ v = true := fun k v => by simp
  have hlast : ∀ b : Bool, bit b = if b then 1 else 0 := fun _ => rfl
  simp only [segFlags, bit_mul]
  simp only [hlast, hvalid]
  rfl

theorem segPayload_configured {i : SegId} {s : State} (hc : configured s i = true) :
    segPayload i s = segRecordPayload i (segCfg s i).bandCount s.ctrls[i] s := if_pos hc

/-- Settles O32: the scalar fields are the bytes of the record in their order, the level block packs the sixteen levels, and the
blank record of an unconfigured segment, which no entry covers, is all zeros. -/
theorem segReadRule : Obligations.SegReadRule := by
  unfold Obligations.SegReadRule
  refine ⟨fun p link tag i s h hc hlevels => ?_, fun p link tag i s h hc ht => ?_⟩
  · refine ⟨beBytes 20 (packFields 10 (segLevels (segCfg s i).bandCount s.ctrls[i] s i)), ?_, length_beBytes .., fun j =>
      levelBlock_field hlevels _ i j⟩
    rw [exec_answered rfl h (segRead_val i s), ← segFlags_eq, segPayload_configured hc, segRecordPayload]
    have hband : ∀ b : BandId, (if b.val < (segCfg s i).bandCount then s.ctrls[i].bandDaylight[b] else none).getD 65535 =
        if b.val < (segCfg s i).bandCount then s.ctrls[i].bandDaylight[b].getD 65535 else 65535 := fun b => by split <;> rfl
    have hmode : s.ctrls[i].mode = modeOf s i := rfl
    simp only [beBytes_one, wordOrAbsent_eq, hband]
    rw [hmode]
    cases modeOf s i <;> rfl
  · rw [exec_answered rfl h (segRead_val i s)]
    have hcover := covering_unconfigured ht hc
    have hover : overrideOver s.table.entries i = none := by rw [overrideOver_eq, hcover]; rfl
    have hhold : holdOver s.table.entries i = false := by rw [holdOver_eq, hcover]; rfl
    have hlock : lockOver s.table.entries i = none := by rw [lockOver_eq, hcover]; rfl
    have hcap : lowestCap s.table.entries i = none := by rw [lowestCap, capsOver_eq, hcover]; rfl
    have hflags : segFlags 0 Ctrl.blank s.table.entries i = 0 := by
      simp only [segFlags, hover, hhold, hlock, hcap]; rfl
    have hblock : beBytes 20 (packFields 10 (segLevels 0 Ctrl.blank s i)) = List.replicate 18 0 ++ [0x03, 0xFF] := by
      have hlist : segLevels 0 Ctrl.blank s i = List.replicate 15 0 ++ [1023] := by
        simp only [segLevels, hcap]; rfl
      rw [hlist]; decide
    have hpayload : segPayload i s = segRecordPayload i 0 Ctrl.blank s := if_neg (by rw [hc]; exact Bool.false_ne_true)
    rw [hpayload, segRecordPayload, hflags, hblock, beBytes_one]
    rfl

end Sys2Proof.Proofs
end

section
/-! PROOFS. Composition under caps (R68, R69), and what a locked layout keeps (R13). -/

namespace Sys2Proof.Proofs

open Sys2Proof Sys2Proof.Machine Sys2Proof.Safety Sys2Proof.Laws

/-! ## Levels under caps (R68, R69) -/

/-- The lowest cap over a base is every cap over it. -/
theorem capped_min? (caps : List Nat) (base : Nat) : capped caps.min? base = caps.foldl min base := by
  cases caps with
  | nil => rfl
  | cons c caps => rw [List.min?_cons', capped, List.foldl_cons, List.foldl_assoc, Nat.min_comm]

theorem foldl_min_le {caps : List Nat} {level : Nat} (h : level ∈ caps) (base : Nat) : caps.foldl min base ≤ level := by
  have hbelow : ∀ (l : List Nat) (b : Nat), l.foldl min b ≤ b := fun l => by
    induction l with
    | nil => exact fun b => Nat.le_refl b
    | cons c l ih => exact fun b => (ih _).trans (Nat.min_le_left b c)
  induction caps generalizing base with
  | nil => cases h
  | cons c caps ih =>
    rcases List.mem_cons.mp h with rfl | h
    · exact (hbelow caps _).trans (Nat.min_le_right base level)
    · exact ih h _

section
variable {s : State} {i : SegId} (b : BandId)

theorem demandLevel_calibrating {r : CalRun} (h : modeOf s i = .calibrating) (hr : s.cal.run = some r) :
    demandLevel s i b = r.assigned[groupOf i b] := by
  rw [demandLevel, h, hr]; rfl

theorem demandLevel_locked {level : Nat} (h : modeOf s i = .locked) (hl : lockOver s.table.entries i = some level) :
    demandLevel s i b = level := by
  rw [demandLevel, h, hl]; rfl

theorem demandLevel_unconfigured (h : modeOf s i = .unconfigured) : demandLevel s i b = 0 := by
  rw [demandLevel, h]

/-- START, ACTIVE, DEGRADED and HELD compose the override or the base of the mode under every cap (R68). -/
theorem demandLevel_composed (h : modeOf s i = .start ∨ modeOf s i = .active ∨ modeOf s i = .degraded ∨ modeOf s i = .held) :
    demandLevel s i b = (capsOver s.table.entries i).foldl min
      ((overrideOver s.table.entries i).getD (baseLevel (segCfg s i) s.ctrls[i] b)) := by
  rw [← capped_min?, demandLevel]
  rcases h with h | h | h | h <;> rw [h] <;> rfl

/-- No cap over a segment that is not LOCKED lies below what composition demands of its groups (R69). -/
theorem demandLevel_le_cap (hm : ModeLaw s) (hr : RunLaw s) (hl : modeOf s i ≠ .locked) {level : Nat}
    (h : level ∈ capsOver s.table.entries i) : demandLevel s i b ≤ level := by
  cases hmode : modeOf s i with
  | unconfigured => rw [demandLevel_unconfigured b hmode]; exact Nat.zero_le _
  | locked => exact absurd hmode hl
  | calibrating =>
    obtain ⟨hunset, hset⟩ := hm i
    have hconf : configured s i = true := by
      by_contra hc
      obtain ⟨hu, _⟩ := hunset (Bool.eq_false_of_not_eq_true hc)
      rw [hmode] at hu; cases hu
    obtain ⟨_, hcal, _⟩ := hset hconf
    have hrun := hcal.mp hmode
    cases hcr : s.cal.run with
    | none => rw [inRun, hcr] at hrun; cases hrun
    | some r =>
      rw [inRun, hcr] at hrun
      obtain ⟨_, _, htop, _, hcap⟩ := hr r hcr
      rw [demandLevel_calibrating b hmode hcr]
      exact (htop _).trans (hcap i hrun level h)
  | start => rw [demandLevel_composed b (.inl hmode)]; exact foldl_min_le h _
  | active => rw [demandLevel_composed b (.inr (.inl hmode))]; exact foldl_min_le h _
  | degraded => rw [demandLevel_composed b (.inr (.inr (.inl hmode)))]; exact foldl_min_le h _
  | held => rw [demandLevel_composed b (.inr (.inr (.inr hmode)))]; exact foldl_min_le h _

end

/-! ## What a locked layout keeps (R13) -/

/-- A lock stays set, and which segments are configured, their band counts and their sensors stay. -/
structure LayoutKept (s t : State) : Prop where
  lock : s.layout.lock = true → t.layout.lock = true
  segs : ∀ i : SegId, (segCfg t i).configured = (segCfg s i).configured ∧ (segCfg t i).bandCount = (segCfg s i).bandCount ∧
    (segCfg t i).primary = (segCfg s i).primary ∧ (segCfg t i).secondary = (segCfg s i).secondary

theorem LayoutKept.of_layout {s t : State} (h : t.layout = s.layout) : LayoutKept s t :=
  ⟨fun hl => by rw [h]; exact hl, fun i => by rw [segCfg, h, segCfg]; exact ⟨rfl, rfl, rfl, rfl⟩⟩

theorem LayoutKept.refl (s : State) : LayoutKept s s := .of_layout rfl

theorem LayoutKept.trans {s t u : State} (h : LayoutKept s t) (k : LayoutKept t u) : LayoutKept s u :=
  ⟨fun hl => k.lock (h.lock hl), fun i => by
    obtain ⟨h1, h2, h3, h4⟩ := h.segs i
    obtain ⟨k1, k2, k3, k4⟩ := k.segs i
    exact ⟨k1.trans h1, k2.trans h2, k3.trans h3, k4.trans h4⟩⟩

theorem LayoutKept.foldl {α : Type} {f : State → α → State} (h : ∀ s a, LayoutKept s (f s a)) (l : List α) (s : State) :
    LayoutKept s (l.foldl f s) := List.foldlRecOn _ _ (.refl s) fun u hu a _ => hu.trans (h u a)

theorem LayoutKept.of_linkSide {s t : State} (h : LinkSide s t) : LayoutKept s t := by
  obtain ⟨_, hlayout, _⟩ := h.frame
  exact .of_layout hlayout

/-! ### Tuning, bands and thresholds -/

/-- The record's tuning and band fields alone change. -/
theorem layoutKept_updSeg (i : SegId) {f : SegConfig → SegConfig} (hf : ∀ c, (f c).configured = c.configured ∧
    (f c).bandCount = c.bandCount ∧ (f c).primary = c.primary ∧ (f c).secondary = c.secondary) (s : State) :
    LayoutKept s (updSeg i f s) := by
  refine ⟨fun h => h, fun j => ?_⟩
  have hcfg : segCfg (updSeg i f s) j = if i = j then f (segCfg s j) else segCfg s j := updAt_get ..
  rw [hcfg]
  split
  · exact hf _
  · exact ⟨rfl, rfl, rfl, rfl⟩

theorem layoutKept_retune (i : SegId) {f : SegConfig → SegConfig} (hf : ∀ c, (f c).configured = c.configured ∧
    (f c).bandCount = c.bandCount ∧ (f c).primary = c.primary ∧ (f c).secondary = c.secondary) (s : State) :
    LayoutKept s (retune i f s) := (layoutKept_updSeg i hf s).trans (.of_layout rfl)

theorem layoutKept_segTune (n : Nat) (x : Tuning) (s : State) : LayoutKept s (segTune n x s).state := by
  unfold segTune
  repeat' split
  case h_2.isFalse.isFalse => exact layoutKept_retune _ (f := tuneConfig (clampTuning x)) (fun _ => ⟨rfl, rfl, rfl, rfl⟩) s
  all_goals exact .refl s

theorem layoutKept_bandSet (n b : Nat) (q : BandConfig) (s : State) : LayoutKept s (bandSet n b q s).state := by
  unfold bandSet
  split
  · exact .refl s
  · repeat' split
    case h_2 => exact layoutKept_retune _ (fun _ => by exact ⟨rfl, rfl, rfl, rfl⟩) s
    all_goals exact .refl s

theorem layoutKept_writeThreshold (n : Nat) (s : State) (i : SegId) : LayoutKept s (writeThreshold n s i) := by
  rw [writeThreshold_eq]
  exact (layoutKept_updSeg i (f := fun c => { c with glareThreshold := n }) (fun _ => ⟨rfl, rfl, rfl, rfl⟩) s).trans
    (.of_layout rfl)

theorem layoutKept_glareSet (m : SegMask) (n : Nat) (s : State) : LayoutKept s (glareSet m n s).state := by
  unfold glareSet
  dsimp only
  split
  · exact .refl s
  · exact .foldl (layoutKept_writeThreshold _) _ s

/-! ### Commands that leave the layout alone -/

theorem TableRequested.layoutKept {s t : State} (h : TableRequested s t) : LayoutKept s t := by
  rcases h with rfl | ⟨entries, inserted, informed, rfl⟩
  · exact .refl _
  · obtain ⟨hlayout, _⟩ := tableChange_frame entries inserted informed s
    exact .of_layout hlayout

theorem layoutKept_couplingWrite (k d n : Nat) (ps : List (Nat × Nat)) (s : State) :
    LayoutKept s (couplingWrite k d n ps s).state := by
  unfold couplingWrite
  dsimp only
  repeat' split
  all_goals exact .of_layout rfl

theorem layoutKept_energyClear (m : SegMask) (s : State) : LayoutKept s (energyClear m s).state := by
  unfold energyClear
  dsimp only
  split <;> exact .of_layout rfl

theorem layout_testFadeWait (s : State) : (testFadeWait s).layout = s.layout := by
  unfold testFadeWait
  repeat' split
  all_goals rfl

theorem layoutKept_fadeStep (g : GroupId) (s : State) : LayoutKept s (fadeStep g s) := by
  unfold fadeStep
  dsimp only
  split
  · exact .of_layout (layout_testFadeWait _)
  · exact .of_layout rfl

theorem layoutKept_judgePoll (f : SensorId → ReplyOutcome) (s : State) : LayoutKept s (judgePoll f s) := by
  unfold judgePoll
  dsimp only
  repeat' split
  all_goals exact .of_layout rfl

theorem layoutKept_setTable (x : Table) (s : State) : LayoutKept s (s.setTable x) := .of_layout rfl

theorem layoutKept_departDue (s : State) : LayoutKept s (departDue s) := by
  unfold departDue
  dsimp only
  exact .of_layout (tableChange_frame ..).1

theorem layoutKept_endRun (r : CalRun) (res : CalResult) (s : State) : LayoutKept s (endRun r res s) := by
  obtain ⟨_, hlayout, _⟩ := endRun_frame r res s
  exact .of_layout hlayout

theorem layoutKept_abortRun (why : AbortReason) (s : State) : LayoutKept s (abortRun why s) := by
  unfold abortRun
  split
  · exact .refl s
  · exact layoutKept_endRun ..

theorem layoutKept_busFault (s : State) : LayoutKept s (busFault s) := by
  cases h : s.lum.link.faultReported with
  | true => rw [busFault, if_pos h]; exact .refl s
  | false =>
    obtain ⟨_, _, hside⟩ := faulted_frame s
    rw [busFault_eq h]
    exact (LayoutKept.of_linkSide hside).trans (layoutKept_abortRun .link _)

theorem layoutKept_passSegment (i : SegId) (s : State) : LayoutKept s (passSegment i s) :=
  .of_layout (onCtrl_passed i s).quiet.layout

theorem layoutKept_beginRun (m : SegMask) (q : CalParams) (clamped : Bool) (s : State) :
    LayoutKept s (beginRun m q clamped s) := by
  have h := remoded_entering m (s.setCal ⟨some (newRun m q s), ⟨.running, m, q, clamped, Vector.replicate 32 .notInvolved⟩⟩)
  exact .of_layout ((layout_testFadeWait _).trans h.quiet.layout)

theorem layoutKept_calStart (mask : SegMask) (base high low half su opt : Nat) (s : State) :
    LayoutKept s (calStart mask base high low half su opt s).state := by
  unfold calStart
  dsimp only
  repeat' split
  all_goals first | exact .refl s | exact layoutKept_beginRun _ _ _ s

theorem layoutKept_enterPhase (f : Phase) (probe cycle : Nat) (r : CalRun) (s : State) :
    LayoutKept s (enterPhase f probe cycle r s) := by
  unfold enterPhase
  dsimp only
  exact .of_layout ((layout_testFadeWait _).trans (Quiet.foldl (fun u i => quiet_recompose i u) _ _).layout)

theorem layoutKept_commit (r : CalRun) (s : State) : LayoutKept s (commit r s) := by
  unfold commit
  have h : LayoutKept s (s.setCoupling (commitStore r s.coupling)) := .of_layout (setCoupling_layout ..)
  exact h.trans (layoutKept_endRun ..)

theorem layoutKept_nextPhase (r : CalRun) (s : State) : LayoutKept s (nextPhase r s) := by
  unfold nextPhase
  dsimp only
  repeat' split
  all_goals first | exact layoutKept_enterPhase _ _ _ _ s | exact layoutKept_commit _ s

theorem layoutKept_calStageTimerExpiry (s : State) : LayoutKept s (calStageTimerExpiry s) := by
  unfold calStageTimerExpiry
  split
  · exact .refl s
  · split
    · unfold stageExpiry
      split
      · exact .refl s
      · exact .of_layout rfl
      · exact layoutKept_nextPhase _ s
      · exact layoutKept_nextPhase _ s
    · exact .refl s

theorem layoutKept_restart (p : PortId) (s : State) : LayoutKept s (restart p s) := by
  unfold restart
  split <;> exact .of_layout rfl

/-- A locked layout refuses SEG_DEFINE and SEG_REMOVE (R4, R7). -/
theorem layoutKept_segDefine {s : State} (h : s.layout.lock = true) (n b p q : Nat) :
    LayoutKept s (segDefine n b p q s).state := by
  rw [segDefine_locked b p q h]
  exact .refl s

theorem layoutKept_segRemove {s : State} (h : s.layout.lock = true) (n : Nat) : LayoutKept s (segRemove n s).state := by
  rw [segRemove_locked h]
  exact .refl s

/-! ### Every command -/

/-- Every command but POWER_ON_RESET keeps a locked layout. -/
theorem layoutKept_exec {c : Instr} {s t : State} (h : s.layout.lock = true) (hpower : ∀ x y z, c ≠ .powerOnReset x y z)
    (he : exec c s = .next t) : LayoutKept s t := by
  have hr := LayoutKept.refl s
  have hserve : ∀ {p : PortId} {k : Kind} {owner : Body → State → Response},
      (∀ b, LayoutKept s (owner b s).state) → LayoutKept s (serve p k owner s) := fun ho =>
    serve_keeps (P := LayoutKept s) (fun u x hu => hu.trans (.of_layout rfl)) hr ho
  have side : ∀ {t}, LinkSide s t → LayoutKept s t := LayoutKept.of_linkSide
  cases c
  all_goals injection he with he; subst he
  case powerOnReset => exact absurd rfl (hpower _ _ _)
  case selectAssert | selectRelease | roundTimerExpiry | turnaroundEnd | energyTick | queryFrameCompletion =>
    exact .of_layout rfl
  case nop | ident | causesRead | queryResult | calResultRead | eventsRead => exact hserve fun _ => .of_layout rfl
  case layoutLock => exact hserve fun _ => ⟨fun _ => rfl, fun _ => ⟨rfl, rfl, rfl, rfl⟩⟩
  case causesClear | enablesWrite | settleSet => refine hserve fun b => ?_; split <;> exact .of_layout rfl
  case segRead => refine hserve fun b => ?_; split; exacts [by unfold segRead; split <;> exact hr, hr]
  case sensorRead => refine hserve fun b => ?_; split; exacts [by unfold sensorRead; split <;> exact hr, hr]
  case tableRead => refine hserve fun b => ?_; split; exacts [by unfold tableRead; split <;> exact hr, hr]
  case couplingRead => refine hserve fun b => ?_; split; exacts [by unfold couplingRead; split <;> exact hr, hr]
  case energyRead => refine hserve fun b => ?_; split; exacts [by unfold energyRead; split <;> exact hr, hr]
  case segDefine => refine hserve fun b => ?_; split; exacts [layoutKept_segDefine h _ _ _ _, hr]
  case segRemove => refine hserve fun b => ?_; split; exacts [layoutKept_segRemove h _, hr]
  case segTune => refine hserve fun b => ?_; split; exacts [layoutKept_segTune _ _ s, hr]
  case bandSet => refine hserve fun b => ?_; split; exacts [layoutKept_bandSet _ _ _ s, hr]
  case glareSet => refine hserve fun b => ?_; split; exacts [layoutKept_glareSet _ _ s, hr]
  case energyClear => refine hserve fun b => ?_; split; exacts [layoutKept_energyClear _ s, hr]
  case couplingWrite => refine hserve fun b => ?_; split; exacts [layoutKept_couplingWrite _ _ _ _ s, hr]
  case overrideSet => refine hserve fun b => ?_; split; exacts [(tableRequested_overrideSet s _ _ _).layoutKept, hr]
  case overrideCancel => refine hserve fun b => ?_; split; exacts [(tableRequested_overrideCancel s _).layoutKept, hr]
  case lockSet => refine hserve fun b => ?_; split; exacts [(tableRequested_lockSet s _ _).layoutKept, hr]
  case lockRelease => refine hserve fun b => ?_; split; exacts [(tableRequested_lockRelease s _).layoutKept, hr]
  case holdSet => refine hserve fun b => ?_; split; exacts [(tableRequested_holdSet s _ _).layoutKept, hr]
  case holdSettled => refine hserve fun b => ?_; split; exacts [(tableRequested_holdSettled s _).layoutKept, hr]
  case capSet => refine hserve fun b => ?_; split; exacts [(tableRequested_capSet s _ _ _ _).layoutKept, hr]
  case capCancel => refine hserve fun b => ?_; split; exacts [(tableRequested_capCancel s _).layoutKept, hr]
  case calStart => refine hserve fun b => ?_; split; exacts [layoutKept_calStart _ _ _ _ _ _ _ s, hr]
  case calAbort => exact hserve fun _ => layoutKept_abortRun _ s
  case linkPause => exact hserve fun _ => side (linkSide_linkPause s)
  case linkResume => exact hserve fun _ => side (linkSide_linkResume s)
  case groupClearFail => refine hserve fun b => ?_; split; exacts [side (linkSide_groupClearFail _ s), hr]
  case powerSet => refine hserve fun b => ?_; split; exacts [side (linkSide_powerSet _ _ s), hr]
  case queryDriver => refine hserve fun b => ?_; split; exacts [side (linkSide_queryDriver _ _ _ s), hr]
  case restart => exact layoutKept_restart _ s
  case sensorReply | replyWindowTimeout | interByteGap => exact layoutKept_judgePoll _ s
  case pass => split; exacts [layoutKept_passSegment _ s, hr]
  case fadeStep => exact layoutKept_fadeStep _ s
  case uptimeTick => exact (layoutKept_setTable _ s).trans (layoutKept_departDue _)
  case entryExpiry => exact layoutKept_departDue s
  case setLevelCompletion => exact side (linkSide_setLevelDone s)
  case answerWindowEnd => exact side (linkSide_windowEnd _ s)
  case busFault => exact layoutKept_busFault s
  case busRestoration => split <;> exact .of_layout rfl
  case calStageTimerExpiry => exact layoutKept_calStageTimerExpiry s

/-- Settles O14: composition takes the base of the mode, or a run's level that no cap undercuts, and under the lock only tuning,
bands and thresholds of a record can be written. -/
theorem layoutLockAndCapsHold : Obligations.LayoutLockAndCapsHold := by
  unfold Obligations.LayoutLockAndCapsHold
  refine ⟨fun i b s => ⟨fun r hm hr => demandLevel_calibrating b hm hr, fun level hm hl => demandLevel_locked b hm hl,
    fun base h => ?_⟩, fun s h g r hg hl level hlevel => ?_, fun c s t h hpower he => ?_⟩
  · have hbase : ∀ m, modeOf s i = m → s.ctrls[i].mode = m := fun _ h => h
    rcases h with ⟨hm, rfl⟩ | ⟨hm, rfl⟩ | ⟨hm, rfl⟩ | ⟨hm, rfl⟩
    · rw [demandLevel_composed b (.inl hm), baseLevel, hbase _ hm]
    · rw [demandLevel_composed b (.inr (.inl hm)), baseLevel, hbase _ hm]
    · rw [demandLevel_composed b (.inr (.inr (.inl hm))), baseLevel, hbase _ hm]
    · rw [demandLevel_composed b (.inr (.inr (.inr hm))), baseLevel, hbase _ hm]
  · obtain ⟨_, _, hmode, hrun, _, hcomposed⟩ := h
    rw [hcomposed g r hg]
    exact demandLevel_le_cap (bandOf g) hmode hrun hl hlevel
  · have hk := layoutKept_exec h hpower he
    exact ⟨hk.lock h, hk.segs⟩

end Sys2Proof.Proofs
end

section
/-! PROOFS. The requests of the table in the words of the statements: what they take out, append, change and delete, and whom
they inform (R81, R83 to R87, R89 to R91). -/

namespace Sys2Proof.Proofs

open Sys2Proof Sys2Proof.Machine Sys2Proof.Safety Sys2Proof.Laws

/-! ## What is taken out and who is informed (R83, R91) -/

/-- What `takeOut` leaves of each entry. -/
theorem takeOut_eq (sel : Entry → Bool) (m : SegMask) (t : List Entry) : takeOut sel m t = t.filterMap fun e =>
    if sel e = false then some e
    else if e.mask &&& ~~~m = 0 then none
    else some { e with mask := e.mask &&& ~~~m } := by
  unfold takeOut maskMinus
  congr 1; funext e
  cases sel e <;> rfl

/-- A request that puts an entry over its segments informs them and those of the entries it alters. -/
theorem maskHas_informed (sel : Entry → Bool) (m : SegMask) (t : List Entry) (i : SegId) :
    maskHas (takenFrom sel m t ||| m) i = (maskHas m i || t.any fun e => sel e && e.mask &&& m != 0 && maskHas e.mask i) := by
  rw [maskHas_or, maskHas_takenFrom, Bool.or_comm]

/-! ## Requests that put one entry over their segments, or take segments out (R81, R83 to R87) -/

section
variable {p : PortId} {r : Request} {s : State} {c : Instr} {owner : Body → State → Response} {sel : Entry → Bool}
  {m : SegMask} {new : Entry} {clamped : Bool}

/-- An accepted request is replied with its effects, OK where nothing was brought into range (R81). -/
theorem exec_accepted {t : State} {P : Prop} [Decidable P] (he : exec c s = .next (serve p (kindOf r.body) owner s))
    (h : Runs p r s) (ho : owner r.body s = accept clamped t) (hst : clamped = true ↔ ¬ P) :
    exec c s = .next (placeReply p r (if P then .ok else .okClamped) [] t) := by
  rw [he, serve_runs owner h, ho, ← okStatus_eq hst]
  rfl

/-- A request that puts an entry over its segments: TABLE_FULL where it finds no room, otherwise one table change (R81). -/
theorem exec_replaced {P : Prop} [Decidable P] (he : exec c s = .next (serve p (kindOf r.body) owner s)) (h : Runs p r s)
    (ho : owner r.body s = replaceOver sel m new clamped s) (hst : clamped = true ↔ ¬ P) :
    (32 ≤ (takeOut sel m s.table.entries).length → exec c s = .next (placeReply p r .tableFull [] s)) ∧
    ((takeOut sel m s.table.entries).length < 32 → exec c s = .next (placeReply p r (if P then .ok else .okClamped) []
      (tableChange (takeOut sel m s.table.entries ++ [new]) (some new) (takenFrom sel m s.table.entries ||| new.mask) s))) := by
  have hlen : tableFull (takeOut sel m s.table.entries ++ [new]) = decide (32 ≤ (takeOut sel m s.table.entries).length) := by
    simp only [tableFull, List.length_append, List.length_singleton, Nat.lt_succ_iff]
  refine ⟨fun hfull => exec_refused he h (ho.trans (if_pos ?_)), fun hroom => exec_accepted he h (ho.trans (if_neg ?_)) hst⟩
  · rw [hlen]; exact decide_eq_true hfull
  · rw [hlen]; simpa using hroom

/-- A request that takes segments out of entries is one table change with nothing inserted (R84, R85). -/
theorem exec_released {P : Prop} [Decidable P] (he : exec c s = .next (serve p (kindOf r.body) owner s)) (h : Runs p r s)
    (ho : owner r.body s = releaseOver sel m clamped s) (hst : clamped = true ↔ ¬ P) :
    exec c s = .next (placeReply p r (if P then .ok else .okClamped) []
      (tableChange (takeOut sel m s.table.entries) none (takenFrom sel m s.table.entries) s)) := exec_accepted he h ho hst

end

theorem clampTo_zero (hi n : Nat) : clampTo 0 hi n = min n hi := by rw [clampTo_eq (Nat.zero_le hi), Nat.zero_max]

/-- A number is brought into a range unchanged exactly when it lies there. -/
theorem clampTo_eq_self_iff {lo hi n : Nat} (h : lo ≤ hi) : clampTo lo hi n = n ↔ lo ≤ n ∧ n ≤ hi := by
  rw [clampTo_eq h]; omega

section
variable {s : State} {m : SegMask}

/-- OVERRIDE_SET puts an OVERRIDE over its configured segments (R83). -/
theorem overrideSet_eq (h : m &&& configuredMask s ≠ 0) (level minutes : Nat) : overrideSet m level minutes s =
    replaceOver isOverride (m &&& configuredMask s)
      ⟨m &&& configuredMask s, .override (min level 1000) (s.table.uptime + 60 * max 1 (min minutes 480))⟩
      (m &&& configuredMask s != m || clampTo 0 1000 level != level || clampTo 1 480 minutes != minutes) s := by
  rw [← clampTo_zero, ← clampTo_eq (by decide : 1 ≤ 480), Nat.mul_comm]
  exact if_neg h

/-- LOCK_SET puts a LOCK over its configured segments (R85). -/
theorem lockSet_eq (h : m &&& configuredMask s ≠ 0) (level : Nat) : lockSet m level s =
    replaceOver isLock (m &&& configuredMask s) ⟨m &&& configuredMask s, .lock (min level 1000)⟩
      (m &&& configuredMask s != m || clampTo 0 1000 level != level) s := by
  rw [← clampTo_zero]
  exact if_neg h

/-- HOLD_SET puts a HOLD over its configured segments (R86). -/
theorem holdSet_eq (h : m &&& configuredMask s ≠ 0) (seconds : Nat) : holdSet m seconds s =
    replaceOver isHold (m &&& configuredMask s) ⟨m &&& configuredMask s, .hold
        (maxExpiry (m &&& configuredMask s) (s.table.uptime + max 1 (min seconds 600)) s.table.entries) false⟩
      (m &&& configuredMask s != m || clampTo 1 600 seconds != seconds) s := by
  rw [← clampTo_eq (by decide : 1 ≤ 600)]
  exact if_neg h

end

/-! ## The expiry of a hold (R86) -/

/-- A HOLD over a segment of the mask that expires at the second. -/
def HoldUntil (m : SegMask) (y : Nat) (e : Entry) : Prop := (∃ settling, e.ask = .hold y settling) ∧ e.mask &&& m ≠ 0

/-- A HOLD that overlaps the mask raises the expiry to its own, any other entry leaves it. -/
theorem maxExpiry_cons (m : SegMask) (x : Nat) (e : Entry) (t : List Entry) :
    (∃ y, HoldUntil m y e ∧ maxExpiry m x (e :: t) = maxExpiry m (max x y) t) ∨
      (∀ y, ¬ HoldUntil m y e) ∧ maxExpiry m x (e :: t) = maxExpiry m x t := by
  have hcons : maxExpiry m x (e :: t) =
      maxExpiry m (if isHold e && e.mask &&& m != 0 then max x ((expiryOf e).getD 0) else x) t := rfl
  rw [hcons]
  cases hask : e.ask with
  | hold y settling =>
    by_cases hmask : e.mask &&& m = 0
    · refine .inr ⟨fun y h => h.2 hmask, ?_⟩
      rw [hmask]; simp
    · refine .inl ⟨y, ⟨⟨settling, hask⟩, hmask⟩, ?_⟩
      rw [if_pos (by simp only [isHold, hask, bne_iff_ne.mpr hmask, Bool.and_self]), expiryOf, hask]
      rfl
  | _ =>
    refine .inr ⟨fun y h => ?_, by rw [isHold, hask]; rfl⟩
    obtain ⟨⟨_, hhold⟩, _⟩ := h
    rw [hask] at hhold; cases hhold

/-- The new expiry is no earlier than the requested one or that of any overlapped hold, and is one of them (R86). -/
theorem maxExpiry_spec (m : SegMask) (t : List Entry) (x : Nat) :
    x ≤ maxExpiry m x t ∧ (∀ e ∈ t, ∀ y, HoldUntil m y e → y ≤ maxExpiry m x t) ∧
      (maxExpiry m x t = x ∨ ∃ e ∈ t, HoldUntil m (maxExpiry m x t) e) := by
  induction t generalizing x with
  | nil => exact ⟨Nat.le_refl x, nofun, .inl rfl⟩
  | cons e t ih =>
    rcases maxExpiry_cons m x e t with ⟨y, hy, hcons⟩ | ⟨hnone, hcons⟩
    · obtain ⟨hle, hall, hone⟩ := ih (max x y)
      rw [hcons]
      refine ⟨(Nat.le_max_left x y).trans hle, fun e' he' z hz => ?_, ?_⟩
      · rcases List.mem_cons.mp he' with rfl | he'
        · obtain ⟨⟨_, hask⟩, _⟩ := hy
          obtain ⟨⟨_, hask'⟩, _⟩ := hz
          cases hask.symm.trans hask'
          exact (Nat.le_max_right x y).trans hle
        · exact hall e' he' z hz
      · rcases hone with hone | ⟨e', he', hz⟩
        · rw [hone]
          rcases Nat.le_total y x with hyx | hxy
          · exact .inl (Nat.max_eq_left hyx)
          · exact .inr ⟨e, List.mem_cons_self, by rwa [Nat.max_eq_right hxy]⟩
        · exact .inr ⟨e', List.mem_cons_of_mem e he', hz⟩
    · obtain ⟨hle, hall, hone⟩ := ih x
      rw [hcons]
      refine ⟨hle, fun e' he' z hz => ?_, hone.imp_right fun ⟨e', he', hz⟩ => ⟨e', List.mem_cons_of_mem e he', hz⟩⟩
      rcases List.mem_cons.mp he' with rfl | he'
      · exact absurd hz (hnone z)
      · exact hall e' he' z hz

/-- Settles O36: each of the three requests is one `replaceOver` of its kind, and a hold's expiry is the largest of those it
meets. -/
theorem setRequests : Obligations.SetRequests := by
  unfold Obligations.SetRequests
  refine ⟨fun p link tag m level minutes s hm => ⟨fun h => ?_, fun h => ?_⟩, fun p link tag m seconds s hm h => ?_⟩
  · refine ⟨takeOut isOverride (m &&& configuredMask s) s.table.entries, _, _, takeOut_eq .., rfl,
      maskHas_informed isOverride _ _, exec_replaced rfl h (overrideSet_eq hm level minutes) ?_⟩
    simp only [Bool.or_eq_true, bne_iff_ne, ne_eq, ← not_and_or, and_assoc, clampTo_eq_self_iff, Nat.zero_le, true_and,
      Nat.reduceLeDiff]
  · refine ⟨takeOut isLock (m &&& configuredMask s) s.table.entries, _, _, takeOut_eq .., rfl,
      maskHas_informed isLock _ _, exec_replaced rfl h (lockSet_eq hm level) ?_⟩
    simp only [Bool.or_eq_true, bne_iff_ne, ne_eq, ← not_and_or, clampTo_eq_self_iff, Nat.zero_le, true_and]
  · obtain ⟨hle, hall, hone⟩ := maxExpiry_spec (m &&& configuredMask s) s.table.entries
      (s.table.uptime + max 1 (min seconds 600))
    refine ⟨takeOut isHold (m &&& configuredMask s) s.table.entries, _, _, takeOut_eq .., hle,
      fun e he y settling hask hmask => hall e he y ⟨⟨settling, hask⟩, hmask⟩, hone, maskHas_informed isHold _ _,
      exec_replaced rfl h (holdSet_eq hm seconds) ?_⟩
    simp only [Bool.or_eq_true, bne_iff_ne, ne_eq, ← not_and_or, clampTo_eq_self_iff, Nat.reduceLeDiff]

/-! ## Releases (R84, R85, R87) -/

theorem holdOver_iff {t : List Entry} {i : SegId} :
    holdOver t i = true ↔ ∃ e ∈ t, isHold e = true ∧ maskHas e.mask i = true := by
  rw [holdOver, List.any_eq_true]
  refine exists_congr fun e => and_congr_right fun _ => ?_
  unfold isHold
  cases e.ask <;> simp

/-- Every held segment is one of a HOLD entry that loses segments, and so is informed as such (R87). -/
theorem takenFrom_or_heldMask (m : SegMask) (t : List Entry) :
    takenFrom isHold (heldMask m t) t ||| heldMask m t = takenFrom isHold (heldMask m t) t := by
  refine mask_ext fun i => ?_
  rw [maskHas_or, Bool.or_eq_left_iff_imp]
  intro hi
  have hover := hi
  rw [heldMask, maskHas_maskWhere, Bool.and_eq_true] at hover
  obtain ⟨e, he, hhold, hmask⟩ := holdOver_iff.mp hover.2
  have hcut : e.mask &&& heldMask m t ≠ 0 := fun h0 => by
    have := and_eq_zero_iff.mp h0 i hmask
    rw [hi] at this; cases this
  rw [maskHas_takenFrom, List.any_eq_true]
  exact ⟨e, he, by rw [hhold, hmask, bne_iff_ne.mpr hcut]; rfl⟩

section
variable {s : State} {m : SegMask}

theorem overrideCancel_eq (h : m &&& configuredMask s ≠ 0) : overrideCancel m s =
    releaseOver isOverride (m &&& configuredMask s) (m &&& configuredMask s != m) s := if_neg h

theorem lockRelease_eq (h : m &&& configuredMask s ≠ 0) : lockRelease m s =
    releaseOver isLock (m &&& configuredMask s) (m &&& configuredMask s != m) s := if_neg h

/-- HOLD_SETTLED with none of its segments held (R87). -/
theorem holdSettled_unheld (h : m &&& configuredMask s ≠ 0) (h0 : heldMask (m &&& configuredMask s) s.table.entries = 0) :
    holdSettled m s = accept (m &&& configuredMask s != m) s := (if_neg h).trans (if_pos h0)

/-- HOLD_SETTLED without a settle time lets the held segments go (R87). -/
theorem holdSettled_released (h : m &&& configuredMask s ≠ 0) (h0 : heldMask (m &&& configuredMask s) s.table.entries ≠ 0)
    (hs : s.table.settle = 0) : holdSettled m s =
      releaseOver isHold (heldMask (m &&& configuredMask s) s.table.entries) (m &&& configuredMask s != m) s :=
  (if_neg h).trans ((if_neg h0).trans (if_pos hs))

/-- HOLD_SETTLED with a settle time puts a settling hold over the held segments (R87). -/
theorem holdSettled_replaced (h : m &&& configuredMask s ≠ 0) (h0 : heldMask (m &&& configuredMask s) s.table.entries ≠ 0)
    (hs : s.table.settle ≠ 0) : holdSettled m s =
      replaceOver isHold (heldMask (m &&& configuredMask s) s.table.entries)
        ⟨heldMask (m &&& configuredMask s) s.table.entries, .hold (s.table.uptime + s.table.settle) true⟩
        (m &&& configuredMask s != m) s :=
  (if_neg h).trans ((if_neg h0).trans (if_neg hs))

end

/-- Settles O37: the releases are one `releaseOver` of their kind; HOLD_SETTLED is one over the held segments, or puts a
settling hold over them, whose segments are all of entries that lose them. -/
theorem releaseRequests : Obligations.ReleaseRequests := by
  unfold Obligations.ReleaseRequests
  refine ⟨fun p link tag m s hm => ⟨fun h => ?_, fun h => ?_⟩, fun p link tag m s hm h => ?_⟩
  · exact ⟨_, _, takeOut_eq .., maskHas_takenFrom _ _ _, exec_released rfl h (overrideCancel_eq hm) bne_iff_ne⟩
  · exact ⟨_, _, takeOut_eq .., maskHas_takenFrom _ _ _, exec_released rfl h (lockRelease_eq hm) bne_iff_ne⟩
  · have hreplaced := fun h0 hs => exec_replaced (c := .holdSettled p) (r := ⟨link, tag, .holdSettled m⟩) rfl h
      (holdSettled_replaced hm h0 hs) bne_iff_ne
    simp only [takenFrom_or_heldMask] at hreplaced
    exact ⟨heldMask (m &&& configuredMask s) s.table.entries, _, _, _, _, fun i => by simp only [heldMask, maskHas_maskWhere],
      takeOut_eq .., rfl, rfl, fun h0 => exec_accepted rfl h (holdSettled_unheld hm h0) bne_iff_ne,
      fun h0 hs => exec_released rfl h (holdSettled_released hm h0 hs) bne_iff_ne, fun h0 hs => (hreplaced h0 hs).2,
      fun h0 hs => (hreplaced h0 hs).1, maskHas_takenFrom _ _ _⟩

/-! ## Caps (R89, R90) -/

/-- In a lawful table the CAP entry of an id stands between entries of which none is one of the id. -/
theorem others_of_cap {c : SegMask} {before after : List Entry} {old : Entry} {id : Nat}
    (h : EntriesLaw c (before ++ old :: after)) (hold : isCap id old = true) {e : Entry} (he : e ∈ before ∨ e ∈ after) :
    isCap id e = false := by
  obtain ⟨_, hpair, _⟩ := h
  obtain ⟨_, hafter, hbefore⟩ := List.pairwise_append.mp hpair
  have hcomp : compatible e old = true := by
    rcases he with he | he
    · exact hbefore e he old List.mem_cons_self
    · exact compatible_symm ((List.pairwise_cons.mp hafter).1 e he)
  obtain ⟨_, _, hask⟩ := isCap_iff.mp hold
  by_contra he
  obtain ⟨_, _, hask'⟩ := isCap_iff.mp (Bool.eq_true_of_not_eq_false he)
  simp [compatible, hask, hask'] at hcomp

section
variable {c : SegMask} {before after : List Entry} {old : Entry} {id : Nat} (h : EntriesLaw c (before ++ old :: after))
  (hold : isCap id old = true)
include h hold

theorem find?_cap : (before ++ old :: after).find? (isCap id) = some old := by
  rw [List.find?_append, List.find?_eq_none.mpr fun e he => Bool.eq_false_iff.mp (others_of_cap h hold (.inl he)),
    Option.none_or, List.find?_cons_of_pos hold]

/-- The CAP entry of an id changed in place (R89). -/
theorem map_replaceCap (new : Entry) :
    ((before ++ old :: after).map fun e => if isCap id e then new else e) = before ++ new :: after := by
  have hkeep : ∀ l : List Entry, (∀ e ∈ l, isCap id e = false) → (l.map fun e => if isCap id e then new else e) = l :=
    fun l hl => (List.map_congr_left fun e he => by rw [hl e he]; rfl).trans (List.map_id l)
  rw [List.map_append, List.map_cons, hkeep before fun e he => others_of_cap h hold (.inl he),
    hkeep after fun e he => others_of_cap h hold (.inr he), if_pos hold]

/-- The CAP entry of an id deleted (R90). -/
theorem filter_withoutCap : (before ++ old :: after).filter (fun e => !isCap id e) = before ++ after := by
  have hkeep : ∀ l : List Entry, (∀ e ∈ l, isCap id e = false) → l.filter (fun e => !isCap id e) = l :=
    fun l hl => List.filter_eq_self.mpr fun e he => by rw [hl e he]; rfl
  rw [List.filter_append, List.filter_cons_of_neg (by rw [hold]; decide),
    hkeep before fun e he => others_of_cap h hold (.inl he), hkeep after fun e he => others_of_cap h hold (.inr he)]

end

/-- The entry that CAP_SET writes (R89). -/
def newCap (id : Nat) (m : SegMask) (level minutes : Nat) (s : State) : Entry :=
  ⟨m &&& configuredMask s, .cap id (min level 1000)
    (if minutes = 65535 then none else some (s.table.uptime + 60 * max 1 (min minutes 240)))⟩

/-- Something of a CAP_SET is brought into range (R81, R89). -/
def capClamped (m : SegMask) (level minutes : Nat) (s : State) : Bool :=
  m &&& configuredMask s != m || clampTo 0 1000 level != level || (capMinutes minutes).getD noDuration != minutes

theorem capClamped_iff {m : SegMask} {level minutes : Nat} {s : State} : capClamped m level minutes s = true ↔
    ¬ (m &&& configuredMask s = m ∧ level ≤ 1000 ∧ (minutes = 65535 ∨ 1 ≤ minutes ∧ minutes ≤ 240)) := by
  have hminutes : (capMinutes minutes).getD noDuration = minutes ↔ minutes = 65535 ∨ 1 ≤ minutes ∧ minutes ≤ 240 := by
    unfold capMinutes noDuration
    split
    · next h => simp [h]
    · next h => simp [h, clampTo_eq_self_iff]
  simp only [capClamped, Bool.or_eq_true, bne_iff_ne, ne_eq, ← not_and_or, and_assoc, clampTo_eq_self_iff, Nat.zero_le,
    true_and, hminutes]

/-- What CAP_SET does, by the CAP entry of its id (R81, R89). -/
theorem capSet_eq {id : Nat} {m : SegMask} {s : State} (hid : id < 8) (hm : m &&& configuredMask s ≠ 0)
    (level minutes : Nat) : capSet id m level minutes s =
      match s.table.entries.find? (isCap id) with
      | some old => accept (capClamped m level minutes s)
          (tableChange (s.table.entries.map fun e => if isCap id e then newCap id m level minutes s else e)
            (some (newCap id m level minutes s)) (old.mask ||| (m &&& configuredMask s)) s)
      | none =>
        if tableFull (s.table.entries ++ [newCap id m level minutes s]) then refuse .tableFull s
        else accept (capClamped m level minutes s) (tableChange (s.table.entries ++ [newCap id m level minutes s])
          (some (newCap id m level minutes s)) (m &&& configuredMask s) s) := by
  have hnew : (⟨keptMask m s, .cap id (clampTo 0 1000 level)
      ((capMinutes minutes).map fun n => s.table.uptime + n * 60)⟩ : Entry) = newCap id m level minutes s := by
    rw [newCap, capMinutes, clampTo_zero, keptMask, noDuration, clampTo_eq (by decide), Nat.mul_comm 60]
    split <;> rfl
  rw [← hnew]
  refine (if_neg (Nat.not_le_of_lt hid)).trans ((if_neg hm).trans ?_)
  rfl

/-- Settles O38: a lawful table holds at most one CAP entry of the id, so it is the one found, changed or deleted. -/
theorem capSetAndCancel : Obligations.CapSetAndCancel := by
  unfold Obligations.CapSetAndCancel
  intro p link tag id s hid hlaw
  have hnone : (∀ e ∈ s.table.entries, isCap id e = false) → s.table.entries.find? (isCap id) = none := fun hno =>
    List.find?_eq_none.mpr fun e he => Bool.eq_false_iff.mp (hno e he)
  refine ⟨fun m level minutes hm h => ⟨newCap id m level minutes s, _, rfl, rfl, fun before old after ht hold => ?_,
    fun hno hroom => ?_⟩, fun h => ⟨fun before old after ht hold => ?_, fun hno => ?_⟩⟩
  · have hlaw : EntriesLaw (configuredMask s) (before ++ old :: after) := ht ▸ hlaw
    refine exec_accepted rfl h ((capSet_eq hid hm level minutes).trans ?_) capClamped_iff
    rw [ht, find?_cap hlaw hold, map_replaceCap hlaw hold]
  · refine exec_accepted rfl h ((capSet_eq hid hm level minutes).trans ?_) capClamped_iff
    rw [hnone hno]
    exact if_neg (by simp only [tableFull, List.length_append, List.length_singleton, decide_eq_true_eq]; omega)
  · have hlaw : EntriesLaw (configuredMask s) (before ++ old :: after) := ht ▸ hlaw
    refine exec_accepted (clamped := false) (P := True) rfl h ?_ (by decide)
    refine (if_neg (Nat.not_le_of_lt hid)).trans ?_
    rw [ht, find?_cap hlaw hold, filter_withoutCap hlaw hold]
  · refine exec_accepted (clamped := false) (P := True) rfl h ?_ (by decide)
    refine (if_neg (Nat.not_le_of_lt hid)).trans ?_
    rw [hnone hno]

end Sys2Proof.Proofs
end

section
/-! PROOFS. The law of the request table, the expiries, the uptime and the energy (R75, R77, R79, R106): which commands leave
all of them alone, and what the requests of the table, the removal of a segment and the resets keep. -/

namespace Sys2Proof.Proofs

open Sys2Proof Sys2Proof.Machine Sys2Proof.Safety Sys2Proof.Laws

/-! ## Changes that keep the laws of the table, the uptime and the energy -/

/-- The accumulators and the uptime are the same, and the laws of the entries are kept. -/
structure StoresKept (s t : State) : Prop where
  energy : t.energy = s.energy
  uptime : t.table.uptime = s.table.uptime
  table : TableLaw s → TableLaw t
  expiry : ExpiryLaw s → ExpiryLaw t

theorem mask_sub_iff {a b : SegMask} : a &&& b = a ↔ ∀ i, maskHas a i = true → maskHas b i = true := by
  constructor
  · intro h i hi
    rw [← h, maskHas_and, Bool.and_eq_true] at hi
    exact hi.2
  · intro h
    refine mask_ext fun i => ?_
    rw [maskHas_and, Bool.and_eq_left_iff_imp]
    exact h i

/-- Entries stay lawful while the segments they cover stay configured. -/
theorem EntriesLaw.mono {c d : SegMask} {t : List Entry} (h : EntriesLaw c t)
    (hd : ∀ e ∈ t, ∀ i, maskHas e.mask i = true → maskHas c i = true → maskHas d i = true) : EntriesLaw d t := by
  obtain ⟨hlen, hpair, hall⟩ := h
  refine ⟨hlen, hpair, fun e he => ?_⟩
  obtain ⟨hne, hsub, hrange⟩ := hall e he
  exact ⟨hne, mask_sub_iff.mpr fun i hi => hd e he i hi (mask_sub_iff.mp hsub i hi), hrange⟩

/-- The table and the accumulators are the same, and no segment is removed. -/
theorem StoresKept.of_same {s t : State} (ht : t.table = s.table) (he : t.energy = s.energy)
    (hc : ∀ i, configured s i = true → configured t i = true) : StoresKept s t := by
  refine ⟨he, by rw [ht], fun h => ?_, fun h => by unfold ExpiryLaw; rw [ht]; exact h⟩
  rw [tableLaw_iff, ht]
  refine (tableLaw_iff.mp h).mono fun e _ i _ hi => ?_
  rw [maskHas_configuredMask] at hi ⊢
  exact hc i hi

theorem StoresKept.of_layout {s t : State} (ht : t.table = s.table) (he : t.energy = s.energy) (hl : t.layout = s.layout) :
    StoresKept s t := .of_same ht he fun i h => by rw [configured, segCfg, hl]; exact h

theorem StoresKept.refl (s : State) : StoresKept s s := .of_layout rfl rfl rfl

theorem StoresKept.trans {s t u : State} (h : StoresKept s t) (k : StoresKept t u) : StoresKept s u :=
  ⟨k.energy.trans h.energy, k.uptime.trans h.uptime, fun hs => k.table (h.table hs), fun hs => k.expiry (h.expiry hs)⟩

theorem StoresKept.foldl {α : Type} {f : State → α → State} (h : ∀ s a, StoresKept s (f s a)) (l : List α) (s : State) :
    StoresKept s (l.foldl f s) := List.foldlRecOn _ _ (.refl s) fun u hu a _ => hu.trans (h u a)

theorem StoresKept.of_quiet {s t : State} (h : Quiet s t) : StoresKept s t := .of_layout h.table h.energy h.layout

theorem StoresKept.of_linkSide {s t : State} (h : LinkSide s t) : StoresKept s t := by
  obtain ⟨_, hlayout, _, _, _, htable, henergy, _⟩ := h.frame
  exact .of_layout htable henergy hlayout

/-! ## Table changes -/

theorem tableChange_energy (entries : List Entry) (inserted : Option Entry) (informed : SegMask) (s : State) :
    (tableChange entries inserted informed s).energy = s.energy := by
  obtain ⟨u, h, hu⟩ := tableChange_cases entries inserted informed s
  rw [h, (Quiet.foldl quiet_informSegment (maskSegs informed) u).energy]
  rcases hu with ⟨rfl, _⟩ | ⟨r, res, _, rfl⟩
  · rfl
  · obtain ⟨_, _, _, _, _, henergy, _⟩ := endRun_frame r res (setEntries entries s)
    exact henergy

/-- The entry expires later than the second, or not at all. -/
def Ahead (now : Nat) (e : Entry) : Prop := ∀ x ∈ expiryOf e, now < x

theorem Ahead.of_ask {now : Nat} {e e₀ : Entry} (h : Ahead now e₀) (ha : e.ask = e₀.ask) : Ahead now e := fun x hx =>
  h x (by unfold expiryOf at hx ⊢; rwa [ha] at hx)

/-- A table change to lawful entries that are old ones, or expire later, keeps the laws. -/
theorem storesKept_tableChange {entries : List Entry} {s : State}
    (hlaw : TableLaw s → EntriesLaw (configuredMask s) entries)
    (hexp : ∀ e ∈ entries, (∃ e₀ ∈ s.table.entries, e.ask = e₀.ask) ∨ Ahead s.table.uptime e) (inserted : Option Entry)
    (informed : SegMask) : StoresKept s (tableChange entries inserted informed s) := by
  obtain ⟨hlayout, _, htable, _⟩ := tableChange_frame entries inserted informed s
  refine ⟨tableChange_energy .., by rw [htable], fun h => ?_, fun h e he => ?_⟩
  · rw [tableLaw_iff, htable, configuredMask_congr (s := s) fun i => by simp only [configured, segCfg, hlayout]]
    exact hlaw h
  · rw [htable] at he ⊢
    rcases hexp e he with ⟨e₀, he₀, ha⟩ | ha
    · exact Ahead.of_ask (h e₀ he₀) ha
    · exact ha

theorem storesKept_accept {s t : State} (clamped : Bool) (h : StoresKept s t) : StoresKept s (accept clamped t).state := h

/-- Whatever is no CAP may stand beside every entry over other segments. -/
theorem compatible_of_disjoint {e new : Entry} (hcap : capLevel? new.ask = none) (h : e.mask &&& new.mask = 0) :
    compatible e new = true := by
  unfold compatible
  cases e.ask <;> cases hn : new.ask <;> simp_all [capLevel?]

/-- An entry that a request may put over its segments: it is lawful, no CAP, may stand beside every entry of another kind, and
expires later. -/
structure Postable (sel : Entry → Bool) (new : Entry) (s : State) : Prop where
  lawful : new.mask ≠ 0 ∧ new.mask &&& configuredMask s = new.mask ∧ askInRange new.ask = true
  uncapped : capLevel? new.ask = none
  otherKind : ∀ e, sel e = false → compatible e new = true
  ahead : Ahead s.table.uptime new

theorem storesKept_replaceOver {sel : Entry → Bool} {new : Entry} {s : State} (h : Postable sel new s) (clamped : Bool) :
    StoresKept s (replaceOver sel new.mask new clamped s).state := by
  unfold replaceOver
  dsimp only
  split
  · exact .refl s
  · next hfull =>
    refine storesKept_accept clamped (storesKept_tableChange (fun ht => ?_) (fun e he => ?_) _ _)
    · exact entriesLaw_append (entriesLaw_takeOut ht sel _) h.lawful (compatible_takeOut h.otherKind fun _ =>
        compatible_of_disjoint h.uncapped) (Bool.eq_false_of_not_eq_true hfull)
    · rcases List.mem_append.mp he with he | he
      · obtain ⟨e₀, he₀, hask, _⟩ := within_of_mem_takeOut he
        exact .inl ⟨e₀, he₀, hask⟩
      · exact .inr (List.mem_singleton.mp he ▸ h.ahead)

theorem storesKept_releaseOver (sel : Entry → Bool) (m : SegMask) (clamped : Bool) (s : State) :
    StoresKept s (releaseOver sel m clamped s).state := by
  refine storesKept_accept clamped (storesKept_tableChange (fun ht => entriesLaw_takeOut ht sel m) (fun e he => ?_) _ _)
  obtain ⟨e₀, he₀, hask, _⟩ := within_of_mem_takeOut he
  exact .inl ⟨e₀, he₀, hask⟩

/-- Some entries leave. -/
theorem storesKept_filter (f : Entry → Bool) (inserted : Option Entry) (informed : SegMask) (s : State) :
    StoresKept s (tableChange (s.table.entries.filter f) inserted informed s) :=
  storesKept_tableChange (fun ht => entriesLaw_filter ht f) (fun e he => .inl ⟨e, (List.mem_filter.mp he).1, rfl⟩) _ _

/-! ## The requests of the table (Section 5) -/

section
variable {s : State} {m : SegMask}

theorem postable_override (h0 : m ≠ 0) (hm : m &&& configuredMask s = m) {level x : Nat} (hl : level ≤ 1000)
    (hx : s.table.uptime < x) : Postable isOverride ⟨m, .override level x⟩ s := by
  refine ⟨⟨h0, hm, decide_eq_true hl⟩, rfl, fun e he => ?_, fun y hy => by cases hy; exact hx⟩
  cases ha : e.ask <;> simp_all [isOverride, compatible]

theorem postable_lock (h0 : m ≠ 0) (hm : m &&& configuredMask s = m) {level : Nat} (hl : level ≤ 1000) :
    Postable isLock ⟨m, .lock level⟩ s := by
  refine ⟨⟨h0, hm, decide_eq_true hl⟩, rfl, fun e he => ?_, nofun⟩
  cases ha : e.ask <;> simp_all [isLock, compatible]

theorem postable_hold (h0 : m ≠ 0) (hm : m &&& configuredMask s = m) {x : Nat} (hx : s.table.uptime < x) (settling : Bool) :
    Postable isHold ⟨m, .hold x settling⟩ s := by
  refine ⟨⟨h0, hm, rfl⟩, rfl, fun e he => ?_, fun y hy => by cases hy; exact hx⟩
  cases ha : e.ask <;> simp_all [isHold, compatible]

end

section
variable (m : SegMask) (s : State)

theorem storesKept_overrideSet (level minutes : Nat) : StoresKept s (overrideSet m level minutes s).state := by
  by_cases h : m &&& configuredMask s = 0
  · rw [overrideSet_notConfigured h]; exact .refl s
  · rw [overrideSet_eq h]
    exact storesKept_replaceOver (postable_override h (keptMask_sub m s) (Nat.min_le_right ..) (by omega)) _

theorem storesKept_lockSet (level : Nat) : StoresKept s (lockSet m level s).state := by
  by_cases h : m &&& configuredMask s = 0
  · rw [lockSet_notConfigured h]; exact .refl s
  · rw [lockSet_eq h]
    exact storesKept_replaceOver (postable_lock h (keptMask_sub m s) (Nat.min_le_right ..)) _

theorem storesKept_holdSet (seconds : Nat) : StoresKept s (holdSet m seconds s).state := by
  by_cases h : m &&& configuredMask s = 0
  · rw [holdSet_notConfigured h]; exact .refl s
  · rw [holdSet_eq h]
    have hlate := (maxExpiry_spec (m &&& configuredMask s) s.table.entries (s.table.uptime + max 1 (min seconds 600))).1
    exact storesKept_replaceOver (postable_hold h (keptMask_sub m s) (by omega) false) _

theorem storesKept_holdSettled : StoresKept s (holdSettled m s).state := by
  by_cases h : m &&& configuredMask s = 0
  · rw [holdSettled_notConfigured h]; exact .refl s
  by_cases h0 : heldMask (m &&& configuredMask s) s.table.entries = 0
  · rw [holdSettled_unheld h h0]; exact .refl s
  by_cases hs : s.table.settle = 0
  · rw [holdSettled_released h h0 hs]; exact storesKept_releaseOver _ _ _ s
  · rw [holdSettled_replaced h h0 hs]
    exact storesKept_replaceOver (postable_hold h0 (heldMask_sub m s) (by omega) true) _

theorem storesKept_overrideCancel : StoresKept s (overrideCancel m s).state := by
  by_cases h : m &&& configuredMask s = 0
  · rw [overrideCancel_notConfigured h]; exact .refl s
  · rw [overrideCancel_eq h]; exact storesKept_releaseOver _ _ _ s

theorem storesKept_lockRelease : StoresKept s (lockRelease m s).state := by
  by_cases h : m &&& configuredMask s = 0
  · rw [lockRelease_notConfigured h]; exact .refl s
  · rw [lockRelease_eq h]; exact storesKept_releaseOver _ _ _ s

/-- The new CAP entry is lawful and expires later, if at all (R89). -/
theorem newCap_lawful {id : Nat} (hid : id < 8) (hm : m &&& configuredMask s ≠ 0) (level minutes : Nat) :
    (newCap id m level minutes s).mask ≠ 0 ∧
      (newCap id m level minutes s).mask &&& configuredMask s = (newCap id m level minutes s).mask ∧
      askInRange (newCap id m level minutes s).ask = true :=
  ⟨hm, keptMask_sub m s, by simp [newCap, askInRange, hid]⟩

theorem newCap_ahead (id level minutes : Nat) : Ahead s.table.uptime (newCap id m level minutes s) := fun x hx => by
  have hx : (if minutes = 65535 then none else some (s.table.uptime + 60 * max 1 (min minutes 240))) = some x := hx
  split at hx
  · cases hx
  · cases hx; omega

theorem isCap_newCap (id level minutes : Nat) : isCap id (newCap id m level minutes s) = true := by simp [isCap, newCap]

theorem storesKept_capSet (id level minutes : Nat) : StoresKept s (capSet id m level minutes s).state := by
  by_cases hid : 8 ≤ id
  · rw [capSet_range hid]; exact .refl s
  have hid := Nat.lt_of_not_le hid
  by_cases hm : m &&& configuredMask s = 0
  · rw [capSet_notConfigured hid hm]; exact .refl s
  have hlawful := newCap_lawful m s hid hm level minutes
  have hahead := newCap_ahead m s id level minutes
  have hcap := isCap_newCap m s id level minutes
  rw [capSet_eq hid hm]
  generalize newCap id m level minutes s = new at hlawful hahead hcap ⊢
  split
  · refine storesKept_accept _ (storesKept_tableChange (fun ht => entriesLaw_replaceCap ht hcap hlawful) (fun e he => ?_) _ _)
    obtain ⟨e₀, he₀, rfl⟩ := List.mem_map.mp he
    split
    · exact .inr hahead
    · exact .inl ⟨e₀, he₀, rfl⟩
  · next hnone =>
    split
    · exact .refl s
    · next hfull =>
      refine storesKept_accept _ (storesKept_tableChange (fun ht => entriesLaw_append ht hlawful (fun e he => ?_)
        (Bool.eq_false_of_not_eq_true hfull)) (fun e he => ?_) _ _)
      · have hother := List.find?_eq_none.mp hnone e he
        obtain ⟨_, _, hask⟩ := isCap_iff.mp hcap
        unfold isCap at hother
        unfold compatible
        rw [hask]
        cases ha : e.ask <;> simp_all
      · rcases List.mem_append.mp he with he | he
        · exact .inl ⟨e, he, rfl⟩
        · exact .inr (List.mem_singleton.mp he ▸ hahead)

theorem storesKept_capCancel (id : Nat) : StoresKept s (capCancel id s).state := by
  unfold capCancel
  split
  · exact .refl s
  · split
    · exact .refl s
    · exact storesKept_accept false (storesKept_filter _ _ _ s)

end

/-! ## The layout requests (Section 1) -/

theorem storesKept_updSeg (i : SegId) {f : SegConfig → SegConfig} (hf : ∀ c, c.configured = true → (f c).configured = true)
    (s : State) : StoresKept s (updSeg i f s) := by
  refine .of_same rfl rfl fun j hj => ?_
  have hcfg : segCfg (updSeg i f s) j = if i = j then f (segCfg s j) else segCfg s j := updAt_get ..
  rw [configured, hcfg]
  split
  · exact hf _ hj
  · exact hj

theorem storesKept_defineSegment (i : SegId) {cfg : SegConfig} (h : cfg.configured = true) (s : State) :
    StoresKept s (defineSegment i cfg s) :=
  (storesKept_updSeg i (f := fun _ => cfg) (fun _ _ => h) s).trans (.of_layout rfl rfl rfl)

theorem storesKept_segDefine (n b p q : Nat) (s : State) : StoresKept s (segDefine n b p q s).state := by
  unfold segDefine
  split
  · exact .refl s
  · split
    · split
      · exact .refl s
      · exact storesKept_defineSegment _ rfl s
    · exact .refl s

theorem storesKept_retune (i : SegId) {f : SegConfig → SegConfig} (hf : ∀ c, c.configured = true → (f c).configured = true)
    (s : State) : StoresKept s (retune i f s) := (storesKept_updSeg i hf s).trans (.of_layout rfl rfl rfl)

theorem storesKept_segTune (n : Nat) (x : Tuning) (s : State) : StoresKept s (segTune n x s).state := by
  unfold segTune
  repeat' split
  case h_2.isFalse.isFalse => exact storesKept_retune _ (f := tuneConfig (clampTuning x)) (fun _ h => h) s
  all_goals exact .refl s

theorem storesKept_bandSet (n b : Nat) (q : BandConfig) (s : State) : StoresKept s (bandSet n b q s).state := by
  unfold bandSet
  split
  · exact .refl s
  · repeat' split
    case h_2 => exact storesKept_retune _ (fun _ h => by exact h) s
    all_goals exact .refl s

theorem storesKept_writeThreshold (n : Nat) (s : State) (i : SegId) : StoresKept s (writeThreshold n s i) := by
  rw [writeThreshold_eq]
  exact (storesKept_updSeg i (f := fun c => { c with glareThreshold := n }) (fun _ h => h) s).trans (.of_layout rfl rfl rfl)

theorem storesKept_glareSet (m : SegMask) (n : Nat) (s : State) : StoresKept s (glareSet m n s).state := by
  unfold glareSet
  dsimp only
  split
  · exact .refl s
  · exact .foldl (storesKept_writeThreshold _) _ s

/-- The entries that a removal leaves name no removed segment (R9). -/
theorem storesKept_removedUninformed (i : SegId) (s : State) : StoresKept s (removedUninformed i s) := by
  refine ⟨rfl, rfl, fun h => ?_, fun h e he => ?_⟩
  · have htaken : EntriesLaw (configuredMask s) (takeOut (fun _ => true) (maskOf i) s.table.entries) :=
      entriesLaw_takeOut h (fun _ => true) (maskOf i)
    refine htaken.mono (d := configuredMask (removedUninformed i s)) fun e he j hj hconf => ?_
    have hne : i ≠ j := by
      obtain ⟨e₀, _, ⟨hf, _⟩ | ⟨_, _, rfl⟩⟩ := mem_takeOut.mp he
      · cases hf
      · rintro rfl
        simp at hj
    rw [maskHas_configuredMask] at hconf ⊢
    exact (congrArg SegConfig.configured ((removedUntabled_segCfg i s j).trans (if_neg hne))).trans hconf
  · obtain ⟨e₀, he₀, hask, _⟩ := within_of_mem_takeOut he
    exact Ahead.of_ask (h e₀ he₀) hask

theorem storesKept_segRemove (n : Nat) (s : State) : StoresKept s (segRemove n s).state := by
  have hremove : ∀ i, StoresKept s (removeSegment i s) := fun i => by
    have hinformed : StoresKept (removedUninformed i s) (removedInformed i s) :=
      .of_quiet (Quiet.foldl quiet_informSegment _ _)
    rw [removeSegment_informed]
    exact ((storesKept_removedUninformed i s).trans hinformed).trans (.of_layout rfl rfl rfl)
  unfold segRemove
  repeat' split
  case h_2.isFalse.isFalse => exact hremove _
  all_goals exact .refl s

/-! ## Calibration, passes, the bus and the warm restart -/

theorem storesKept_testFadeWait (s : State) : StoresKept s (testFadeWait s) := by
  unfold testFadeWait
  repeat' split
  all_goals exact .of_layout rfl rfl rfl

theorem storesKept_fadeStep (g : GroupId) (s : State) : StoresKept s (fadeStep g s) := by
  have hlum : ∀ l, StoresKept s (s.setLum l) := fun _ => .of_layout rfl rfl rfl
  unfold fadeStep
  dsimp only
  split
  · exact (hlum _).trans (storesKept_testFadeWait _)
  · exact hlum _

theorem storesKept_judgePoll (f : SensorId → ReplyOutcome) (s : State) : StoresKept s (judgePoll f s) := by
  unfold judgePoll
  dsimp only
  repeat' split
  all_goals exact .of_layout rfl rfl rfl

theorem storesKept_couplingWrite (k d n : Nat) (ps : List (Nat × Nat)) (s : State) :
    StoresKept s (couplingWrite k d n ps s).state := by
  unfold couplingWrite
  dsimp only
  repeat' split
  all_goals exact .of_layout rfl rfl rfl

theorem storesKept_endRun (r : CalRun) (res : CalResult) (s : State) : StoresKept s (endRun r res s) := by
  obtain ⟨_, hlayout, _, _, htable, henergy, _⟩ := endRun_frame r res s
  exact .of_layout htable henergy hlayout

theorem storesKept_abortRun (why : AbortReason) (s : State) : StoresKept s (abortRun why s) := by
  unfold abortRun
  split
  · exact .refl s
  · exact storesKept_endRun ..

theorem storesKept_busFault (s : State) : StoresKept s (busFault s) := by
  cases h : s.lum.link.faultReported with
  | true => rw [busFault, if_pos h]; exact .refl s
  | false =>
    obtain ⟨_, _, hside⟩ := faulted_frame s
    rw [busFault_eq h]
    exact (StoresKept.of_linkSide hside).trans (storesKept_abortRun .link _)

theorem storesKept_passSegment (i : SegId) (s : State) : StoresKept s (passSegment i s) :=
  .of_quiet ((onCtrl_passed i s).quiet.trans (quiet_recompose i _))

theorem storesKept_beginRun (m : SegMask) (q : CalParams) (clamped : Bool) (s : State) :
    StoresKept s (beginRun m q clamped s) := by
  have hset : ∀ x, StoresKept s (s.setCal x) := fun _ => .of_layout rfl rfl rfl
  exact ((hset _).trans (.of_quiet (remoded_entering m _).quiet)).trans (storesKept_testFadeWait _)

theorem storesKept_calStart (mask : SegMask) (base high low half su opt : Nat) (s : State) :
    StoresKept s (calStart mask base high low half su opt s).state := by
  unfold calStart
  dsimp only
  repeat' split
  all_goals first | exact .refl s | exact storesKept_beginRun _ _ _ s

theorem storesKept_setRun (r : CalRun) (s : State) : StoresKept s (setRun r s) := .of_layout rfl rfl rfl

theorem storesKept_enterPhase (f : Phase) (probe cycle : Nat) (r : CalRun) (s : State) :
    StoresKept s (enterPhase f probe cycle r s) := by
  unfold enterPhase
  dsimp only
  exact ((storesKept_setRun _ s).trans (.of_quiet (Quiet.foldl (fun u i => quiet_recompose i u) _ _))).trans
    (storesKept_testFadeWait _)

theorem storesKept_commit (r : CalRun) (s : State) : StoresKept s (commit r s) := by
  have hset : ∀ x, StoresKept s (s.setCoupling x) := fun _ => .of_layout rfl rfl rfl
  exact (hset _).trans (storesKept_endRun ..)

theorem storesKept_nextPhase (r : CalRun) (s : State) : StoresKept s (nextPhase r s) := by
  unfold nextPhase
  dsimp only
  repeat' split
  all_goals first | exact storesKept_enterPhase _ _ _ _ s | exact storesKept_commit _ s

theorem storesKept_calStageTimerExpiry (s : State) : StoresKept s (calStageTimerExpiry s) := by
  unfold calStageTimerExpiry
  split
  · exact .refl s
  · split
    · unfold stageExpiry
      split
      · exact .refl s
      · exact storesKept_setRun _ s
      · exact storesKept_nextPhase _ s
      · exact storesKept_nextPhase _ s
    · exact .refl s

/-- The warm restart empties the table and leaves uptime and accumulators (R15). -/
theorem storesKept_warmRestart (p : PortId) (s : State) : StoresKept s (warmRestart p s) :=
  ⟨rfl, rfl, fun _ => ⟨Nat.zero_le _, .nil, nofun⟩, fun _ => nofun⟩

theorem storesKept_restart (p : PortId) (s : State) : StoresKept s (restart p s) := by
  have hplaced : ∀ r st l, StoresKept s (placeReply p r st l s) := fun _ _ _ => .of_layout rfl rfl rfl
  unfold restart
  split
  · exact .refl s
  · exact hplaced _ _ _
  · exact hplaced _ _ _
  · exact (hplaced _ _ _).trans (storesKept_warmRestart p _)

/-! ## Expiry (R79) -/

theorem storesKept_departDue (s : State) : StoresKept s (departDue s) := by
  have hports : ∀ x, StoresKept s (s.setPorts x) := fun _ => .of_layout rfl rfl rfl
  exact (hports _).trans (storesKept_filter (fun e => !dueAt s.table.uptime e) none _ _)

/-- The entries due at the uptime leave, and nothing else of the table changes (R79). -/
theorem departDue_table (s : State) :
    (departDue s).table = { s.table with entries := s.table.entries.filter fun e => !dueAt s.table.uptime e } := by
  obtain ⟨_, _, htable, _⟩ := tableChange_frame (s.table.entries.filter fun e => !dueAt s.table.uptime e) none
    ((s.table.entries.filter (dueAt s.table.uptime)).foldl (fun m e => m ||| e.mask) 0)
    (s.setPorts ((s.table.entries.filter (dueAt s.table.uptime)).foldl raiseExpiry s.ports))
  exact htable

/-- After a second's tick every expiry lies ahead: an entry whose expiry has come has left (R77, R79). -/
theorem expiryLaw_tick {s : State} (h : ExpiryLaw s) :
    ExpiryLaw (departDue (s.setTable { s.table with uptime := s.table.uptime + 1 })) := by
  intro e he x hx
  rw [departDue_table] at he ⊢
  obtain ⟨he, hdue⟩ := List.mem_filter.mp he
  have hlate : s.table.uptime < x := h e he x hx
  have hne : x ≠ s.table.uptime + 1 := fun hx' => by
    rw [Option.mem_def, hx'] at hx
    simp [dueAt, hx] at hdue
  exact Nat.lt_of_le_of_ne hlate hne.symm

/-! ## Energy (R106, R107, R110) -/

/-- Every accumulator record is kept or cleared. -/
def EnergyCleared (s t : State) : Prop := ∀ i : SegId, t.energy[i] = s.energy[i] ∨ t.energy[i] = ⟨0, 0⟩

theorem EnergyCleared.energyLaw {s t : State} (h : EnergyCleared s t) (hs : EnergyLaw s) : EnergyLaw t := fun i => by
  rcases h i with h | h
  · rw [h]; exact hs i
  · rw [h]; decide

theorem energyCleared_energyClear (m : SegMask) (s : State) : EnergyCleared s (energyClear m s).state := by
  intro i
  unfold energyClear
  dsimp only
  split
  · exact .inl rfl
  · have hi : (Vector.ofFn fun i => if maskHas (m &&& configuredMask s) i then ⟨0, 0⟩ else s.energy[i])[i] =
        if maskHas (m &&& configuredMask s) i then ⟨0, 0⟩ else s.energy[i] := ofFn_get _ i
    by_cases h : maskHas (m &&& configuredMask s) i = true
    · exact .inr (hi.trans (if_pos h))
    · exact .inl (hi.trans (if_neg h))

/-- A second's energy is added under the ceiling, and the fraction stays one (R106, R107). -/
theorem tickEnergy_law (draw : Nat) {e : Energy} (h : e.wh ≤ energyCeiling) :
    e.wh ≤ (tickEnergy draw e).wh ∧ (tickEnergy draw e).wh ≤ energyCeiling ∧ (tickEnergy draw e).frac < unitsPerWh :=
  ⟨Nat.le_min.mpr ⟨h, Nat.le_add_right ..⟩, Nat.min_le_left .., Nat.mod_lt _ (by decide)⟩

theorem energyTick_law {s : State} (h : EnergyLaw s) (i : SegId) :
    s.energy[i].wh ≤ (energyTick s).energy[i].wh ∧ (energyTick s).energy[i].wh ≤ energyCeiling ∧
      (energyTick s).energy[i].frac < unitsPerWh := by
  have hi : (energyTick s).energy[i] = if configured s i then tickEnergy (segDraw s.lum i) s.energy[i] else s.energy[i] :=
    ofFn_get _ i
  obtain ⟨hwh, hfrac⟩ := h i
  rw [hi]
  split
  · exact tickEnergy_law _ hwh
  · exact ⟨Nat.le_refl _, hwh, hfrac⟩

/-! ## Every command -/

/-- All that a command can do to the entries, the uptime and the accumulators: keep them with their laws, a power-on reset,
the tick of the uptime, the tick of the energy, or ENERGY_CLEAR. -/
theorem exec_stores {c : Instr} {s t : State} (he : exec c s = .next t) :
    StoresKept s t ∨
    (∃ x y z, c = .powerOnReset x y z ∧ t = powerOn x y z s) ∨
    (c = .uptimeTick ∧ t = departDue (s.setTable { s.table with uptime := nextUptime s.table.uptime })) ∨
    (c = .energyTick ∧ t = energyTick s) ∨
    ∃ p, c = .energyClear p ∧ t.table = s.table ∧ t.layout = s.layout ∧ EnergyCleared s t := by
  have hr := StoresKept.refl s
  have hserve : ∀ {p : PortId} {k : Kind} {owner : Body → State → Response},
      (∀ b, StoresKept s (owner b s).state) → StoresKept s (serve p k owner s) := fun ho =>
    serve_keeps (P := StoresKept s) (fun u x hu => hu.trans (.of_layout rfl rfl rfl)) hr ho
  have side : ∀ {t}, LinkSide s t → StoresKept s t := StoresKept.of_linkSide
  cases c
  all_goals injection he with he; subst he
  case powerOnReset => exact .inr (.inl ⟨_, _, _, rfl, rfl⟩)
  case uptimeTick => exact .inr (.inr (.inl ⟨rfl, rfl⟩))
  case energyTick => exact .inr (.inr (.inr (.inl ⟨rfl, rfl⟩)))
  case energyClear p =>
    refine .inr (.inr (.inr (.inr ⟨p, rfl, ?_⟩)))
    refine serve_keeps (P := fun t => t.table = s.table ∧ t.layout = s.layout ∧ EnergyCleared s t) (fun _ _ h => h)
      ⟨rfl, rfl, fun _ => .inl rfl⟩ fun b => ?_
    split
    · exact ⟨by unfold energyClear; dsimp only; split <;> rfl, by unfold energyClear; dsimp only; split <;> rfl,
        energyCleared_energyClear _ s⟩
    · exact ⟨rfl, rfl, fun _ => .inl rfl⟩
  all_goals left
  case selectAssert | selectRelease | roundTimerExpiry | turnaroundEnd | queryFrameCompletion => exact .of_layout rfl rfl rfl
  case nop | ident | causesRead | queryResult | calResultRead | eventsRead => exact hserve fun _ => .of_layout rfl rfl rfl
  case layoutLock => exact hserve fun _ => .of_same rfl rfl fun _ h => h
  case causesClear | enablesWrite => refine hserve fun b => ?_; split <;> exact .of_layout rfl rfl rfl
  case settleSet => refine hserve fun b => ?_; split; exacts [⟨rfl, rfl, fun h => h, fun h => h⟩, hr]
  case segRead => refine hserve fun b => ?_; split; exacts [by unfold segRead; split <;> exact hr, hr]
  case sensorRead => refine hserve fun b => ?_; split; exacts [by unfold sensorRead; split <;> exact hr, hr]
  case tableRead => refine hserve fun b => ?_; split; exacts [by unfold tableRead; split <;> exact hr, hr]
  case couplingRead => refine hserve fun b => ?_; split; exacts [by unfold couplingRead; split <;> exact hr, hr]
  case energyRead => refine hserve fun b => ?_; split; exacts [by unfold energyRead; split <;> exact hr, hr]
  case segDefine => refine hserve fun b => ?_; split; exacts [storesKept_segDefine _ _ _ _ s, hr]
  case segRemove => refine hserve fun b => ?_; split; exacts [storesKept_segRemove _ s, hr]
  case segTune => refine hserve fun b => ?_; split; exacts [storesKept_segTune _ _ s, hr]
  case bandSet => refine hserve fun b => ?_; split; exacts [storesKept_bandSet _ _ _ s, hr]
  case glareSet => refine hserve fun b => ?_; split; exacts [storesKept_glareSet _ _ s, hr]
  case couplingWrite => refine hserve fun b => ?_; split; exacts [storesKept_couplingWrite _ _ _ _ s, hr]
  case overrideSet => refine hserve fun b => ?_; split; exacts [storesKept_overrideSet _ s _ _, hr]
  case overrideCancel => refine hserve fun b => ?_; split; exacts [storesKept_overrideCancel _ s, hr]
  case lockSet => refine hserve fun b => ?_; split; exacts [storesKept_lockSet _ s _, hr]
  case lockRelease => refine hserve fun b => ?_; split; exacts [storesKept_lockRelease _ s, hr]
  case holdSet => refine hserve fun b => ?_; split; exacts [storesKept_holdSet _ s _, hr]
  case holdSettled => refine hserve fun b => ?_; split; exacts [storesKept_holdSettled _ s, hr]
  case capSet => refine hserve fun b => ?_; split; exacts [storesKept_capSet _ s _ _ _, hr]
  case capCancel => refine hserve fun b => ?_; split; exacts [storesKept_capCancel s _, hr]
  case calStart => refine hserve fun b => ?_; split; exacts [storesKept_calStart _ _ _ _ _ _ _ s, hr]
  case calAbort => exact hserve fun _ => storesKept_abortRun _ s
  case linkPause => exact hserve fun _ => side (linkSide_linkPause s)
  case linkResume => exact hserve fun _ => side (linkSide_linkResume s)
  case groupClearFail => refine hserve fun b => ?_; split; exacts [side (linkSide_groupClearFail _ s), hr]
  case powerSet => refine hserve fun b => ?_; split; exacts [side (linkSide_powerSet _ _ s), hr]
  case queryDriver => refine hserve fun b => ?_; split; exacts [side (linkSide_queryDriver _ _ _ s), hr]
  case restart => exact storesKept_restart _ s
  case sensorReply | replyWindowTimeout | interByteGap => exact storesKept_judgePoll _ s
  case pass => split; exacts [storesKept_passSegment _ s, hr]
  case fadeStep => exact storesKept_fadeStep _ s
  case entryExpiry => exact storesKept_departDue s
  case setLevelCompletion => exact side (linkSide_setLevelDone s)
  case answerWindowEnd => exact side (linkSide_windowEnd _ s)
  case busFault => exact storesKept_busFault s
  case busRestoration => split <;> exact .of_layout rfl rfl rfl
  case calStageTimerExpiry => exact storesKept_calStageTimerExpiry s

/-- Settles O9: what a request appends stands beside what it leaves, a removal takes its segment out of every entry, and no
other command but the resets, which empty the table, reaches entries or removes a segment. -/
theorem tableLawKept : Obligations.TableLawKept := by
  unfold Obligations.TableLawKept
  refine step_keeps (fun _ _ h => h) fun c s t h he => ?_
  rcases exec_stores he with k | ⟨x, y, z, _, rfl⟩ | ⟨_, rfl⟩ | ⟨_, rfl⟩ | ⟨_, _, htable, hlayout, _⟩
  · exact k.table h
  · exact (jointLaw_powerOn x y z s).2.1
  · exact (storesKept_departDue _).table h
  · exact h
  · exact tableLaw_congr h (by rw [htable]) fun i => by rw [configured, segCfg, hlayout, configured, segCfg]

/-! ## Expiries, uptime and energy over every step -/

/-- A step idles on an empty queue, or is the front command on the state with the queue's rest. -/
theorem step_cases {s t : State} (h : step s = .next t) :
    t = s ∨ ∃ c rest, s.pending.head? = some c ∧ exec c { s with pending := rest } = .next t := by
  unfold step at h
  split at h
  · injection h with h; exact .inl h.symm
  · next c rest hp => exact .inr ⟨c, rest, by rw [hp]; rfl, h⟩

/-- While the uptime is short of its end, every command keeps the expiries ahead, and all but the power-on reset let the
uptime stand or go on. -/
theorem uptime_exec {c : Instr} {s t : State} (hend : s.table.uptime < 4294967295) (he : exec c s = .next t) :
    (ExpiryLaw s → ExpiryLaw t) ∧ ((∀ x y z, c ≠ .powerOnReset x y z) → s.table.uptime ≤ t.table.uptime) := by
  rcases exec_stores he with k | ⟨x, y, z, rfl, rfl⟩ | ⟨_, rfl⟩ | ⟨_, rfl⟩ | ⟨_, _, htable, _⟩
  · exact ⟨k.expiry, fun _ => k.uptime.ge⟩
  · exact ⟨fun _ => nofun, fun h => absurd rfl (h x y z)⟩
  · rw [show nextUptime s.table.uptime = s.table.uptime + 1 from if_pos hend]
    refine ⟨expiryLaw_tick, fun _ => ?_⟩
    rw [departDue_table]
    exact Nat.le_succ _
  · exact ⟨fun h => h, fun _ => Nat.le_refl _⟩
  · unfold ExpiryLaw
    rw [htable]
    exact ⟨fun h => h, fun _ => Nat.le_refl _⟩

/-- Every command keeps accumulators and fractions in range, and all but the power-on reset and ENERGY_CLEAR let them grow. -/
theorem energy_exec {c : Instr} {s t : State} (h : EnergyLaw s) (he : exec c s = .next t) :
    EnergyLaw t ∧ ((∀ x y z, c ≠ .powerOnReset x y z) → (∀ p, c ≠ .energyClear p) →
      ∀ i : SegId, s.energy[i].wh ≤ t.energy[i].wh) := by
  rcases exec_stores he with k | ⟨x, y, z, rfl, rfl⟩ | ⟨_, rfl⟩ | ⟨_, rfl⟩ | ⟨p, rfl, _, _, hclear⟩
  · unfold EnergyLaw
    rw [k.energy]
    exact ⟨h, fun _ _ _ => Nat.le_refl _⟩
  · refine ⟨fun i => ?_, fun h => absurd rfl (h x y z)⟩
    have hi : (powerOn x y z s).energy[i] = ⟨0, 0⟩ := by simp [powerOn, State.initial]
    rw [hi]; decide
  · unfold EnergyLaw
    rw [(storesKept_departDue _).energy]
    exact ⟨h, fun _ _ _ => Nat.le_refl _⟩
  · exact ⟨fun i => (energyTick_law h i).2, fun _ _ i => (energyTick_law h i).1⟩
  · exact ⟨hclear.energyLaw h, fun _ h => absurd rfl (h p)⟩

/-- Settles O13: the tick is the only command that moves the uptime on, and lets the entries due at the new second leave; the
energy tick adds under the ceiling, and what lowers an accumulator clears it. -/
theorem uptimeExpiriesAndEnergy : Obligations.UptimeExpiriesAndEnergy := by
  unfold Obligations.UptimeExpiriesAndEnergy
  refine ⟨fun s t hend h => ?_, fun s t hs h => ?_⟩
  · rcases step_cases h with rfl | ⟨c, rest, hc, he⟩
    · exact ⟨fun h => h, fun _ => Nat.le_refl _⟩
    · obtain ⟨hexp, hup⟩ := uptime_exec (s := { s with pending := rest }) hend he
      exact ⟨hexp, fun hpower => hup fun x y z hx => hpower x y z (by rw [hc, hx])⟩
  · rcases step_cases h with rfl | ⟨c, rest, hc, he⟩
    · exact ⟨hs, fun _ _ _ => Nat.le_refl _⟩
    · obtain ⟨hlaw, hgrow⟩ := energy_exec (s := { s with pending := rest }) hs he
      exact ⟨hlaw, fun hpower hclear => hgrow (fun x y z hx => hpower x y z (by rw [hc, hx])) fun p hp =>
        hclear p (by rw [hc, hp])⟩

end Sys2Proof.Proofs
end

section
/-! PROOFS. The ranges of the levels (R96): the law record by record, and what recomposition, changes of mode, the end of a run
and table changes make of it. -/

namespace Sys2Proof.Proofs

open Sys2Proof Sys2Proof.Machine Sys2Proof.Safety Sys2Proof.Laws

/-! ## The law record by record -/

/-- The outputs and snapshots of a controller record lie within 0..1000 (R51, R67). -/
def CtrlLevels (c : Ctrl) : Prop := ∀ b : BandId, c.outputs[b].value ≤ 1000 ∧ c.startSnap[b] ≤ 1000 ∧ c.heldSnap[b] ≤ 1000

/-- The levels of a configuration record lie within 0..1000 (R1). -/
def ConfigLevels (c : SegConfig) : Prop := c.fallback ≤ 1000 ∧ ∀ b : BandId, c.bands[b].lmin ≤ 1000 ∧ c.bands[b].lmax ≤ 1000

/-- The levels that a run's phases assign lie within 0..1000 (R137). -/
def ParamLevels (q : CalParams) : Prop := q.base ≤ 1000 ∧ q.highEff ≤ 1000 ∧ q.low ≤ 1000

/-- The levels of a run lie within 0..1000 (R137). -/
def RunLevels (r : CalRun) : Prop := ParamLevels r.params ∧ ∀ g : GroupId, r.assigned[g] ≤ 1000

/-- The law of one group's record (R96). -/
def GroupLaw (r : Group) : Prop := r.present ≤ 1000 ∧ r.demanded ≤ 1000 ∧ (r.timer = false → r.present = r.demanded)

/-- The law of the levels, store by store. -/
structure Leveled (s : State) : Prop where
  ctrls : ∀ i : SegId, CtrlLevels s.ctrls[i]
  configs : ∀ i : SegId, ConfigLevels (segCfg s i)
  entries : ∀ e ∈ s.table.entries, askInRange e.ask = true
  run : ∀ r ∈ s.cal.run, RunLevels r
  groups : GroupsLaw s.lum

theorem levelsLaw_iff {s : State} : LevelsLaw s ↔ Leveled s := by
  constructor
  · rintro ⟨⟨hctrls, hconfigs, hentries, hrun⟩, hgroups⟩
    refine ⟨hctrls, hconfigs, hentries, fun r hr => ?_, hgroups⟩
    obtain ⟨hbase, hhigh, hlow, hassigned⟩ := hrun r hr
    exact ⟨⟨hbase, hhigh, hlow⟩, hassigned⟩
  · rintro ⟨hctrls, hconfigs, hentries, hrun, hgroups⟩
    refine ⟨⟨hctrls, hconfigs, hentries, fun r hr => ?_⟩, hgroups⟩
    obtain ⟨⟨hbase, hhigh, hlow⟩, hassigned⟩ := hrun r hr
    exact ⟨hbase, hhigh, hlow, hassigned⟩

/-- A neutral change keeps the law where it keeps the groups'. -/
theorem Leveled.of_neutral {s t : State} (hn : Neutral s t) (hg : GroupsLaw t.lum) (h : Leveled s) : Leveled t where
  ctrls := by rw [hn.ctrls]; exact h.ctrls
  configs := fun i => by rw [segCfg, hn.segs]; exact h.configs i
  entries := by rw [hn.entries]; exact h.entries
  run := fun r hr => by
    have hk := hn.run
    rw [Option.mem_def.mp hr] at hk
    obtain ⟨r₀, hr₀, hkey⟩ := Option.map_eq_some_iff.mp hk.symm
    obtain ⟨_, _, hassigned, hparams⟩ : r₀.segments = r.segments ∧ r₀.groups = r.groups ∧ r₀.assigned = r.assigned ∧
        r₀.params = r.params := by simpa [runKey] using hkey
    have hr' := h.run r₀ hr₀
    rwa [RunLevels, hassigned, hparams] at hr'
  groups := hg

/-- A change of controllers, groups and event sets keeps the law where it keeps those of controllers and groups. -/
theorem Leveled.of_quiet {s t : State} (hq : Quiet s t) (hc : ∀ i : SegId, CtrlLevels t.ctrls[i]) (hg : GroupsLaw t.lum)
    (h : Leveled s) : Leveled t where
  ctrls := hc
  configs := fun i => by rw [segCfg, hq.layout]; exact h.configs i
  entries := by rw [hq.table]; exact h.entries
  run := by rw [hq.cal]; exact h.run
  groups := hg

/-! ## Groups (R96, R98, R99) -/

/-- A change of every group's record that keeps the law of each. -/
theorem groupsLaw_mapped {l l' : Lum} {f : GroupId → Group → Group} (h : GroupsLaw l)
    (e : ∀ g : GroupId, l'.groups[g] = l.groups[g].map (f g)) (hf : ∀ g, ∀ r ∈ l.groups[g], GroupLaw r → GroupLaw (f g r)) :
    GroupsLaw l' := fun g r hr => by
  rw [e, Option.mem_def] at hr
  obtain ⟨r₀, hr₀, rfl⟩ := Option.map_eq_some_iff.mp hr
  exact hf g r₀ hr₀ (h g r₀ hr₀)

/-- A change of one group's record that keeps its law. -/
theorem groupsLaw_updAt {l l' : Lum} {g : GroupId} {f : Group → Group} (h : GroupsLaw l)
    (e : l'.groups = updAt l.groups g (Option.map f)) (hf : ∀ r ∈ l.groups[g], GroupLaw r → GroupLaw (f r)) : GroupsLaw l' :=
  fun j r hr => by
    rw [e, updAt_get] at hr
    split at hr
    · next hj =>
      subst hj
      obtain ⟨r₀, hr₀, rfl⟩ := Option.map_eq_some_iff.mp hr
      exact hf r₀ hr₀ (h g r₀ hr₀)
    · exact h j r hr

/-- A step goes no further than the demanded level (R100). -/
theorem oneStep_le {z : StepSizes} {p n top : Nat} (hp : p ≤ top) (hn : n ≤ top) : oneStep z p n ≤ top := by
  unfold oneStep; split <;> omega

/-- A group at rest that is handed another demand than its level takes a step and runs its timer; any other takes the demand
alone (R98). -/
theorem groupLaw_demandedGroup {z : StepSizes} {g : GroupId} {n : Nat} {k : Link} {r : Group} (hn : n ≤ 1000)
    (h : GroupLaw r) : GroupLaw (demandedGroup z g n k r) := by
  obtain ⟨hp, hd, hrest⟩ := h
  unfold demandedGroup
  split
  · exact ⟨oneStep_le hp hn, hn, fun ht => by cases ht⟩
  · next hs =>
    refine ⟨hp, hn, fun ht => ?_⟩
    have ht : r.timer = false := ht
    have hstay : r.demanded = n ∨ r.present = n := by simpa [stepsAtOnce, ht, or_iff_not_imp_left] using hs
    rcases hstay with hstay | hstay
    · exact (hrest ht).trans hstay
    · exact hstay

theorem groupsLaw_demand {z : StepSizes} {g : GroupId} {n : Nat} {l : Lum} (hn : n ≤ 1000) (h : GroupsLaw l) :
    GroupsLaw (demand z g n l) :=
  groupsLaw_updAt h (demand_groups z g n l) fun _ _ => groupLaw_demandedGroup hn

/-- A step timer that runs out stops at the demanded level and otherwise goes on with a step toward it (R99). -/
theorem groupsLaw_fadeExpiry (z : StepSizes) (g : GroupId) {l : Lum} (h : GroupsLaw l) : GroupsLaw (fadeExpiry z g l).1 := by
  unfold fadeExpiry
  split
  · exact h
  · next r hr =>
    split
    · exact h
    · next ht =>
      have ht : r.timer = true := by simpa using ht
      split
      · next hd =>
        refine groupsLaw_updAt h (updGroup_groups ..) fun r' hr' ⟨hp, hd', _⟩ => ?_
        cases hr.symm.trans hr'
        exact ⟨hp, hd', fun _ => hd⟩
      · refine groupsLaw_updAt h (handOver_groups ..) fun r' hr' ⟨hp, hd, _⟩ => ?_
        cases hr.symm.trans hr'
        refine ⟨?_, hd, fun h => by cases ht.symm.trans h⟩
        show stepLevel z r.present r.demanded ≤ 1000
        rw [stepLevel_eq]
        exact oneStep_le hp hd

/-- A group comes into existence at rest at its level (R97). -/
theorem groupsLaw_createGroup {level : Nat} (hl : level ≤ 1000) {l : Lum} (g : GroupId) (h : GroupsLaw l) :
    GroupsLaw (createGroup level l g) := fun j r hr => by
  rw [createGroup_groups, set_get] at hr
  split at hr
  · cases hr; exact ⟨hl, hl, fun _ => rfl⟩
  · exact h j r hr

theorem groupsLaw_setUnsent (b : Bool) {l : Lum} (h : GroupsLaw l) : GroupsLaw (setUnsent b l) :=
  groupsLaw_mapped (f := fun _ r => { r with unsent := b }) h (fun g => by simp [setUnsent]) fun _ _ _ h => h

theorem presentOf_le {l : Lum} (h : GroupsLaw l) (g : GroupId) : presentOf l g ≤ 1000 := by
  unfold presentOf
  cases hr : l.groups[g] with
  | none => exact Nat.zero_le _
  | some r => exact (h g r hr).1

/-! ## Composition and modes (R54, R57, R58, R68) -/

/-- A level found among the entries by an ask is one of an entry. -/
theorem level_of_entry {t : List Entry} (h : ∀ e ∈ t, askInRange e.ask = true) (i : SegId) {f : Ask → Option Nat}
    (hf : ∀ a, askInRange a = true → ∀ n ∈ f a, n ≤ 1000) : ((covering t i).findSome? f).getD 0 ≤ 1000 ∧
      ∀ n, (covering t i).findSome? f = some n → n ≤ 1000 := by
  have hsome : ∀ n, (covering t i).findSome? f = some n → n ≤ 1000 := fun n hn => by
    obtain ⟨a, ha, hfa⟩ := List.exists_of_findSome?_eq_some hn
    obtain ⟨e, he, rfl⟩ := List.mem_map.mp ha
    exact hf _ (h e (List.mem_filter.mp he).1) n hfa
  refine ⟨?_, hsome⟩
  cases hn : (covering t i).findSome? f with
  | none => exact Nat.zero_le _
  | some n => exact hsome n hn

theorem lockLevel?_le (a : Ask) (h : askInRange a = true) : ∀ n ∈ lockLevel? a, n ≤ 1000 := by
  cases a <;> simp_all [askInRange, lockLevel?]

theorem overrideLevel?_le (a : Ask) (h : askInRange a = true) : ∀ n ∈ overrideLevel? a, n ≤ 1000 := by
  cases a <;> simp_all [askInRange, overrideLevel?]

theorem baseLevel_le {cfg : SegConfig} {c : Ctrl} (hcfg : ConfigLevels cfg) (hc : CtrlLevels c) (b : BandId) :
    baseLevel cfg c b ≤ 1000 := by
  obtain ⟨hout, hstart, hheld⟩ := hc b
  unfold baseLevel
  split
  · exact hout
  · exact hcfg.1
  · exact hstart
  · exact hheld
  all_goals exact Nat.zero_le _

theorem capped_le {cap : Option Nat} {base : Nat} : capped cap base ≤ base := by
  unfold capped
  split
  · exact Nat.le_refl _
  · exact Nat.min_le_right ..

/-- Composition demands levels within 0..1000 (R68). -/
theorem demandLevel_le {s : State} (h : Leveled s) (i : SegId) (b : BandId) : demandLevel s i b ≤ 1000 := by
  have hover : (overrideOver s.table.entries i).getD (baseLevel (segCfg s i) s.ctrls[i] b) ≤ 1000 := by
    rw [overrideOver_eq]
    obtain ⟨_, hsome⟩ := level_of_entry h.entries i overrideLevel?_le
    cases hn : (covering s.table.entries i).findSome? overrideLevel? with
    | none => exact baseLevel_le (h.configs i) (h.ctrls i) b
    | some n => exact hsome n hn
  unfold demandLevel
  split
  · cases hr : s.cal.run with
    | none => exact Nat.zero_le _
    | some r => exact (h.run r hr).2 _
  · rw [lockOver_eq]; exact (level_of_entry h.entries i lockLevel?_le).1
  · exact Nat.zero_le _
  all_goals exact capped_le.trans hover

theorem leveled_recompose {s : State} (h : Leveled s) (i : SegId) : Leveled (recompose i s) :=
  h.of_quiet (quiet_recompose i s) h.ctrls
    (List.foldlRecOn _ _ h.groups fun _ hl b _ => groupsLaw_demand (demandLevel_le h i b) hl)

theorem leveled_updCtrl {s : State} (h : Leveled s) {i : SegId} {f : Ctrl → Ctrl} (hf : CtrlLevels (f s.ctrls[i])) :
    Leveled (updCtrl i f s) :=
  h.of_quiet (quiet_updCtrl i f s) (fun j => by
    rw [updCtrl_ctrls, updAt_get]
    split
    · next hj => subst hj; exact hf
    · exact h.ctrls j) h.groups

theorem leveled_updSeg {s : State} (h : Leveled s) {i : SegId} {f : SegConfig → SegConfig} (hf : ConfigLevels (f (segCfg s i))) :
    Leveled (updSeg i f s) where
  ctrls := h.ctrls
  configs := fun j => by
    have hcfg : segCfg (updSeg i f s) j = if i = j then f (segCfg s j) else segCfg s j := updAt_get ..
    rw [hcfg]
    split
    · next hj => subst hj; exact hf
    · exact h.configs j
  entries := h.entries
  run := h.run
  groups := h.groups

/-- Every mode is entered with the record as it is, but for START's snapshot of the present levels and HELD's by the mode left
(R54, R57, R58). -/
theorem ctrlLevels_enterMode (m : Mode) {cfg : SegConfig} {snap : Vector Nat 3} {c : Ctrl} (hcfg : ConfigLevels cfg)
    (hsnap : ∀ b : BandId, snap[b] ≤ 1000) (hc : CtrlLevels c) : CtrlLevels (enterMode m cfg snap c) := by
  cases m with
  | start =>
    refine fun b => ⟨?_, hsnap b, (hc b).2.2⟩
    have hout : (enterMode .start cfg snap c).outputs[b].value = c.outputs[b].value := by simp [enterMode, enterStart, invalidate]
    rw [hout]; exact (hc b).1
  | held =>
    refine fun b => ⟨(hc b).1, (hc b).2.1, ?_⟩
    show (heldFrom cfg snap c)[b] ≤ 1000
    unfold heldFrom
    split
    · exact (hc b).2.1
    · rw [ofFn_get]; exact (hc b).1
    · rw [perBand, ofFn_get]
      split
      · exact hcfg.1
      · exact Nat.zero_le _
    all_goals exact hsnap b
  | _ => exact hc

theorem leveled_changeMode {s : State} (h : Leveled s) (i : SegId) (m : Mode) : Leveled (changeMode i m s) := by
  have hsnap : ∀ b : BandId, (presentLevels s.lum i)[b] ≤ 1000 := fun b => by
    rw [presentLevels_get]; exact presentOf_le h.groups _
  have hrec := leveled_updCtrl h (ctrlLevels_enterMode m (h.configs i) hsnap (h.ctrls i))
  unfold changeMode
  split
  · exact h
  · exact hrec.of_quiet (quiet_raiseEvent ..) hrec.ctrls hrec.groups

/-- Where the test holds, the segment is given its mode and recomposed. -/
theorem leveled_remode (c : State → SegId → Bool) (m : State → SegId → Mode) {s : State} (h : Leveled s) (i : SegId) :
    Leveled (remode c m s i) := by
  unfold remode
  split
  · exact leveled_recompose (leveled_changeMode h i _) i
  · exact h

theorem leveled_foldl_remode (c : State → SegId → Bool) (m : State → SegId → Mode) (l : List SegId) {s : State}
    (h : Leveled s) : Leveled (l.foldl (remode c m) s) :=
  List.foldlRecOn _ _ h fun _ hu i _ => leveled_remode c m hu i

/-! ## The end of a run and table changes (R91, R147) -/

theorem leveled_endRun (r : CalRun) (res : CalResult) {s : State} (h : Leveled s) : Leveled (endRun r res s) := by
  have hidle : Leveled (s.setCal ⟨none, res⟩) := ⟨h.ctrls, h.configs, h.entries, nofun, h.groups⟩
  have hfin : Leveled ((maskSegs r.segments).foldl leaveCalibrating (s.setCal ⟨none, res⟩)) := by
    rw [leaveCalibrating_eq_remode]; exact leveled_foldl_remode _ _ _ hidle
  exact ⟨hfin.ctrls, hfin.configs, hfin.entries, hfin.run, hfin.groups⟩

theorem leveled_abortRun (why : AbortReason) {s : State} (h : Leveled s) : Leveled (abortRun why s) := by
  unfold abortRun
  split
  · exact h
  · exact leveled_endRun _ _ h

/-- A table change whose entries ask for levels in range. -/
theorem leveled_tableChange {entries : List Entry} {s : State} (h : Leveled s)
    (he : ∀ e ∈ entries, askInRange e.ask = true) (inserted : Option Entry) (informed : SegMask) :
    Leveled (tableChange entries inserted informed s) := by
  obtain ⟨u, hchange, hu⟩ := tableChange_cases entries inserted informed s
  have hset : Leveled (setEntries entries s) := ⟨h.ctrls, h.configs, he, h.run, h.groups⟩
  rw [hchange, informSegment_eq_remode]
  refine leveled_foldl_remode _ _ _ ?_
  rcases hu with ⟨rfl, _⟩ | ⟨r, res, _, rfl⟩
  · exact hset
  · exact leveled_endRun r res hset

end Sys2Proof.Proofs
end

section
/-! PROOFS. The ranges of the levels (R96) over every command and every step. -/

namespace Sys2Proof.Proofs

open Sys2Proof Sys2Proof.Machine Sys2Proof.Safety Sys2Proof.Laws

/-! ## Commands that change no level -/

/-- A group's record changed in neither level nor timer. -/
theorem groupsLaw_updGroup {l : Lum} {g : GroupId} {f : Group → Group} (h : GroupsLaw l)
    (hf : ∀ r, (f r).present = r.present ∧ (f r).demanded = r.demanded ∧ (f r).timer = r.timer) : GroupsLaw (updGroup g f l) :=
  groupsLaw_updAt h (updGroup_groups ..) fun r _ hr => by
    obtain ⟨hp, hd, ht⟩ := hf r
    rw [GroupLaw, hp, hd, ht]
    exact hr

theorem groupsLaw_freeLink {s : State} (h : GroupsLaw s.lum) : GroupsLaw (freeLink s).lum := by
  unfold freeLink
  dsimp only
  split <;> exact h

theorem groupsLaw_handAnswer (g : GroupId) (v : AnswerValue) {s : State} (h : GroupsLaw s.lum) :
    GroupsLaw (handAnswer g v s).lum := by
  have happly : GroupsLaw (updGroup g (applyAnswer v) s.lum) :=
    groupsLaw_updGroup h fun r => by unfold applyAnswer; split <;> exact ⟨rfl, rfl, rfl⟩
  unfold handAnswer
  split
  · exact h
  · split <;> exact happly

theorem groupsLaw_windowEnd (a : Answer) {s : State} (h : GroupsLaw s.lum) : GroupsLaw (windowEnd a s).lum := by
  have happly : ∀ o, GroupsLaw (applyOutcomeToGroup o s).lum := fun o => by
    unfold applyOutcomeToGroup
    split
    · exact groupsLaw_handAnswer _ _ h
    · exact h
  unfold windowEnd
  split
  · refine groupsLaw_freeLink ?_
    dsimp only
    split
    · exact happly _
    · exact h
  · exact h

theorem groupsLaw_setLevelDone {s : State} (h : GroupsLaw s.lum) : GroupsLaw (setLevelDone s).lum := by
  unfold setLevelDone
  split
  · refine groupsLaw_freeLink ?_
    show GroupsLaw { (if _ then _ else _ : Lum) with link := _ }
    split
    · exact groupsLaw_updGroup h fun _ => ⟨rfl, rfl, rfl⟩
    · exact h
  · exact h

theorem groupsLaw_linkPause {s : State} (h : GroupsLaw s.lum) : GroupsLaw (linkPause s).state.lum := by
  unfold linkPause
  split
  · exact h
  · split
    · exact h
    · exact h
    · exact h
    · exact groupsLaw_freeLink h

theorem groupsLaw_linkResume {s : State} (h : GroupsLaw s.lum) : GroupsLaw (linkResume s).state.lum := by
  have hresume : GroupsLaw (resumeLink s.lum) := groupsLaw_setUnsent false h
  unfold linkResume
  split
  · exact h
  · exact h
  · exact hresume
  · exact hresume

theorem groupsLaw_restoreLink {l : Lum} (h : GroupsLaw l) : GroupsLaw (restoreLink l) := by
  unfold restoreLink
  dsimp only
  split
  · exact groupsLaw_setUnsent true h
  · exact groupsLaw_setUnsent false h

theorem testFadeWait_lum (s : State) : (testFadeWait s).lum = s.lum := by
  unfold testFadeWait
  split
  · rfl
  · split <;> rfl

theorem groupsLaw_fadeStep (g : GroupId) {s : State} (h : GroupsLaw s.lum) : GroupsLaw (fadeStep g s).lum := by
  have hfade := groupsLaw_fadeExpiry (stepSizes s (segOf g)) g h
  unfold fadeStep
  dsimp only
  split
  · rw [testFadeWait_lum]; exact hfade
  · exact hfade

theorem groupsLaw_judgePoll (f : SensorId → ReplyOutcome) {s : State} (h : GroupsLaw s.lum) :
    GroupsLaw (judgePoll f s).lum := by
  unfold judgePoll
  split
  · exact h
  · split
    · exact h
    · dsimp only
      split <;> exact h

theorem groupsLaw_groupClearFail (n : Nat) {s : State} (h : GroupsLaw s.lum) : GroupsLaw (groupClearFail n s).state.lum := by
  unfold groupClearFail
  split
  · exact h
  · split
    · exact groupsLaw_updGroup h fun _ => ⟨rfl, rfl, rfl⟩
    · exact h

theorem groupsLaw_powerSet (n w : Nat) {s : State} (h : GroupsLaw s.lum) : GroupsLaw (powerSet n w s).state.lum := by
  unfold powerSet
  split
  · exact h
  · split
    · exact groupsLaw_updGroup h fun _ => ⟨rfl, rfl, rfl⟩
    · exact h

/-- A query accepted changes the link alone. -/
theorem groupsLaw_queryDriver (p : PortId) (n item : Nat) {s : State} (h : GroupsLaw s.lum) :
    GroupsLaw (queryDriver p n item s).state.lum := by
  unfold queryDriver
  repeat' split
  all_goals exact h

/-- A command that leaves the joint stores alone changes levels and timers at most by a fade step (R99). -/
theorem groupsLaw_neutral {c : Instr} (hc : isNeutral c = true) {s t : State} (h : GroupsLaw s.lum)
    (he : exec c s = .next t) : GroupsLaw t.lum := by
  have hserve : ∀ {p : PortId} {k : Kind} {owner : Body → State → Response},
      (∀ b, GroupsLaw (owner b s).state.lum) → GroupsLaw (serve p k owner s).lum := fun ho =>
    serve_keeps (P := fun t => GroupsLaw t.lum) (fun _ _ hu => hu) h ho
  cases c <;> first | exact absurd hc Bool.false_ne_true | skip
  all_goals injection he with he; subst he
  case selectAssert | selectRelease | roundTimerExpiry | turnaroundEnd | energyTick | queryFrameCompletion => exact h
  case nop | ident | causesRead | queryResult | calResultRead | eventsRead | layoutLock => exact hserve fun _ => h
  case causesClear | enablesWrite | settleSet => refine hserve fun b => ?_; split <;> exact h
  case segRead => refine hserve fun b => ?_; split; exacts [by unfold segRead; split <;> exact h, h]
  case sensorRead => refine hserve fun b => ?_; split; exacts [by unfold sensorRead; split <;> exact h, h]
  case tableRead => refine hserve fun b => ?_; split; exacts [by unfold tableRead; split <;> exact h, h]
  case couplingRead => refine hserve fun b => ?_; split; exacts [by unfold couplingRead; split <;> exact h, h]
  case energyRead => refine hserve fun b => ?_; split; exacts [by unfold energyRead; split <;> exact h, h]
  case energyClear => refine hserve fun b => ?_; split; exacts [by unfold energyClear; dsimp only; split <;> exact h, h]
  case linkPause => exact hserve fun _ => groupsLaw_linkPause h
  case linkResume => exact hserve fun _ => groupsLaw_linkResume h
  case groupClearFail => refine hserve fun b => ?_; split; exacts [groupsLaw_groupClearFail _ h, h]
  case powerSet => refine hserve fun b => ?_; split; exacts [groupsLaw_powerSet _ _ h, h]
  case queryDriver => refine hserve fun b => ?_; split; exacts [groupsLaw_queryDriver _ _ _ h, h]
  case sensorReply | replyWindowTimeout | interByteGap => exact groupsLaw_judgePoll _ h
  case fadeStep => exact groupsLaw_fadeStep _ h
  case setLevelCompletion => exact groupsLaw_setLevelDone h
  case answerWindowEnd => exact groupsLaw_windowEnd _ h
  case busRestoration =>
    split
    · exact groupsLaw_restoreLink h
    · exact h

/-! ## The requests of the table (Section 5) -/

section
variable {s : State}

theorem asks_takeOut (h : ∀ e ∈ s.table.entries, askInRange e.ask = true) {sel : Entry → Bool} {m : SegMask} :
    ∀ e ∈ takeOut sel m s.table.entries, askInRange e.ask = true := fun e he => by
  obtain ⟨e₀, he₀, hask, _⟩ := within_of_mem_takeOut he
  rw [hask]
  exact h e₀ he₀

theorem asks_append {t : List Entry} (h : ∀ e ∈ t, askInRange e.ask = true) {new : Entry} (hn : askInRange new.ask = true) :
    ∀ e ∈ t ++ [new], askInRange e.ask = true := fun e he => by
  rcases List.mem_append.mp he with he | he
  · exact h e he
  · exact List.mem_singleton.mp he ▸ hn

theorem leveled_accept {t : State} (clamped : Bool) (h : Leveled t) : Leveled (accept clamped t).state := h

theorem leveled_replaceOver (h : Leveled s) {sel : Entry → Bool} {m : SegMask} {new : Entry} (hn : askInRange new.ask = true)
    (clamped : Bool) : Leveled (replaceOver sel m new clamped s).state := by
  unfold replaceOver
  dsimp only
  split
  · exact h
  · exact leveled_accept _ (leveled_tableChange h (asks_append (asks_takeOut h.entries) hn) _ _)

theorem leveled_releaseOver (h : Leveled s) (sel : Entry → Bool) (m : SegMask) (clamped : Bool) :
    Leveled (releaseOver sel m clamped s).state :=
  leveled_accept _ (leveled_tableChange h (asks_takeOut h.entries) _ _)

theorem leveled_filter (h : Leveled s) (f : Entry → Bool) (inserted : Option Entry) (informed : SegMask) :
    Leveled (tableChange (s.table.entries.filter f) inserted informed s) :=
  leveled_tableChange h (fun e he => h.entries e (List.mem_filter.mp he).1) _ _

variable (m : SegMask)

theorem leveled_overrideSet (h : Leveled s) (level minutes : Nat) : Leveled (overrideSet m level minutes s).state := by
  by_cases h0 : m &&& configuredMask s = 0
  · rw [overrideSet_notConfigured h0]; exact h
  · rw [overrideSet_eq h0]
    refine leveled_replaceOver h ?_ _
    exact decide_eq_true (Nat.min_le_right ..)

theorem leveled_lockSet (h : Leveled s) (level : Nat) : Leveled (lockSet m level s).state := by
  by_cases h0 : m &&& configuredMask s = 0
  · rw [lockSet_notConfigured h0]; exact h
  · rw [lockSet_eq h0]
    refine leveled_replaceOver h ?_ _
    exact decide_eq_true (Nat.min_le_right ..)

theorem leveled_holdSet (h : Leveled s) (seconds : Nat) : Leveled (holdSet m seconds s).state := by
  by_cases h0 : m &&& configuredMask s = 0
  · rw [holdSet_notConfigured h0]; exact h
  · rw [holdSet_eq h0]
    exact leveled_replaceOver h rfl _

theorem leveled_holdSettled (h : Leveled s) : Leveled (holdSettled m s).state := by
  by_cases h0 : m &&& configuredMask s = 0
  · rw [holdSettled_notConfigured h0]; exact h
  by_cases hheld : heldMask (m &&& configuredMask s) s.table.entries = 0
  · rw [holdSettled_unheld h0 hheld]; exact h
  by_cases hsettle : s.table.settle = 0
  · rw [holdSettled_released h0 hheld hsettle]; exact leveled_releaseOver h _ _ _
  · rw [holdSettled_replaced h0 hheld hsettle]; exact leveled_replaceOver h rfl _

theorem leveled_overrideCancel (h : Leveled s) : Leveled (overrideCancel m s).state := by
  by_cases h0 : m &&& configuredMask s = 0
  · rw [overrideCancel_notConfigured h0]; exact h
  · rw [overrideCancel_eq h0]; exact leveled_releaseOver h _ _ _

theorem leveled_lockRelease (h : Leveled s) : Leveled (lockRelease m s).state := by
  by_cases h0 : m &&& configuredMask s = 0
  · rw [lockRelease_notConfigured h0]; exact h
  · rw [lockRelease_eq h0]; exact leveled_releaseOver h _ _ _

theorem leveled_capSet (h : Leveled s) (id level minutes : Nat) : Leveled (capSet id m level minutes s).state := by
  by_cases hid : 8 ≤ id
  · rw [capSet_range hid]; exact h
  have hid := Nat.lt_of_not_le hid
  by_cases hm : m &&& configuredMask s = 0
  · rw [capSet_notConfigured hid hm]; exact h
  obtain ⟨_, _, hrange⟩ := newCap_lawful m s hid hm level minutes
  rw [capSet_eq hid hm]
  split
  · refine leveled_accept _ (leveled_tableChange h (fun e he => ?_) _ _)
    obtain ⟨e₀, he₀, rfl⟩ := List.mem_map.mp he
    split
    · exact hrange
    · exact h.entries e₀ he₀
  · split
    · exact h
    · exact leveled_accept _ (leveled_tableChange h (asks_append h.entries hrange) _ _)

theorem leveled_capCancel (h : Leveled s) (id : Nat) : Leveled (capCancel id s).state := by
  unfold capCancel
  split
  · exact h
  · split
    · exact h
    · exact leveled_accept _ (leveled_filter h _ _ _)

theorem leveled_departDue (h : Leveled s) : Leveled (departDue s) := by
  have hports : ∀ x, Leveled (s.setPorts x) := fun _ => ⟨h.ctrls, h.configs, h.entries, h.run, h.groups⟩
  exact leveled_filter (hports _) (fun e => !dueAt s.table.uptime e) none _

end

/-! ## The layout requests (Sections 1 and 4) -/

section
variable {s : State}

theorem leveled_defineSegment (h : Leveled s) (i : SegId) {cfg : SegConfig} (hcfg : ConfigLevels cfg) :
    Leveled (defineSegment i cfg s) := by
  have hctrl : CtrlLevels (definedCtrl cfg) := fun b => by
    have hfall : (perBand cfg.bandCount fun _ => cfg.fallback)[b] ≤ 1000 := by
      rw [perBand, ofFn_get]
      split
      · exact hcfg.1
      · exact Nat.zero_le _
    exact ⟨by simp [definedCtrl, Ctrl.blank], hfall, hfall⟩
  have hseg := leveled_updSeg h (i := i) (f := fun _ => cfg) hcfg
  have hset := leveled_updCtrl hseg (i := i) (f := fun _ => definedCtrl cfg) hctrl
  exact ⟨hset.ctrls, hset.configs, hset.entries, hset.run,
    List.foldlRecOn _ _ hset.groups fun _ hl g _ => groupsLaw_createGroup hcfg.1 g hl⟩

theorem configLevels_initial : ConfigLevels SegConfig.initial :=
  ⟨by decide, by decide⟩

theorem leveled_segDefine (h : Leveled s) (n b p q : Nat) : Leveled (segDefine n b p q s).state := by
  unfold segDefine
  split
  · exact h
  · split
    · split
      · exact h
      · exact leveled_defineSegment h _ configLevels_initial
    · exact h

theorem ctrlLevels_blank : CtrlLevels Ctrl.blank := fun b => by simp [Ctrl.blank]

theorem leveled_removeSegment (h : Leveled s) (i : SegId) : Leveled (removeSegment i s) := by
  have hrem : Leveled (removedUntabled i s) :=
    { ctrls := fun j => by
        rw [removedUntabled_ctrls]
        split
        · exact ctrlLevels_blank
        · exact h.ctrls j
      configs := fun j => by
        rw [removedUntabled_segCfg]
        split
        · exact h.configs j
        · exact h.configs j
      entries := h.entries
      run := h.run
      groups := fun g r hr => by
        rw [removedUntabled_groups] at hr
        split at hr
        · cases hr
        · exact h.groups g r hr }
  have hfin := leveled_tableChange hrem (asks_takeOut h.entries (sel := fun _ => true) (m := maskOf i)) none
    (takenFrom (fun _ => true) (maskOf i) s.table.entries)
  exact ⟨hfin.ctrls, hfin.configs, hfin.entries, hfin.run, hfin.groups⟩

theorem leveled_segRemove (h : Leveled s) (n : Nat) : Leveled (segRemove n s).state := by
  unfold segRemove
  split
  · exact h
  · split
    · exact h
    · split
      · exact h
      · split
        · exact h
        · exact leveled_removeSegment h _

theorem ctrlLevels_invalidate {c : Ctrl} (h : CtrlLevels c) : CtrlLevels (invalidate c) := fun b => by
  have hout : (invalidate c).outputs[b].value = c.outputs[b].value := by simp [invalidate]
  rw [hout]
  exact h b

theorem leveled_retune (h : Leveled s) {i : SegId} {f : SegConfig → SegConfig} (hf : ConfigLevels (f (segCfg s i))) :
    Leveled (retune i f s) :=
  leveled_recompose (leveled_updCtrl (leveled_updSeg h hf) (ctrlLevels_invalidate (h.ctrls i))) i

theorem leveled_segTune (h : Leveled s) (n : Nat) (x : Tuning) : Leveled (segTune n x s).state := by
  unfold segTune
  split
  · exact h
  · split
    · exact h
    · split
      · exact h
      · exact leveled_retune h ⟨Nat.min_le_right .., (h.configs _).2⟩

theorem leveled_bandSet (h : Leveled s) (n b : Nat) (q : BandConfig) : Leveled (bandSet n b q s).state := by
  unfold bandSet
  split
  · exact h
  next i _ =>
  split
  · exact h
  split
  · exact h
  split
  · exact h
  split
  · exact h
  split
  · exact h
  · refine leveled_retune h ⟨(h.configs i).1, fun b' => ?_⟩
    simp only [set_get]
    split
    · exact ⟨Nat.min_le_right .., Nat.min_le_right ..⟩
    · exact (h.configs i).2 b'

theorem leveled_writeThreshold (n : Nat) (h : Leveled s) (i : SegId) : Leveled (writeThreshold n s i) := by
  have hseg := leveled_updSeg h (i := i) (f := fun c => { c with glareThreshold := n }) (h.configs i)
  have hctrl := leveled_updCtrl hseg (i := i) (f := fun c => { c with glare := false }) (h.ctrls i)
  rw [writeThreshold_eq]
  refine ⟨?_, hseg.configs, h.entries, h.run, h.groups⟩
  dsimp only
  split
  · exact hctrl.ctrls
  · exact h.ctrls

theorem leveled_glareSet (h : Leveled s) (m : SegMask) (n : Nat) : Leveled (glareSet m n s).state := by
  unfold glareSet
  dsimp only
  split
  · exact h
  · exact List.foldlRecOn _ _ h fun _ hu i _ => leveled_writeThreshold _ hu i

theorem leveled_couplingWrite (h : Leveled s) (k d n : Nat) (ps : List (Nat × Nat)) :
    Leveled (couplingWrite k d n ps s).state := by
  unfold couplingWrite
  dsimp only
  repeat' split
  all_goals first | exact h | exact ⟨h.ctrls, h.configs, h.entries, h.run, h.groups⟩

end

/-! ## The pass (R61) -/

theorem candidateOutput_le {q : BandConfig} (hmin : q.lmin ≤ 1000) (hmax : q.lmax ≤ 1000) (req : Nat) :
    candidateOutput q req ≤ 1000 := by
  unfold candidateOutput clampTo
  split
  · exact hmin
  · split <;> omega

/-- An output is the candidate or the output before (R67). -/
theorem outputNext_le {db cand : Nat} {q : BandConfig} {o : Output} (hc : cand ≤ 1000) (ho : o.value ≤ 1000) :
    (outputNext db q cand o).value ≤ 1000 := by
  obtain ⟨_, hvalue⟩ := outputNext_eq db q cand o
  rw [hvalue]
  repeat' split
  all_goals assumption

theorem ctrlLevels_passedCtrl {cfg : SegConfig} {raw : Option Nat} {c : Ctrl} (hcfg : ConfigLevels cfg)
    (hc : CtrlLevels c) : CtrlLevels (passedCtrl cfg raw c) := by
  obtain ⟨_, _, _, _, hstart, hheld⟩ := passedCtrl_counts cfg raw c
  intro b
  rw [hstart, hheld]
  refine ⟨?_, (hc b).2⟩
  by_cases hm : (passedCtrl cfg raw c).mode = .active
  · obtain ⟨d, rfl⟩ := raw_of_active cfg raw c hm
    obtain ⟨f, _, _, hbands⟩ := passedCtrl_control cfg d c hm
    obtain ⟨hout, hin⟩ := hbands b
    obtain ⟨hmin, hmax⟩ := hcfg.2 b
    rcases Nat.lt_or_ge b.val cfg.bandCount with hb | hb
    · rw [(hin hb).2]
      exact outputNext_le (candidateOutput_le hmin hmax _) (hc b).1
    · rw [(hout hb).2]
      exact (hc b).1
  · obtain ⟨_, _, hout⟩ := passedCtrl_inactive cfg raw c hm
    rw [hout]
    exact (hc b).1

theorem leveled_passSegment {s : State} (h : Leveled s) (i : SegId) : Leveled (passSegment i s) := by
  obtain ⟨hquiet, hlum, hothers⟩ := onCtrl_passed i s
  rw [passSegment_eq]
  refine leveled_recompose (h.of_quiet hquiet (fun j => ?_) (by rw [hlum]; exact h.groups)) i
  by_cases hj : j = i
  · subst hj
    rw [passed_ctrl]
    exact ctrlLevels_passedCtrl (h.configs j) (h.ctrls j)
  · rw [hothers j hj]
    exact h.ctrls j

/-! ## Calibration (Section 8) -/

section
variable {s : State}

theorem phaseLevel_le {q : CalParams} (h : ParamLevels q) (f : Phase) (isProbe : Bool) : phaseLevel f q isProbe ≤ 1000 := by
  obtain ⟨hbase, hhigh, hlow⟩ := h
  unfold phaseLevel
  repeat' split
  all_goals first | assumption | exact Nat.zero_le _

/-- A run whose parameters are in range is in range where a phase assigns its levels (R137). -/
theorem runLevels_of_phase {r : CalRun} (hp : ParamLevels r.params) {f : Phase} {groups : List GroupId} {probe : Nat}
    (ha : r.assigned = phaseLevels f r.params groups probe) : RunLevels r := by
  refine ⟨hp, fun g => ?_⟩
  rw [ha, phaseLevels_get]
  split
  · exact phaseLevel_le hp f _
  · exact Nat.zero_le _

theorem leveled_testFadeWait (h : Leveled s) : Leveled (testFadeWait s) :=
  h.of_neutral (neutral_testFadeWait (.refl s)) (by rw [testFadeWait_lum]; exact h.groups)

theorem leveled_setRun (h : Leveled s) {r : CalRun} (hr : RunLevels r) : Leveled (setRun r s) :=
  ⟨h.ctrls, h.configs, h.entries, fun r' hr' => by cases hr'; exact hr, h.groups⟩

theorem leveled_beginRun (h : Leveled s) {q : CalParams} (hq : ParamLevels q) (m : SegMask) (clamped : Bool) :
    Leveled (beginRun m q clamped s) := by
  have hrun : RunLevels (newRun m q s) := runLevels_of_phase hq rfl
  unfold beginRun
  rw [enterCalibrating_eq_remode]
  exact leveled_testFadeWait (leveled_foldl_remode _ _ _
    ⟨h.ctrls, h.configs, h.entries, fun r hr => by cases hr; exact hrun, h.groups⟩)

theorem leveled_calStart (h : Leveled s) (mask : SegMask) (base high low half su opt : Nat) :
    Leveled (calStart mask base high low half su opt s).state := by
  have hparams : ∀ cap d, ParamLevels (takeParams cap base high low half (su * 50) (opt % 16) d) := fun cap d =>
    ⟨Nat.min_le_right .., (Nat.min_le_left ..).trans (Nat.min_le_right ..), Nat.min_le_right ..⟩
  unfold calStart
  dsimp only
  repeat' split
  all_goals first | exact h | exact leveled_beginRun h (hparams _ _) _ _

theorem leveled_enterPhase (h : Leveled s) {r : CalRun} (hr : RunLevels r) (f : Phase) (probe cycle : Nat) :
    Leveled (enterPhase f probe cycle r s) := by
  unfold enterPhase
  exact leveled_testFadeWait (List.foldlRecOn _ _ (leveled_setRun h (runLevels_of_phase hr.1 rfl)) fun _ hu i _ =>
    leveled_recompose hu i)

theorem leveled_commit (h : Leveled s) (r : CalRun) : Leveled (commit r s) := by
  have hstore : ∀ x, Leveled (s.setCoupling x) := fun _ => ⟨h.ctrls, h.configs, h.entries, h.run, h.groups⟩
  exact leveled_endRun r _ (hstore _)

/-- What follows the last cycle of a probe position (R141). -/
theorem leveled_probesOver (h : Leveled s) {x : CalRun} (hx : RunLevels x) :
    Leveled (if x.probe + 1 < x.groups.length then enterPhase .probeHigh (x.probe + 1) 1 x s
      else if x.params.dark = .last then enterPhase .dark x.probe x.cycle x s else commit x s) := by
  split
  · exact leveled_enterPhase h hx _ _ _
  · split
    · exact leveled_enterPhase h hx _ _ _
    · exact leveled_commit h x

theorem runLevels_mapInvolved {r : CalRun} (h : RunLevels r) (f : CalSensor → CalSensor) :
    RunLevels (mapInvolved r f) := by
  unfold mapInvolved RunLevels
  dsimp only
  exact h

theorem leveled_nextPhase (h : Leveled s) {r : CalRun} (hr : RunLevels r) : Leveled (nextPhase r s) := by
  unfold nextPhase
  split
  · split <;> exact leveled_enterPhase h hr _ _ _
  · dsimp only
    split
    · exact leveled_enterPhase h (runLevels_mapInvolved hr _) _ _ _
    · exact leveled_commit h _
  · exact leveled_enterPhase h hr _ _ _
  · split
    · exact leveled_enterPhase h hr _ _ _
    · exact leveled_probesOver h (by split <;> [exact hr; exact runLevels_mapInvolved hr _])

theorem leveled_calStageTimerExpiry (h : Leveled s) : Leveled (calStageTimerExpiry s) := by
  unfold calStageTimerExpiry
  split
  · exact h
  · next r hr =>
    have hrun := h.run r hr
    split
    · unfold stageExpiry
      split
      · exact h
      · exact leveled_setRun h hrun
      · exact leveled_nextPhase h hrun
      · exact leveled_nextPhase h hrun
    · exact h

end

/-! ## The bus and the resets -/

theorem leveled_busFault {s : State} (h : Leveled s) : Leveled (busFault s) := by
  have hdown : ∀ k x, Leveled ((setLink k s).setPorts x) := fun _ _ =>
    ⟨h.ctrls, h.configs, h.entries, h.run, h.groups⟩
  unfold busFault
  split
  · exact h
  · refine leveled_abortRun .link ?_
    split
    · exact hdown _ _
    · obtain ⟨hctrls, hconfigs, hentries, hrun, hgroups⟩ := hdown (linkDown s.lum.link)
        (raiseAll .linkChange (setLink (linkDown s.lum.link) s).ports)
      exact ⟨hctrls, hconfigs, hentries, hrun, hgroups⟩

/-- A warm restart leaves every group at rest at its present level, and START's snapshots at the present levels (R15). -/
theorem leveled_warmRestart {s : State} (h : Leveled s) (p : PortId) : Leveled (warmRestart p s) where
  ctrls := fun i => by
    have hctrl : (warmRestart p s).ctrls[i] =
        if configured s i then restartCtrl (segCfg s i) (presentLevels s.lum i) s.ctrls[i] else s.ctrls[i] := ofFn_get _ i
    rw [hctrl]
    split
    · intro b
      have hsnap : (presentLevels s.lum i)[b] ≤ 1000 := by rw [presentLevels_get]; exact presentOf_le h.groups _
      exact ⟨(ctrlLevels_invalidate (h.ctrls i) b).1, hsnap, hsnap⟩
    · exact h.ctrls i
  configs := h.configs
  entries := nofun
  run := fun r hr => by
    have hidle : (warmRestart p s).cal.run = none := by
      show (restartCal s.cal).run = none
      unfold restartCal
      split
      · assumption
      · rfl
    rw [hidle] at hr
    cases hr
  groups := groupsLaw_mapped h.groups (restartLum_groups s.lum) fun _ _ _ ⟨hp, _, _⟩ => ⟨hp, hp, fun _ => rfl⟩

theorem leveled_restart {s : State} (h : Leveled s) (p : PortId) : Leveled (restart p s) := by
  have hplaced : ∀ r st l, Leveled (placeReply p r st l s) := fun _ _ _ => ⟨h.ctrls, h.configs, h.entries, h.run, h.groups⟩
  unfold restart
  split
  · exact h
  · exact hplaced _ _ _
  · exact hplaced _ _ _
  · exact leveled_warmRestart (hplaced _ _ _) p

theorem leveled_powerOn (a b c : StrapPins) (s : State) : Leveled (powerOn a b c s) where
  ctrls := fun i => by
    have hi : (powerOn a b c s).ctrls[i] = Ctrl.blank := by simp [powerOn, State.initial]
    rw [hi]; exact ctrlLevels_blank
  configs := fun i => by
    have hi : segCfg (powerOn a b c s) i = SegConfig.initial := by simp [powerOn, State.initial, segCfg]
    rw [hi]; exact configLevels_initial
  entries := nofun
  run := nofun
  groups := fun g r hr => by
    have hg : (powerOn a b c s).lum.groups[g] = none := by simp [powerOn, State.initial]
    rw [hg] at hr; cases hr

/-! ## Every step -/

/-- Every command keeps the law of the levels. -/
theorem leveled_exec {c : Instr} {s t : State} (h : Leveled s) (he : exec c s = .next t) : Leveled t := by
  cases hn : isNeutral c with
  | true => exact h.of_neutral (exec_neutral hn he) (groupsLaw_neutral hn h.groups he)
  | false =>
    have hserve : ∀ {p : PortId} {k : Kind} {owner : Body → State → Response},
        (∀ b, Leveled (owner b s).state) → Leveled (serve p k owner s) := fun ho =>
      serve_keeps (P := Leveled) (fun _ _ hu => ⟨hu.ctrls, hu.configs, hu.entries, hu.run, hu.groups⟩) h ho
    cases c <;> first | exact absurd hn Bool.false_ne_true.symm | skip
    all_goals injection he with he; subst he
    case powerOnReset => exact leveled_powerOn _ _ _ s
    case segDefine => refine hserve fun b => ?_; split; exacts [leveled_segDefine h _ _ _ _, h]
    case segRemove => refine hserve fun b => ?_; split; exacts [leveled_segRemove h _, h]
    case segTune => refine hserve fun b => ?_; split; exacts [leveled_segTune h _ _, h]
    case bandSet => refine hserve fun b => ?_; split; exacts [leveled_bandSet h _ _ _, h]
    case couplingWrite => refine hserve fun b => ?_; split; exacts [leveled_couplingWrite h _ _ _ _, h]
    case overrideSet => refine hserve fun b => ?_; split; exacts [leveled_overrideSet _ h _ _, h]
    case overrideCancel => refine hserve fun b => ?_; split; exacts [leveled_overrideCancel _ h, h]
    case lockSet => refine hserve fun b => ?_; split; exacts [leveled_lockSet _ h _, h]
    case lockRelease => refine hserve fun b => ?_; split; exacts [leveled_lockRelease _ h, h]
    case holdSet => refine hserve fun b => ?_; split; exacts [leveled_holdSet _ h _, h]
    case holdSettled => refine hserve fun b => ?_; split; exacts [leveled_holdSettled _ h, h]
    case capSet => refine hserve fun b => ?_; split; exacts [leveled_capSet _ h _ _ _, h]
    case capCancel => refine hserve fun b => ?_; split; exacts [leveled_capCancel h _, h]
    case calStart => refine hserve fun b => ?_; split; exacts [leveled_calStart h _ _ _ _ _ _ _, h]
    case calAbort => exact hserve fun _ => leveled_abortRun _ h
    case glareSet => refine hserve fun b => ?_; split; exacts [leveled_glareSet h _ _, h]
    case restart => exact leveled_restart h _
    case pass => split; exacts [leveled_passSegment h _, h]
    case uptimeTick =>
      have htick : ∀ x, Leveled (s.setTable { s.table with uptime := x }) := fun _ =>
        ⟨h.ctrls, h.configs, h.entries, h.run, h.groups⟩
      exact leveled_departDue (htick _)
    case entryExpiry => exact leveled_departDue h
    case busFault => exact leveled_busFault h
    case calStageTimerExpiry => exact leveled_calStageTimerExpiry h

/-- Settles O6: whatever composition draws on stays in range, so the demands it hands out do, and a group goes by steps that
end at its demand. -/
theorem levelsLawKept : Obligations.LevelsLawKept := by
  unfold Obligations.LevelsLawKept
  refine step_keeps (fun _ _ h => h) fun c s t h he => ?_
  rw [levelsLaw_iff] at h ⊢
  exact leveled_exec h he

end Sys2Proof.Proofs
end

section
/-! PROOFS. Energy and the group records: the draw of a segment over the groups in ascending order, and the requests of
Sections 6.3 and 6.4 as their owning blocks answer them. -/

namespace Sys2Proof.Proofs

open Sys2Proof Sys2Proof.Machine Sys2Proof.Safety Sys2Proof.Laws

/-! ## One record of the group table -/

/-- The record of an existing group written by the change of it. -/
theorem updAt_eq_set {l : Lum} {g : GroupId} {r : Group} (h : l.groups[g] = some r) (f : Group → Group) :
    updAt l.groups g (Option.map f) = l.groups.set g (some (f r)) := vector_ext fun j => by
  rw [updAt_get, set_get]
  split
  · next hj => subst hj; rw [h]; rfl
  · rfl

theorem updGroup_eq_set {l : Lum} {g : GroupId} {r : Group} (h : l.groups[g] = some r) (f : Group → Group) :
    updGroup g f l = { l with groups := l.groups.set g (some (f r)) } :=
  congrArg (fun v => { l with groups := v }) (updAt_eq_set h f)

theorem groupExists_of_some {l : Lum} {g : GroupId} {r : Group} (h : l.groups[g] = some r) : groupExists l g = true := by
  rw [groupExists, h]; rfl

/-! ## The draw of a segment (R107) -/

/-- A sum over the elements of a test is one over all in which the others count nothing. -/
theorem sum_filter_map {α : Type} (p : α → Bool) (f : α → Nat) (l : List α) :
    ((l.filter p).map f).sum = (l.map fun a => if p a then f a else 0).sum := by
  induction l with
  | nil => rfl
  | cons a l ih =>
    rw [List.map_cons, List.sum_cons, ← ih]
    by_cases h : p a = true
    · rw [List.filter_cons_of_pos h, List.map_cons, List.sum_cons, if_pos h]
    · rw [List.filter_cons_of_neg h, if_neg h, Nat.zero_add]

theorem groupDraw_eq (l : Lum) (g : GroupId) : groupDraw l g = match l.groups[g] with
    | none => 0
    | some r => if r.failed then 0 else r.present * r.power := by
  unfold groupDraw
  cases l.groups[g] <;> rfl

/-- The draw of a segment summed over its bands is the one summed over the groups it owns (R2, R107). -/
theorem segDraw_eq (l : Lum) (i : SegId) :
    segDraw l i = ((List.finRange 48).map fun g => if segOf g = i then groupDraw l g else 0).sum := by
  have hown : (List.finRange 48).filter (fun g => decide (segOf g = i)) = (List.finRange 3).map (groupOf i) := by
    have hbands : bandsBelow 3 = List.finRange 3 := rfl
    rw [← hbands, ← filter_groups i 3]
    exact List.filter_congr fun g _ => by rw [decide_eq_true (bandOf g).isLt, Bool.and_true]
  have hsum := sum_filter_map (fun g => decide (segOf g = i)) (groupDraw l) (List.finRange 48)
  rw [hown, List.map_map] at hsum
  simp only [decide_eq_true_eq] at hsum
  exact hsum

/-! ## The requests (R104, R105, R110) -/

section
variable {s : State}

/-- A request accepted as it stands is replied OK with its effects. -/
theorem exec_done {p : PortId} {r : Request} {t : State} {c : Instr} {owner : Body → State → Response}
    (he : exec c s = .next (serve p (kindOf r.body) owner s)) (h : Runs p r s) (ho : owner r.body s = accept false t) :
    exec c s = .next (placeReply p r .ok [] t) := by
  rw [he, serve_runs owner h, ho]
  rfl

theorem energyClear_accepted {m : SegMask} (h : m &&& configuredMask s ≠ 0) :
    energyClear m s = accept (m &&& configuredMask s != m)
      { s with energy := Vector.ofFn fun i =>
        if maskHas m i = true ∧ configured s i = true then ⟨0, 0⟩ else s.energy[i] } := by
  have hmem : ∀ i, maskHas (m &&& configuredMask s) i = true ↔ maskHas m i = true ∧ configured s i = true := fun i => by
    rw [maskHas_and, maskHas_configuredMask, Bool.and_eq_true]
  refine (if_neg h).trans ?_
  simp only [hmem]
  rfl

theorem powerSet_accepted {g : GroupId} {r : Group} (h : s.lum.groups[g] = some r) (w : Nat) :
    powerSet g.val w s = accept (4095 < w)
      { s with lum := { s.lum with groups := s.lum.groups.set g (some { r with power := min w 4095 }) } } := by
  unfold powerSet
  rw [groupId?_val]
  dsimp only
  rw [if_pos (groupExists_of_some h), updGroup_eq_set h]
  rfl

theorem groupClearFail_accepted {g : GroupId} {r : Group} (h : s.lum.groups[g] = some r) :
    groupClearFail g.val s = accept false
      { s with lum := { s.lum with groups := s.lum.groups.set g (some { r with failed := false }) } } := by
  unfold groupClearFail
  rw [groupId?_val]
  dsimp only
  rw [if_pos (groupExists_of_some h), updGroup_eq_set h]
  rfl

/-- A number that names no group is none of a group's, or of one that does not exist. -/
theorem groupId?_unnamed {n : Nat} (h : ¬ NamesGroup s.lum n) : ∀ g ∈ groupId? n, groupExists s.lum g = false := fun g hg => by
  unfold groupId? at hg
  split at hg
  · next hn =>
    cases hg
    exact Bool.eq_false_of_not_eq_true fun hex => h ⟨hn, hex⟩
  · cases hg

theorem powerSet_range {n : Nat} (h : ¬ NamesGroup s.lum n) (w : Nat) : powerSet n w s = refuse .range s := by
  have hnone := groupId?_unnamed h
  unfold powerSet
  split
  · rfl
  · next g hg => rw [hnone g hg]; rfl

theorem groupClearFail_range {n : Nat} (h : ¬ NamesGroup s.lum n) : groupClearFail n s = refuse .range s := by
  have hnone := groupId?_unnamed h
  unfold groupClearFail
  split
  · rfl
  · next g hg => rw [hnone g hg]; rfl

end

/-- Settles O49. -/
theorem energyRule : Obligations.EnergyRule := by
  unfold Obligations.EnergyRule
  refine ⟨fun s => ⟨_, rfl, fun i => ?_⟩, fun p link tag s => ⟨fun m h hm => ?_, fun g r w h hg => ?_, fun g r h hg => ?_,
    fun n w hn => ⟨fun h => ?_, fun h => ?_⟩⟩⟩
  · rw [ofFn_get]
    refine ⟨fun hc => by rw [hc]; rfl, fun hc => ⟨s.energy[i].frac + segDraw s.lum i, ?_, ?_⟩⟩
    · rw [segDraw_eq]
      refine congrArg (fun l : List Nat => s.energy[i].frac + l.sum) (List.map_congr_left fun g _ => ?_)
      exact if_congr Iff.rfl (groupDraw_eq s.lum g) rfl
    · rw [if_pos hc]
      exact ⟨rfl, rfl⟩
  · exact exec_accepted rfl h (energyClear_accepted hm) (by simp)
  · exact exec_accepted rfl h (powerSet_accepted hg w) (by simp)
  · exact exec_done rfl h (groupClearFail_accepted hg)
  · exact exec_refused rfl h (powerSet_range hn w)
  · exact exec_refused rfl h (groupClearFail_range hn)

end Sys2Proof.Proofs
end

section
/-! PROOFS. The end of an answer window: the outcome, what it writes to the group table, and the end of the query (R114, R120,
R121). -/

namespace Sys2Proof.Proofs

open Sys2Proof Sys2Proof.Machine Sys2Proof.Safety Sys2Proof.Laws

/-! ## The outcome (R114, R180) -/

/-- A status answer has tag 2 and one of three data values. -/
theorem judgeAnswer_status (bits : BitVec 16) : judgeAnswer .status (.frame bits) =
    if bits.toNat = 0x2000 then .ok (.status .ok)
    else if bits.toNat = 0x2001 then .ok (.status .lampFail)
    else if bits.toNat = 0x2002 then .ok (.status .driverFault)
    else .badFrame := by
  have hword : ∀ d, d < 4096 → (bits.toNat = 0x2000 + d ↔ bits.toNat / 4096 = 2 ∧ bits.toNat % 4096 = d) := by omega
  have h0 := hword 0 (by decide)
  have h1 := hword 1 (by decide)
  have h2 := hword 2 (by decide)
  simp only [Nat.add_zero, Nat.reduceAdd] at h0 h1 h2
  simp only [judgeAnswer, driverStatus?, h0, h1, h2]
  by_cases htag : bits.toNat / 4096 = 2
  · simp only [htag, true_and, if_true]
    generalize bits.toNat % 4096 = data
    match data with
    | 0 | 1 | 2 | n + 3 => simp
  · simp only [htag, false_and, if_false]

/-- The outcome in the words of the statement. -/
theorem judgeAnswer_spec (answer : Answer) (item : Item) :
    match answer, item with
    | .silent, _ => judgeAnswer item answer = .noAnswer
    | .violation, _ | .cutOff, _ => judgeAnswer item answer = .badFrame
    | .frame bits, .ratedPower =>
      if bits.toNat / 4096 = 1 then judgeAnswer item answer = .ok (.power (bits.toNat % 4096))
      else judgeAnswer item answer = .badFrame
    | .frame bits, .status =>
      if bits.toNat = 0x2000 then judgeAnswer item answer = .ok (.status .ok)
      else if bits.toNat = 0x2001 then judgeAnswer item answer = .ok (.status .lampFail)
      else if bits.toNat = 0x2002 then judgeAnswer item answer = .ok (.status .driverFault)
      else judgeAnswer item answer = .badFrame := by
  cases answer with
  | silent | violation | cutOff => rfl
  | frame bits =>
    cases item with
    | ratedPower =>
      dsimp only
      split
      · next htag => exact if_pos htag
      · next htag => exact if_neg htag
    | status =>
      dsimp only
      rw [judgeAnswer_status]
      split
      · rfl
      · split
        · rfl
        · split <;> rfl

/-! ## What an outcome writes (R103, R105, R121) -/

/-- A group's record after a query of it that ends with the outcome. -/
def answeredGroup (o : QueryOutcome) (r : Group) : Group :=
  match o with
  | .ok (.power w) => { r with power := w }
  | .ok (.status .ok) => { r with failed := false }
  | .ok (.status _) => { r with failed := true }
  | _ => r

theorem answeredGroup_ok (v : AnswerValue) : answeredGroup (.ok v) = applyAnswer v := by
  funext r
  cases v with
  | power w => rfl
  | status d => cases d <;> rfl

/-- The outcome reports a failure. -/
abbrev ReportsFailure (o : QueryOutcome) : Prop := o = .ok (.status .lampFail) ∨ o = .ok (.status .driverFault)

theorem reportsFailure_iff (v : AnswerValue) : reportsFailure v = true ↔ ReportsFailure (.ok v) := by
  cases v with
  | power w => simp [reportsFailure, ReportsFailure]
  | status d => cases d <;> simp [reportsFailure, ReportsFailure]

/-- The group's record written, with GROUP_FAILED where a failure is news of it. -/
structure Answered (g : GroupId) (o : QueryOutcome) (s t : State) : Prop where
  lum : t.lum = { s.lum with groups := s.lum.groups.set g (s.lum.groups[g].map (answeredGroup o)) }
  ports : ∀ q : PortId, t.ports[q] =
    if ReportsFailure o ∧ ∃ r ∈ s.lum.groups[g], r.failed = false then offerAt (segOf g) .groupFailed s.ports[q]
    else s.ports[q]

/-- A group that does not exist stays so. -/
theorem set_none_self {l : Lum} {g : GroupId} (h : l.groups[g] = none) : l.groups.set g none = l.groups :=
  vector_ext fun j => by
    rw [set_get]
    split
    · next hj => subst hj; exact h.symm
    · rfl

theorem handAnswer_answered (g : GroupId) (v : AnswerValue) (s : State) : Answered g (.ok v) s (handAnswer g v s) := by
  unfold handAnswer
  cases hg : s.lum.groups[g] with
  | none =>
    refine ⟨?_, fun q => ?_⟩
    · rw [hg, Option.map_none, set_none_self hg]
    · rw [if_neg]
      rintro ⟨_, r, hr, _⟩
      rw [hg] at hr
      cases hr
  | some r =>
    have hnews : ((ReportsFailure (.ok v) ∧ ∃ x ∈ s.lum.groups[g], x.failed = false) ↔
        (reportsFailure v && !r.failed) = true) := by
      simp [hg, reportsFailure_iff]
    have hset : updGroup g (applyAnswer v) s.lum =
        { s.lum with groups := s.lum.groups.set g (s.lum.groups[g].map (answeredGroup (.ok v))) } := by
      rw [updGroup_eq_set hg, answeredGroup_ok, hg, Option.map_some]
    dsimp only
    split
    · next hraise => exact ⟨hset, fun q => by rw [if_pos (hnews.mpr hraise)]; exact offerEvent_get ..⟩
    · next hraise => exact ⟨hset, fun q => by rw [if_neg fun h => hraise (hnews.mp h)]; rfl⟩

/-- An outcome that is no answer writes nothing. -/
theorem answered_nothing {g : GroupId} {o : QueryOutcome} (h : ∀ v, o ≠ .ok v) (s : State) : Answered g o s s := by
  have hsame : answeredGroup o = id := by
    funext r
    cases o with
    | ok v => exact absurd rfl (h v)
    | _ => rfl
  refine ⟨?_, fun q => ?_⟩
  · have hset : s.lum.groups.set g s.lum.groups[g] = s.lum.groups := vector_ext fun j => by
      rw [set_get]
      split
      · next hj => rw [hj]
      · rfl
    rw [hsame, Option.map_id_fun, id, hset]
  · rw [if_neg]
    rintro ⟨hfail | hfail, _⟩ <;> exact h _ hfail

theorem applyOutcome_answered {s : State} (hu : s.lum.link.unit = .inFlight true) (o : QueryOutcome) :
    Answered s.lum.link.record.group o s (applyOutcomeToGroup o s) := by
  unfold applyOutcomeToGroup
  rw [hu]
  cases o with
  | ok v => exact handAnswer_answered _ v s
  | _ =>
    refine answered_nothing ?_ s
    exact nofun

/-- An answer of a group that has not existed since the acceptance applies to nothing (R121). -/
theorem applyOutcome_outlived {s : State} (hu : s.lum.link.unit = .inFlight false) (o : QueryOutcome) :
    applyOutcomeToGroup o s = s := by
  unfold applyOutcomeToGroup
  rw [hu]
  cases o <;> rfl

/-! ## The end of the window (R120) -/

/-- The state in which the link falls free at the end of a window of the unit's query. -/
def windowClosed (answer : Answer) (item : Item) (s : State) : State :=
  let u := endQuery (judgeAnswer item answer) (applyOutcomeToGroup (judgeAnswer item answer) s)
  setLink { u.lum.link with tx := none } u

theorem windowEnd_owned {g : GroupId} {item : Item} {s : State} (h : s.lum.link.tx = some (.window g item true))
    (answer : Answer) : windowEnd answer s = freeLink (windowClosed answer item s) := by
  unfold windowEnd
  rw [h]
  rfl

theorem windowEnd_unowned {g : GroupId} {item : Item} {s : State} (h : s.lum.link.tx = some (.window g item false))
    (answer : Answer) : windowEnd answer s = freeLink (setLink { s.lum.link with tx := none } s) := by
  unfold windowEnd
  rw [h]
  rfl

theorem linkSide_windowClosed (answer : Answer) (item : Item) (s : State) : LinkSide s (windowClosed answer item s) :=
  ((linkSide_applyOutcomeToGroup _ s).trans (linkSide_endQuery _ _)).trans rfl

/-- Link, groups and ports when a window closes, whatever the outcome made of the state. -/
theorem windowClosed_of {s u : State} {answer : Answer} {item : Item} {o : QueryOutcome} (ho : judgeAnswer item answer = o)
    (hu : applyOutcomeToGroup o s = u) (hlink : u.lum.link = s.lum.link) :
    (windowClosed answer item s).lum.link = { s.lum.link with
      tx := none, unit := .idle, record := { s.lum.link.record with valid := true, outcome := some o } } ∧
    (windowClosed answer item s).lum.groups = u.lum.groups ∧
    ∀ q : PortId, (windowClosed answer item s).ports[q] =
      if s.lum.link.record.port = q then raiseAt .queryDone u.ports[q] else u.ports[q] := by
  unfold windowClosed
  rw [ho, hu]
  refine ⟨?_, rfl, fun q => ?_⟩
  · simp [endQuery, setLink, hlink]
  · rw [← hlink]
    exact raiseOn_get ..

/-- Events and causes when a window closes, where the outcome may announce a failure of a segment's group. -/
theorem closedPorts_of {s t u : State} {i : SegId} {port : PortId} {fails : Prop} [Decidable fails]
    (hu : ∀ q : PortId, u.ports[q] = if fails then offerAt i .groupFailed s.ports[q] else s.ports[q])
    (ht : ∀ q : PortId, t.ports[q] = if port = q then raiseAt .queryDone u.ports[q] else u.ports[q]) :
    (∀ q : PortId, t.ports[q].raised =
      if q = port ∧ s.ports[q].role ≠ .off then s.ports[q].raised ||| 0x0020 else s.ports[q].raised) ∧
    (∀ (q : PortId) (j : SegId), t.ports[q].events[j] = s.ports[q].events[j] |||
      if fails ∧ j = i ∧ s.ports[q].role ≠ .off ∧ maskHas s.ports[q].segMask j = true then 0x10 else 0) ∧
    OnlyEventsAndCauses s t := by
  have honly : ∀ q : PortId, u.ports[q] = { s.ports[q] with events := u.ports[q].events } := fun q => by
    rw [hu]
    split
    · rw [offerAt_eq]
    · rfl
  have hevents : ∀ q : PortId, t.ports[q].events = u.ports[q].events := fun q => by
    rw [ht]
    split
    · exact raiseAt_events ..
    · rfl
  refine ⟨fun q => ?_, fun q j => ?_, onlyEventsAndCauses_iff.mpr fun q => ?_⟩
  · have hraised : t.ports[q].raised = if port = q then (if s.ports[q].role = .off then s.ports[q].raised
        else s.ports[q].raised ||| causeMask .queryDone) else s.ports[q].raised := by
      rw [ht]
      split
      · rw [raiseAt_raised, honly]
      · rw [honly]
    rw [hraised]
    by_cases hq : port = q
    · by_cases hoff : s.ports[q].role = .off
      · rw [if_pos hq, if_pos hoff, if_neg fun h => h.2 hoff]
      · rw [if_pos hq, if_neg hoff, if_pos ⟨hq.symm, hoff⟩]; rfl
    · rw [if_neg hq, if_neg fun h => hq h.1.symm]
  · rw [hevents, hu]
    by_cases hf : fails
    · rw [if_pos hf, offerAt_events]
      by_cases hj : i = j
      · subst hj
        simp only [hf, true_and]
        split
        · rfl
        · exact BitVec.or_zero.symm
      · rw [if_neg fun h => hj h.1, if_neg fun h => hj h.2.1.symm]
        exact BitVec.or_zero.symm
    · rw [if_neg hf, if_neg fun h => hf h.1]
      exact BitVec.or_zero.symm
  · rw [hevents, ht]
    split
    · rw [raiseAt_eq, honly]
    · rw [honly]

/-- Settles O51: the window of a released query only frees the link; that of the unit's query writes the outcome first. -/
theorem answerWindowRule : Obligations.AnswerWindowRule := by
  unfold Obligations.AnswerWindowRule
  refine fun answer g item s => ⟨fun h => congrArg Host.Outcome.next (windowEnd_unowned h answer), fun kept htx hunit => ?_⟩
  obtain ⟨hpend, hlay, hctrl, hsens, hcoup, htab, hen, hcal⟩ := (linkSide_windowClosed answer item s).frame
  refine ⟨judgeAnswer item answer, windowClosed answer item s, congrArg Host.Outcome.next (windowEnd_owned htx answer),
    judgeAnswer_spec answer item, ?_⟩
  generalize ho : judgeAnswer item answer = o
  cases kept with
  | false =>
    obtain ⟨hlink, hgroups, hports⟩ := windowClosed_of ho (applyOutcome_outlived hunit o) rfl
    obtain ⟨hraised, hevents, honly⟩ := closedPorts_of (i := segOf s.lum.link.record.group) (fails := False)
      (fun q => (if_neg id).symm) hports
    exact ⟨hlink, hgroups, hraised, fun q i => by simpa using hevents q i, honly, hlay, hctrl, hsens, hcoup, htab, hen, hcal,
      hpend⟩
  | true =>
    have hans := applyOutcome_answered hunit o
    have hkept : (applyOutcomeToGroup o s).lum.link = s.lum.link := by rw [hans.lum]
    obtain ⟨hlink, hgroups, hports⟩ := windowClosed_of ho rfl hkept
    obtain ⟨hraised, hevents, honly⟩ := closedPorts_of hans.ports hports
    refine ⟨hlink, ?_, hraised, fun q i => ?_, honly, hlay, hctrl, hsens, hcoup, htab, hen, hcal, hpend⟩
    · rw [hgroups, hans.lum, if_pos rfl]
      refine congrArg (fun f => s.lum.groups.set s.lum.link.record.group (s.lum.groups[s.lum.link.record.group].map f))
        (funext fun r => ?_)
      cases o with
      | ok v =>
        cases v with
        | power w => rfl
        | status d => cases d <;> rfl
      | _ => rfl
    · rw [hevents]
      refine congrArg _ (if_congr ?_ rfl rfl)
      tauto

end Sys2Proof.Proofs
end

section
/-! PROOFS. The fade engine: what a hand-over and a step leave of group and link, and the test of the fade wait (R98 to R101,
R115, R138). -/

namespace Sys2Proof.Proofs

open Sys2Proof Sys2Proof.Machine Sys2Proof.Safety Sys2Proof.Laws

/-! ## A level handed to the link (R101, R115) -/

section
variable {unsent : Bool} {g : GroupId} {k : Link}

theorem placed_queued (h : queued k g = true) (n : Nat) :
    placed unsent g n k = { k with queue := k.queue.map fun e => if e.1 = g then (g, n) else e } := if_pos h

theorem placed_waiting (h : queued k g = false) (hw : unsent = true ∨ k.state = .draining ∨ k.state = .paused) (n : Nat) :
    placed unsent g n k = k := by
  rw [placed, if_neg (by simp [h]), if_pos hw]

theorem placed_appended (h : queued k g = false) (hu : unsent = false) (hs : k.state = .running ∨ k.state = .down)
    (n : Nat) : placed unsent g n k = arbitrate { k with queue := k.queue ++ [(g, n)] } := by
  rw [placed, if_neg (by simp [h]), if_neg]
  rcases hs with hs | hs <;> simp [hu, hs]

end

theorem handOver_link {g : GroupId} {l : Lum} {r : Group} (h : l.groups[g] = some r) (n : Nat) :
    (handOver g n l).link = placed r.unsent g n l.link := by
  have hrec : (updGroup g (fun r => { r with present := n }) l).groups[g] = some { r with present := n } := by
    rw [updGroup_groups, updAt_get, if_pos rfl, h]
    rfl
  exact placeLevel_link hrec n

/-- The step sizes in the words of the statement (R100). -/
theorem stepOf_sizes (s : State) (i : SegId) :
    (stepOf s i).up = (if modeOf s i = .locked ∨ modeOf s i = .calibrating then 100 else (segCfg s i).sUp) ∧
    (stepOf s i).down = (if modeOf s i = .locked ∨ modeOf s i = .calibrating then 100 else (segCfg s i).sDown) := by
  unfold stepOf
  split <;> exact ⟨rfl, rfl⟩

/-! ## The fade wait (R138) -/

/-- Where every involved group exists, the sequencer's test is that all are at rest at their assigned levels. -/
theorem fadeWaitMet_iff {r : CalRun} {l : Lum} (h : ∀ g ∈ r.groups, groupExists l g = true) :
    fadeWaitMet r l = true ↔ Faded r l := by
  unfold fadeWaitMet
  rw [List.all_eq_true]
  refine forall₂_congr fun g hg => ?_
  obtain ⟨x, hx⟩ := Option.isSome_iff_exists.mp (h g hg)
  simp [atRest, presentOf, hx]

section
variable {s : State} {r : CalRun}

theorem testFadeWait_idle (h : s.cal.run = none) : testFadeWait s = s := by
  unfold testFadeWait
  rw [h]

theorem testFadeWait_stage (h : s.cal.run = some r) (hs : r.stage ≠ .fadeWait) : testFadeWait s = s := by
  unfold testFadeWait
  rw [h]
  exact if_neg (by simp [hs])

theorem testFadeWait_met (h : s.cal.run = some r) (hs : r.stage = .fadeWait) (hm : fadeWaitMet r s.lum = true) :
    testFadeWait s = setRun { r with stage := .settle, timer := some r.params.settle } s := by
  unfold testFadeWait
  rw [h]
  exact if_pos (by simp [hs, hm])

theorem testFadeWait_unmet (h : s.cal.run = some r) (hm : fadeWaitMet r s.lum = false) : testFadeWait s = s := by
  unfold testFadeWait
  rw [h]
  exact if_neg (by simp [hm])

/-- The test of the fade wait moves the run alone. -/
theorem testFadeWait_frame (s : State) : testFadeWait s = { s with cal := { s.cal with run := (testFadeWait s).cal.run } } := by
  cases hr : s.cal.run with
  | none =>
    rw [testFadeWait_idle hr]
  | some r =>
    unfold testFadeWait
    rw [hr]
    dsimp only
    split <;> rfl

end

/-! ## FADE_STEP (R99, R100) -/

section
variable {g : GroupId} {r : Group} {s : State}

/-- Short of its demand the group takes a step, which is handed to the link. -/
theorem fadeStep_moving (hg : s.lum.groups[g] = some r) (ht : r.timer = true) (hd : r.present ≠ r.demanded) :
    fadeStep g s = s.setLum (handOver g (oneStep (stepOf s (segOf g)) r.present r.demanded) s.lum) := by
  have hfade : fadeExpiry (stepSizes s (segOf g)) g s.lum =
      (handOver g (oneStep (stepOf s (segOf g)) r.present r.demanded) s.lum, false) := by
    unfold fadeExpiry
    rw [hg]
    dsimp only
    rw [if_neg (by simp [ht]), if_neg hd, stepLevel_eq, stepSizes_eq]
  unfold fadeStep
  rw [hfade]
  rfl

/-- The state in which a group has come to rest. -/
def rested (g : GroupId) (r : Group) (s : State) : State :=
  s.setLum { s.lum with groups := s.lum.groups.set g (some { r with timer := false }) }

/-- At its demand the timer stops, and the sequencer tests the fade wait where the group is one of the run's. -/
theorem fadeStep_complete (hg : s.lum.groups[g] = some r) (ht : r.timer = true) (hd : r.present = r.demanded) :
    fadeStep g s = if ∃ run ∈ s.cal.run, g ∈ run.groups then testFadeWait (rested g r s) else rested g r s := by
  have hfade : fadeExpiry (stepSizes s (segOf g)) g s.lum =
      ({ s.lum with groups := s.lum.groups.set g (some { r with timer := false }) }, true) := by
    unfold fadeExpiry
    rw [hg]
    dsimp only
    rw [if_neg (by simp [ht]), if_pos hd, updGroup_eq_set hg]
  have hinvolved : ((s.cal.run.map fun run => run.groups.contains g).getD false = true) ↔
      ∃ run ∈ s.cal.run, g ∈ run.groups := by
    cases s.cal.run <;> simp
  unfold fadeStep
  rw [hfade]
  dsimp only
  simp only [Bool.true_and]
  exact if_congr hinvolved rfl rfl

theorem rested_get : (rested g r s).lum.groups[g] = some { r with timer := false } :=
  (set_get ..).trans (if_pos rfl)

/-- All that the completion of a fade changes: the group's record, and the run where its wait ends. -/
theorem fadeStep_complete_frame (hg : s.lum.groups[g] = some r) (ht : r.timer = true) (hd : r.present = r.demanded) :
    fadeStep g s = { rested g r s with cal := { s.cal with run := (fadeStep g s).cal.run } } := by
  rw [fadeStep_complete hg ht hd]
  split
  · exact testFadeWait_frame _
  · rfl

/-- What the completion of a fade does to the run (R138). -/
theorem fadeStep_complete_cal (hg : s.lum.groups[g] = some r) (ht : r.timer = true) (hd : r.present = r.demanded) :
    (s.cal.run = none → (fadeStep g s).cal = s.cal) ∧
    ∀ run, s.cal.run = some run →
      (run.stage ≠ .fadeWait ∨ g ∉ run.groups → (fadeStep g s).cal = s.cal) ∧
      (run.stage = .fadeWait → g ∈ run.groups → (∀ x ∈ run.groups, groupExists s.lum x = true) →
        (Faded run (rested g r s).lum → (fadeStep g s).cal =
          { s.cal with run := some { run with stage := .settle, timer := some run.params.settle } }) ∧
        (¬ Faded run (rested g r s).lum → (fadeStep g s).cal = s.cal)) := by
  rw [fadeStep_complete hg ht hd]
  refine ⟨fun hidle => ?_, fun run hrun => ⟨fun hout => ?_, fun hstage hin hex => ?_⟩⟩
  · rw [if_neg (by simp [hidle])]
    rfl
  · rcases hout with hstage | hout
    · rw [testFadeWait_stage (s := rested g r s) hrun hstage, ite_self]
      rfl
    · rw [if_neg (by simp [hrun, hout])]
      rfl
  · have hex' : ∀ x ∈ run.groups, groupExists (rested g r s).lum x = true := fun x hx => by
      by_cases hgx : g = x
      · subst hgx
        exact groupExists_of_some rested_get
      · have hsame : (rested g r s).lum.groups[x] = s.lum.groups[x] := (set_get ..).trans (if_neg hgx)
        rw [groupExists, hsame]
        exact hex x hx
    rw [if_pos ⟨run, hrun, hin⟩]
    refine ⟨fun hf => ?_, fun hf => ?_⟩
    · rw [testFadeWait_met (s := rested g r s) hrun hstage ((fadeWaitMet_iff hex').mpr hf)]
      rfl
    · rw [testFadeWait_unmet (s := rested g r s) hrun
        (Bool.eq_false_of_not_eq_true fun h => hf ((fadeWaitMet_iff hex').mp h))]
      rfl

end

/-! ## A new demand (R98) -/

section
variable {z : StepSizes} {g : GroupId} {r : Group} {level : Nat} {l : Lum}

theorem demand_eq (hg : l.groups[g] = some r) : demand z g level l =
    { groups := l.groups.set g (some (demandedGroup z g level l.link r))
      link := if stepsAtOnce level r then placed r.unsent g (oneStep z r.present level) l.link else l.link } := by
  have hlink := demand_link z g level l
  have hgroups := demand_groups z g level l
  rw [hg] at hlink
  rw [updAt_eq_set hg] at hgroups
  rw [← hgroups]
  exact congrArg (Lum.mk _) hlink

theorem demand_fading (hg : l.groups[g] = some r) (ht : r.timer = true) :
    demand z g level l = { l with groups := l.groups.set g (some { r with demanded := level }) } := by
  have hstay : ¬ stepsAtOnce level r = true := by simp [stepsAtOnce, ht]
  rw [demand_eq hg, demandedGroup, if_neg hstay, if_neg hstay]

theorem stepsAtOnce_rest (hd : level ≠ r.demanded) (ht : r.timer = false) (hp : r.present = r.demanded) :
    stepsAtOnce level r = true := by
  simp [stepsAtOnce, ht, hp, hd.symm]

end

/-! ## The fade rule -/

/-- FADE_STEP of a group whose timer runs, in the words of the statement (R99 to R101, R115, R138). -/
theorem fadeStep_rule {g : GroupId} {r : Group} {s : State} (hg : s.lum.groups[g] = some r) (ht : r.timer = true) :
    ∃ t, exec (.fadeStep g) s = .next t ∧
      t.lum.groups = s.lum.groups.set g (t.lum.groups[g]) ∧ t.ports = s.ports ∧ t.layout = s.layout ∧ t.ctrls = s.ctrls ∧
      t.sensors = s.sensors ∧ t.coupling = s.coupling ∧ t.table = s.table ∧ t.energy = s.energy ∧
      t.cal.result = s.cal.result ∧ t.pending = s.pending ∧
      (r.present = r.demanded → t.lum.groups[g] = some { r with timer := false } ∧ t.lum.link = s.lum.link ∧
        (s.cal.run = none → t.cal = s.cal) ∧
        ∀ run, s.cal.run = some run →
          (run.stage ≠ .fadeWait ∨ g ∉ run.groups → t.cal = s.cal) ∧
          (run.stage = .fadeWait → g ∈ run.groups → (∀ x ∈ run.groups, groupExists s.lum x = true) →
            (Faded run t.lum →
              t.cal = { s.cal with run := some { run with stage := .settle, timer := some run.params.settle } }) ∧
            (¬ Faded run t.lum → t.cal = s.cal))) ∧
      (r.present ≠ r.demanded → t.cal = s.cal ∧
        t.lum = handOver g (oneStep (stepOf s (segOf g)) r.present r.demanded) s.lum) := by
  refine ⟨fadeStep g s, rfl, ?_⟩
  by_cases hd : r.present = r.demanded
  · have hcal := fadeStep_complete_cal hg ht hd
    have hframe := fadeStep_complete_frame hg ht hd
    have hlum : (fadeStep g s).lum = (rested g r s).lum := by rw [hframe]
    rw [← hlum] at hcal
    refine ⟨?_, by rw [hframe]; rfl, by rw [hframe]; rfl, by rw [hframe]; rfl, by rw [hframe]; rfl, by rw [hframe]; rfl,
      by rw [hframe]; rfl, by rw [hframe]; rfl, by rw [hframe], by rw [hframe]; rfl,
      fun _ => ⟨by rw [hlum]; exact rested_get, by rw [hlum]; rfl, hcal⟩, fun h => absurd hd h⟩
    rw [hlum, rested_get]
    rfl
  · rw [fadeStep_moving hg ht hd]
    refine ⟨?_, rfl, rfl, rfl, rfl, rfl, rfl, rfl, rfl, rfl, fun h => absurd h hd, fun _ => ⟨rfl, rfl⟩⟩
    have hset := (handOver_groups g (oneStep (stepOf s (segOf g)) r.present r.demanded) s.lum).trans (updAt_eq_set hg _)
    rw [setLum_lum, hset, set_get, if_pos rfl]

/-- Settles O48: a step is handed over by the link's rule for a placed level, and the fade wait is tested where a group of the
run comes to rest. -/
theorem fadeRule : Obligations.FadeRule := by
  unfold Obligations.FadeRule
  refine ⟨fun g r s hg ht => ?_, fun z g r level l hg => ⟨fun hd => ?_, fun _ ht => demand_fading hg ht, fun hd ht hp => ?_⟩⟩
  · obtain ⟨t, hexec, hset, hports, hlay, hctrl, hsens, hcoup, htab, hen, hres, hpend, hrest, hmove⟩ := fadeStep_rule hg ht
    refine ⟨t, hexec, hset, hports, hlay, hctrl, hsens, hcoup, htab, hen, hres, hpend, hrest, fun hd => ?_⟩
    obtain ⟨hcal, hlum⟩ := hmove hd
    obtain ⟨hup, hdown⟩ := stepOf_sizes s (segOf g)
    refine ⟨hcal, oneStep (stepOf s (segOf g)) r.present r.demanded, ?_, by rw [← hup, ← hdown, oneStep], ?_⟩
    · rw [hlum, handOver_groups, updAt_eq_set hg, set_get, if_pos rfl]
    · rw [hlum, handOver_link hg]
      exact ⟨fun hq => placed_queued hq _, fun hq hw => placed_waiting hq hw _, fun hq hu hs => placed_appended hq hu hs _⟩
  · exact demand_of_demanded fun x hx => by
      cases hg.symm.trans hx
      exact hd.symm
  · have hsteps := stepsAtOnce_rest hd ht hp
    refine ⟨oneStep z r.present level, by rw [oneStep], ?_⟩
    rw [demand_eq hg, demandedGroup, if_pos hsteps, if_pos hsteps]
    exact ⟨rfl, fun hq => placed_queued hq _, fun hq hw => placed_waiting hq hw _, fun hq hu hs => placed_appended hq hu hs _⟩

end Sys2Proof.Proofs
end

section
/-! PROOFS. The phases of a run: the fade wait once tested, recomposition of the segments that a change of levels concerns, and
what an expiry of the stage timer gathers and enters (R137 to R141, R143). -/

namespace Sys2Proof.Proofs

open Sys2Proof Sys2Proof.Machine Sys2Proof.Safety Sys2Proof.Laws

/-! ## The fade wait once tested (R138) -/

/-- A run in its fade wait once the wait has been tested. -/
def tested (r : CalRun) (l : Lum) : CalRun :=
  if fadeWaitMet r l then { r with stage := .settle, timer := some r.params.settle } else r

theorem testFadeWait_tested {s : State} {r : CalRun} (h : s.cal.run = some r) (hs : r.stage = .fadeWait) :
    testFadeWait s = setRun (tested r s.lum) s := by
  unfold tested
  split
  · next hm => exact testFadeWait_met h hs hm
  · next hm =>
    rw [testFadeWait_unmet h (Bool.eq_false_of_not_eq_true hm), setRun, ← h]
    rfl

section
variable (r : CalRun) (l : Lum)

theorem tested_eq : tested r l = { r with stage := (tested r l).stage, timer := (tested r l).timer } := by
  unfold tested
  split <;> rfl

theorem tested_stage (hs : r.stage = .fadeWait) (ht : r.timer = none) :
    (tested r l).stage = .fadeWait ∧ (tested r l).timer = none ∨
      (tested r l).stage = .settle ∧ (tested r l).timer = some r.params.settle := by
  unfold tested
  split
  · exact .inr ⟨rfl, rfl⟩
  · exact .inl ⟨hs, ht⟩

/-- The wait has ended exactly where every involved group is at rest at its assigned level. -/
theorem tested_settle_iff (hs : r.stage = .fadeWait) (h : ∀ g ∈ r.groups, groupExists l g = true) :
    (tested r l).stage = .settle ↔ Faded (tested r l) l := by
  have hsame : Faded (tested r l) l ↔ Faded r l := by rw [tested_eq]
  rw [hsame, ← fadeWaitMet_iff h]
  unfold tested
  by_cases hm : fadeWaitMet r l = true
  · rw [if_pos hm]
    exact iff_of_true rfl hm
  · rw [if_neg hm, hs]
    exact iff_of_false (by decide) hm

end

/-! ## Recomposition in a state that differs in groups and run -/

/-- Composition reads of the run the assigned levels alone (R68). -/
theorem demandLevel_setRun {s : State} {r r' : CalRun} (h : s.cal.run = some r) (ha : r'.assigned = r.assigned) (i : SegId)
    (b : BandId) : demandLevel (setRun r' s) i b = demandLevel s i b := by
  have hlevel : ((setRun r' s).cal.run.map fun r => r.assigned[groupOf i b]) =
      s.cal.run.map fun r => r.assigned[groupOf i b] := by
    rw [h, setRun_cal, Option.map_some, Option.map_some, ha]
  unfold demandLevel
  rw [hlevel]
  rfl

theorem recomposed_setRun {s : State} {r r' : CalRun} (h : s.cal.run = some r) (ha : r'.assigned = r.assigned)
    (chosen : SegId → Bool) (l : Lum) : recomposed chosen (setRun r' s) l = recomposed chosen s l := by
  unfold recomposed
  simp only [demandLevel_setRun h ha]
  rfl

theorem handedDown_exists (chosen : GroupId → Bool) (want : GroupId → Nat) (z : SegId → StepSizes) (l : Lum) (g : GroupId) :
    groupExists (handedDown chosen want z l) g = groupExists l g := by
  rw [groupExists, handedDown, ofFn_get]
  split
  · exact Option.isSome_map ..
  · rfl

theorem recomposed_exists (chosen : SegId → Bool) (t : State) (l : Lum) (g : GroupId) :
    groupExists (recomposed chosen t l) g = groupExists l g := handedDown_exists ..

/-- Only the demands and step sizes of the chosen groups matter. -/
theorem handedDown_congr {chosen : GroupId → Bool} {want want' : GroupId → Nat} {z z' : SegId → StepSizes}
    (h : ∀ g, chosen g = true → want g = want' g ∧ z (segOf g) = z' (segOf g)) (l : Lum) :
    handedDown chosen want z l = handedDown chosen want' z' l := by
  rw [← foldl_demand_eq_handedDown, ← foldl_demand_eq_handedDown]
  refine List.foldl_ext _ _ _ fun k g hg => ?_
  obtain ⟨hwant, hz⟩ := h g (List.mem_filter.mp hg).2
  rw [hwant, hz]

/-- Segments recomposed one after the other change groups and link alone. -/
theorem foldl_recompose_eq : ∀ (l : List SegId) (s : State), l.foldl (fun s i => recompose i s) s =
    s.setLum ((l.flatMap fun i => (bandsOf s i).map (groupOf i)).foldl (demandBy s) s.lum) := by
  intro l
  induction l with
  | nil => exact fun s => rfl
  | cons a l ih =>
    intro s
    have hone : recompose a s = s.setLum (((bandsOf s a).map (groupOf a)).foldl (demandBy s) s.lum) := by
      rw [← recompose_lum]
      rfl
    rw [List.foldl_cons, ih, hone, List.flatMap_cons, List.foldl_append]
    rfl

theorem foldl_recompose (chosen : SegId → Bool) (s : State) :
    ((List.finRange 16).filter chosen).foldl (fun s i => recompose i s) s = s.setLum (recomposed chosen s s.lum) := by
  rw [foldl_recompose_eq, foldl_demandBy_eq_recomposed]

/-! ## Entry to a phase (R137, R138) -/

/-- The segments that a change of the assigned levels concerns. -/
def concerned (r : CalRun) (new : Vector Nat 48) (i : SegId) : Bool :=
  maskHas r.segments i && r.groups.any fun g => segOf g == i && r.assigned[g] != new[g]

theorem concerned_iff {r : CalRun} {new : Vector Nat 48} {i : SegId} : concerned r new i = true ↔
    maskHas r.segments i = true ∧ ∃ g ∈ r.groups, segOf g = i ∧ new[g] ≠ r.assigned[g] := by
  simp only [concerned, Bool.and_eq_true, List.any_eq_true, beq_iff_eq, bne_iff_ne]
  exact and_congr_right fun _ => exists_congr fun g => and_congr_right fun _ => and_congr_right fun _ => ne_comm

theorem changedSegs_eq (r : CalRun) (new : Vector Nat 48) :
    changedSegs r new = (List.finRange 16).filter (concerned r new) := by
  rw [changedSegs, maskSegs, List.filter_filter]
  exact List.filter_congr fun i _ => Bool.and_comm ..

/-- The run as it enters a phase. -/
def phaseRun (f : Phase) (probe cycle : Nat) (r : CalRun) : CalRun :=
  { r with
    phase := f, stage := .fadeWait, timer := none, probe := probe, cycle := cycle
    assigned := phaseLevels f r.params r.groups probe }

/-- The groups and the link once a phase's levels are handed down. -/
def phaseLum (f : Phase) (probe cycle : Nat) (r : CalRun) (s : State) : Lum :=
  recomposed (concerned r (phaseRun f probe cycle r).assigned) (setRun (phaseRun f probe cycle r) s) s.lum

theorem enterPhase_eq (f : Phase) (probe cycle : Nat) (r : CalRun) (s : State) : enterPhase f probe cycle r s =
    setRun (tested (phaseRun f probe cycle r) (phaseLum f probe cycle r s)) (s.setLum (phaseLum f probe cycle r s)) := by
  have hfold := foldl_recompose (concerned r (phaseRun f probe cycle r).assigned) (setRun (phaseRun f probe cycle r) s)
  have henter : enterPhase f probe cycle r s = testFadeWait ((changedSegs r (phaseRun f probe cycle r).assigned).foldl
    (fun s i => recompose i s) (setRun (phaseRun f probe cycle r) s)) := rfl
  rw [henter, changedSegs_eq, hfold, testFadeWait_tested (r := phaseRun f probe cycle r) rfl rfl]
  rfl

/-- The levels of a phase after SETTLE_BASE in the words of the statement (R137). -/
theorem phaseLevels_spec {f : Phase} (hf : f ≠ .settleBase) (q : CalParams) (groups : List GroupId) (probe : Nat)
    (g : GroupId) : (phaseLevels f q groups probe)[g] =
      if groups.contains g = false ∨ f = .dark then 0
      else if groups[probe]? = some g then (if f = .probeHigh then q.highEff else q.low)
      else q.base := by
  rw [phaseLevels_get, probeGroup]
  cases groups.contains g with
  | false => simp
  | true => cases f <;> simp [phaseLevel] at hf ⊢

/-! ## What an expiry gathers (R140, R141, R143) -/

/-- The run with what the expiry that ends a phase gathers. -/
def gatheredAt (r : CalRun) : CalRun :=
  if r.phase = .dark ∨ r.phase = .probeLow ∧ r.params.loops ≤ r.cycle then lastGathered r else r

theorem mapInvolved_eq (r : CalRun) (f : CalSensor → CalSensor) :
    mapInvolved r f = { r with gathered := (mapInvolved r f).gathered } := by
  simp only [mapInvolved]

theorem lastGathered_eq (r : CalRun) : lastGathered r = { r with gathered := (lastGathered r).gathered } := by
  unfold lastGathered
  split
  · exact mapInvolved_eq ..
  · split
    · rfl
    · exact mapInvolved_eq ..

theorem gatheredAt_eq (r : CalRun) : gatheredAt r = { r with gathered := (gatheredAt r).gathered } := by
  unfold gatheredAt
  split
  · exact lastGathered_eq r
  · rfl

theorem mapInvolved_uninvolved {r : CalRun} {k : SensorId} (h : r.sensors.contains k = false) (f : CalSensor → CalSensor) :
    (mapInvolved r f).gathered[k] = r.gathered[k] := (ofFn_get _ k).trans (if_neg (Bool.eq_false_iff.mp h))

theorem lastGathered_uninvolved {r : CalRun} {k : SensorId} (h : r.sensors.contains k = false) :
    (lastGathered r).gathered[k] = r.gathered[k] := by
  unfold lastGathered
  split
  · exact mapInvolved_uninvolved h _
  · split
    · rfl
    · exact mapInvolved_uninvolved h _

theorem gatheredAt_gathered (r : CalRun) (k : SensorId) : (gatheredAt r).gathered[k] =
    if r.sensors.contains k = false then r.gathered[k]
    else if r.phase = .dark then { r.gathered[k] with dark := darkOffset r.gathered[k] }
    else if r.phase = .probeLow ∧ r.params.loops ≤ r.cycle then
      match r.groups[r.probe]? with
      | none => r.gathered[k]
      | some g =>
        { r.gathered[k] with
          highSum := 0, highCount := 0, lowSum := 0, lowCount := 0
          measured := match coefficient r.params r.gathered[k] with
            | none => r.gathered[k].measured
            | some c => r.gathered[k].measured ++ [⟨g, c⟩] }
    else r.gathered[k] := by
  unfold gatheredAt
  cases hk : r.sensors.contains k with
  | false =>
    rw [if_pos rfl]
    split
    · exact lastGathered_uninvolved hk
    · rfl
  | true =>
    rw [if_neg (c := true = false) (by decide)]
    by_cases hdark : r.phase = .dark
    · rw [if_pos (.inl hdark), lastGathered_gathered hk, if_pos hdark, if_pos hdark]
    · by_cases hpair : r.phase = .probeLow ∧ r.params.loops ≤ r.cycle
      · rw [if_pos (.inr hpair), if_neg hdark, if_pos hpair]
        exact (lastGathered_gathered hk).trans (if_neg hdark)
      · rw [if_neg (not_or.mpr ⟨hdark, hpair⟩), if_neg hdark, if_neg hpair]

/-! ## The phase that follows (R139 to R141) -/

/-- An expiry that ends a phase other than the last enters this phase, probe position and cycle. -/
def GoesOn (r : CalRun) (next : Phase) (probe cycle : Nat) : Prop :=
  r.phase = .settleBase ∧ next = (if r.params.dark = .first then .dark else .probeHigh) ∧ probe = 0 ∧ cycle = 1 ∨
  r.phase = .dark ∧ r.params.dark = .first ∧ next = .probeHigh ∧ probe = 0 ∧ cycle = 1 ∨
  r.phase = .probeHigh ∧ next = .probeLow ∧ probe = r.probe ∧ cycle = r.cycle ∨
  r.phase = .probeLow ∧ r.cycle < r.params.loops ∧ next = .probeHigh ∧ probe = r.probe ∧ cycle = r.cycle + 1 ∨
  r.phase = .probeLow ∧ r.params.loops ≤ r.cycle ∧ r.probe + 1 < r.groups.length ∧ next = .probeHigh ∧
    probe = r.probe + 1 ∧ cycle = 1 ∨
  r.phase = .probeLow ∧ r.params.loops ≤ r.cycle ∧ r.groups.length ≤ r.probe + 1 ∧ r.params.dark = .last ∧
    next = .dark ∧ probe = r.probe ∧ cycle = r.cycle

section
variable {r : CalRun} {next : Phase} {probe cycle : Nat}

theorem GoesOn.next_ne (h : GoesOn r next probe cycle) : next ≠ .settleBase := by
  rcases h with ⟨_, hn, _⟩ | ⟨_, _, hn, _⟩ | ⟨_, hn, _⟩ | ⟨_, _, hn, _⟩ | ⟨_, _, _, hn, _⟩ | ⟨_, _, _, _, hn, _⟩
  · rw [hn]; split <;> decide
  all_goals rw [hn]; decide

/-- Nothing is gathered at the end of the other phases and cycles. -/
theorem gatheredAt_self (hd : r.phase ≠ .dark) (hc : r.phase = .probeLow → r.cycle < r.params.loops) : gatheredAt r = r :=
  if_neg fun h => h.elim hd fun ⟨hp, hl⟩ => Nat.not_lt.mpr hl (hc hp)

/-- The last cycle of a probe position settles its pairs and goes on to the next position, DARK, or the commit (R141). -/
theorem nextPhase_pairOver (hp : r.phase = .probeLow) (hc : r.params.loops ≤ r.cycle) (s : State) : nextPhase r s =
    if r.probe + 1 < r.groups.length then enterPhase .probeHigh (r.probe + 1) 1 (lastGathered r) s
    else if r.params.dark = .last then enterPhase .dark r.probe r.cycle (lastGathered r) s
    else commit (lastGathered r) s := by
  have hsame : ∀ x : CalRun, x = { r with gathered := x.gathered } →
      (if x.probe + 1 < x.groups.length then enterPhase .probeHigh (x.probe + 1) 1 x s
        else if x.params.dark = .last then enterPhase .dark x.probe x.cycle x s else commit x s) =
      if r.probe + 1 < r.groups.length then enterPhase .probeHigh (r.probe + 1) 1 x s
        else if r.params.dark = .last then enterPhase .dark r.probe r.cycle x s else commit x s := fun x hx => by rw [hx]
  have hdark : ¬ r.phase = .dark := by rw [hp]; decide
  rw [nextPhase, lastGathered, if_neg hdark]
  simp only [hp, if_neg (Nat.not_lt.mpr hc)]
  cases probeGroup r.groups r.probe with
  | none => rfl
  | some g => exact hsame _ (mapInvolved_eq ..)

theorem nextPhase_goesOn (h : GoesOn r next probe cycle) (s : State) :
    nextPhase r s = enterPhase next probe cycle (gatheredAt r) s := by
  rcases h with ⟨hp, rfl, rfl, rfl⟩ | ⟨hp, hd, rfl, rfl, rfl⟩ | ⟨hp, rfl, rfl, rfl⟩ | ⟨hp, hc, rfl, rfl, rfl⟩ |
    ⟨hp, hc, hg, rfl, rfl, rfl⟩ | ⟨hp, hc, hg, hd, rfl, rfl, rfl⟩
  · rw [gatheredAt_self (by rw [hp]; decide) (by simp [hp])]
    simp only [nextPhase, hp]
    split <;> rfl
  · rw [gatheredAt, if_pos (.inl hp), lastGathered, if_pos hp]
    simp only [nextPhase, hp, mapInvolved, hd, if_true]
  · rw [gatheredAt_self (by rw [hp]; decide) (by simp [hp])]
    simp only [nextPhase, hp]
  · rw [gatheredAt_self (by rw [hp]; decide) fun _ => hc]
    simp only [nextPhase, hp, if_pos hc]
  · rw [gatheredAt, if_pos (.inr ⟨hp, hc⟩), nextPhase_pairOver hp hc, if_pos hg]
  · rw [gatheredAt, if_pos (.inr ⟨hp, hc⟩), nextPhase_pairOver hp hc, if_neg (Nat.not_lt.mpr hg), if_pos hd]

end

/-! ## CAL_STAGE_TIMER_EXPIRY (R138) -/

section
variable {r : CalRun} {s : State}

theorem calStageTimerExpiry_settle (hr : s.cal.run = some r) (ht : r.timer ≠ none) (hs : r.stage = .settle) :
    calStageTimerExpiry s = { s with cal := { s.cal with
      run := some { r with
        stage := if r.phase = .settleBase then .baseHold else .sample
        timer := some (r.params.half - r.params.settle) } } } := by
  have htimer : r.timer.isSome = true := Option.isSome_iff_ne_none.mpr ht
  simp only [calStageTimerExpiry, hr, htimer, if_true, stageExpiry, hs]
  rfl

theorem calStageTimerExpiry_window (hr : s.cal.run = some r) (ht : r.timer ≠ none)
    (hs : r.stage = .sample ∨ r.stage = .baseHold) : calStageTimerExpiry s = nextPhase r s := by
  have htimer : r.timer.isSome = true := Option.isSome_iff_ne_none.mpr ht
  rcases hs with hs | hs <;> simp only [calStageTimerExpiry, hr, htimer, if_true, stageExpiry, hs]

/-- In a run over segments that are all CALIBRATING the segments concerned are handed the assigned levels by steps of 100
(R68, R100). -/
theorem recomposed_calibrating {t : State} {chosen : SegId → Bool} (hr : t.cal.run = some r)
    (h : ∀ i, chosen i = true → modeOf t i = .calibrating) (l : Lum) : recomposed chosen t l =
      handedDown (fun g => chosen (segOf g) && decide ((bandOf g).val < (segCfg t (segOf g)).bandCount))
        (fun g => r.assigned[g]) (fun _ => ⟨100, 100⟩) l := by
  refine handedDown_congr (fun g hg => ?_) l
  have hmode := h _ (Bool.and_eq_true _ _ ▸ hg : chosen (segOf g) = true ∧ _).1
  refine ⟨?_, if_pos (.inr hmode)⟩
  rw [demandLevel_calibrating _ hmode hr]
  exact congrArg (fun g : GroupId => r.assigned[g]) (groupOf_segOf g)

end

/-- Settles O58: an expiry that ends a phase gathers, enters the phase that follows, recomposes what its levels concern, and tests
the fade wait. -/
theorem calStages : Obligations.CalStages := by
  unfold Obligations.CalStages
  refine fun r s hr ht => ⟨fun hs => congrArg Host.Outcome.next (calStageTimerExpiry_settle hr ht hs),
    fun hs next probe cycle h => ?_⟩
  have hgo : GoesOn r next probe cycle := h
  have hgathered := gatheredAt_gathered r
  have hexec : exec .calStageTimerExpiry s = .next (enterPhase next probe cycle (gatheredAt r) s) :=
    congrArg Host.Outcome.next ((calStageTimerExpiry_window hr ht hs).trans (nextPhase_goesOn hgo s))
  rw [gatheredAt_eq r, enterPhase_eq] at hexec
  generalize (gatheredAt r).gathered = gathered at hexec hgathered
  generalize hlum : phaseLum next probe cycle { r with gathered := gathered } s = l at hexec
  generalize hrun : phaseRun next probe cycle { r with gathered := gathered } = r₁ at hexec
  have hstage : r₁.stage = .fadeWait := by rw [← hrun]; rfl
  have htimer : r₁.timer = none := by rw [← hrun]; rfl
  have hassigned : r₁.assigned = phaseLevels next r.params r.groups probe := by rw [← hrun]; rfl
  have hfields : tested r₁ l = { r with
      phase := next, probe := probe, cycle := cycle, gathered := gathered, assigned := r₁.assigned
      stage := (tested r₁ l).stage, timer := (tested r₁ l).timer } := by rw [tested_eq, ← hrun]; rfl
  have hlum : recomposed (concerned r r₁.assigned) (setRun r₁ s) s.lum = l := by rw [← hlum, ← hrun]; rfl
  have hstages := tested_stage r₁ l hstage htimer
  have hsettle := tested_settle_iff r₁ l hstage
  have hparams : r₁.params = r.params := by rw [← hrun]; rfl
  have hgroups : r₁.groups = r.groups := by rw [← hrun]; rfl
  rw [hparams] at hstages
  rw [hgroups] at hsettle
  generalize tested r₁ l = r' at hexec hfields hstages hsettle
  have hlevels : r'.assigned = r₁.assigned := by rw [hfields]
  refine ⟨_, r', hexec, rfl, by rw [hfields], by rw [hfields], by rw [hfields], by rw [hfields], by rw [hfields],
    by rw [hfields], by rw [hfields], hstages, fun hex => hsettle fun g hg => ?_, fun k => ?_, fun g => ?_,
    ⟨concerned r r₁.assigned, fun i => ?_, ?_, fun hcal => ?_⟩, rfl, rfl, rfl, rfl, rfl, rfl, rfl, rfl⟩
  · rw [← hlum, recomposed_exists]
    exact hex g hg
  · rw [hfields]
    exact hgathered k
  · rw [hlevels, hassigned]
    exact phaseLevels_spec hgo.next_ne r.params r.groups probe g
  · rw [hlevels]
    exact concerned_iff
  · calc l = recomposed (concerned r r₁.assigned) (setRun r₁ s) s.lum := hlum.symm
      _ = recomposed (concerned r r₁.assigned) (setRun r' (setRun r₁ s)) s.lum := (recomposed_setRun rfl hlevels _ _).symm
  · have hmodes : ∀ i, concerned r r₁.assigned i = true → modeOf (setRun r₁ s) i = .calibrating := fun i hi =>
      hcal i (concerned_iff.mp hi).1
    rw [hlevels]
    exact hlum.symm.trans (recomposed_calibrating rfl hmodes s.lum)

end Sys2Proof.Proofs
end

section
/-! PROOFS. CAL_START accepted: the lowest cap, the parameters brought into range, and the run that begins (R133 to R138). -/

namespace Sys2Proof.Proofs

open Sys2Proof Sys2Proof.Machine Sys2Proof.Safety Sys2Proof.Laws

/-! ## The lowest cap (R135) -/

/-- Without a cap over the mask the bound is the top of the levels. -/
theorem capMin_uncapped {t : List Entry} {m : SegMask} (h : ∀ i, maskHas m i = true → capsOver t i = []) :
    capMin t m = 1000 := by
  have hnone : (maskSegs m).filterMap (lowestCap t) = [] := List.filterMap_eq_nil_iff.mpr fun i hi => by
    rw [lowestCap, h i (mem_maskSegs.mp hi)]
    rfl
  rw [capMin, hnone]
  rfl

/-- With one it is the lowest level among them. -/
theorem capMin_eq {t : List Entry} {m : SegMask} {cap : Nat} (h : ∃ i, maskHas m i = true ∧ cap ∈ capsOver t i)
    (hlow : ∀ i, maskHas m i = true → ∀ c ∈ capsOver t i, cap ≤ c) : capMin t m = cap := by
  obtain ⟨i, hi, hmem⟩ := h
  refine Nat.le_antisymm (capMin_le hi hmem) ?_
  have hlowest : ∀ c ∈ (maskSegs m).filterMap (lowestCap t), cap ≤ c := fun c hc => by
    obtain ⟨j, hj, hcj⟩ := List.mem_filterMap.mp hc
    exact hlow j (mem_maskSegs.mp hj) c (List.min?_mem hcj)
  have hsome : (maskSegs m).filterMap (lowestCap t) ≠ [] := fun hnil => by
    have hnone := List.filterMap_eq_nil_iff.mp hnil i (mem_maskSegs.mpr hi)
    rw [lowestCap, List.min?_eq_none_iff] at hnone
    rw [hnone] at hmem
    cases hmem
  unfold capMin
  cases hmin : ((maskSegs m).filterMap (lowestCap t)).min? with
  | none => exact absurd (List.min?_eq_none_iff.mp hmin) hsome
  | some c => exact hlowest c (List.min?_mem hmin)

/-! ## The parameters (R133, R135) -/

theorem clampStep_eq (lo hi step n : Nat) :
    clampStep lo hi step n = if n < lo then lo else if hi < n then hi else n - n % step := by
  have hdown : n / step * step = n - n % step := by
    have hdiv := Nat.div_add_mod' n step
    omega
  rw [clampStep, hdown]

theorem darkOption?_eq {n : Nat} (h : n < 3) :
    darkOption? n = some (if n = 0 then .none else if n = 1 then .first else .last) := by
  match n, h with
  | 0, _ | 1, _ | 2, _ => rfl

theorem levelCheck_passed {cap : Nat} {q : CalParams} (hb : q.base ≤ cap) (hhigh : q.low + 100 ≤ q.high)
    (heff : q.low + 100 ≤ q.highEff) : levelCheck cap q = none := by
  rw [levelCheck, if_neg (Nat.not_lt.mpr hb), if_neg (Nat.not_lt.mpr hhigh), if_neg (Nat.not_lt.mpr heff)]

section
variable (cap base high low half settle loops : Nat) (d : DarkOption)

/-- The parameters in the words of the statement. -/
theorem takeParams_spec (hloops : loops ≤ 15) :
    (takeParams cap base high low half settle loops d).base = min base 1000 ∧
    (takeParams cap base high low half settle loops d).high = min high 1000 ∧
    (takeParams cap base high low half settle loops d).highEff = min (min high 1000) cap ∧
    (takeParams cap base high low half settle loops d).low = min low 1000 ∧
    (takeParams cap base high low half settle loops d).half =
      (if half < 500 then 500 else if 10000 < half then 10000 else half - half % 100) ∧
    (takeParams cap base high low half settle loops d).settle =
      (if settle < 100 then 100
      else if (takeParams cap base high low half settle loops d).half - 100 < settle then
        (takeParams cap base high low half settle loops d).half - 100
      else settle - settle % 100) ∧
    (takeParams cap base high low half settle loops d).loops = max 1 loops ∧
    (takeParams cap base high low half settle loops d).dark = d := by
  refine ⟨rfl, rfl, rfl, rfl, clampStep_eq .., clampStep_eq .., ?_, rfl⟩
  exact (clampTo_eq (by decide) loops).trans (by rw [Nat.min_eq_left hloops])

/-- Nothing is adjusted exactly where every parameter lies in its range (R133). -/
theorem adjusted_iff (hloops : loops ≤ 15) :
    adjusted (takeParams cap base high low half settle loops d) base high low half settle loops = false ↔
      base ≤ 1000 ∧ high ≤ 1000 ∧ low ≤ 1000 ∧ (takeParams cap base high low half settle loops d).half = half ∧
        (takeParams cap base high low half settle loops d).settle = settle ∧ 1 ≤ loops := by
  have hrange : (takeParams cap base high low half settle loops d).loops = loops ↔ 1 ≤ loops :=
    (clampTo_eq_self_iff (by decide)).trans (and_iff_left hloops)
  have hbase : (takeParams cap base high low half settle loops d).base = base ↔ base ≤ 1000 := min_eq_left_iff
  have hhigh : (takeParams cap base high low half settle loops d).high = high ↔ high ≤ 1000 := min_eq_left_iff
  have hlow : (takeParams cap base high low half settle loops d).low = low ↔ low ≤ 1000 := min_eq_left_iff
  simp only [adjusted, Bool.or_eq_false_iff, bne_eq_false_iff_eq, hrange, hbase, hhigh, hlow, and_assoc]

end

/-! ## The checks passed (R134, R135) -/

theorem calStart_accepted {m : SegMask} {base high low half su opt : Nat} {s : State} {d : DarkOption}
    (hidle : s.cal.run = none) (hm : m &&& configuredMask s ≠ 0)
    (hmodes : ∀ i : SegId, maskHas (m &&& configuredMask s) i = true → modeOf s i ≠ .locked ∧ modeOf s i ≠ .held)
    (hlink : s.lum.link.state = .running) (hdark : darkOption? (opt / 16) = some d)
    (hlevel : levelCheck (capMin s.table.entries (m &&& configuredMask s))
      (takeParams (capMin s.table.entries (m &&& configuredMask s)) base high low half (su * 50) (opt % 16) d) = none) :
    calStart m base high low half su opt s =
      ⟨beginRun (m &&& configuredMask s)
        (takeParams (capMin s.table.entries (m &&& configuredMask s)) base high low half (su * 50) (opt % 16) d)
        (m &&& configuredMask s != m ||
          adjusted (takeParams (capMin s.table.entries (m &&& configuredMask s)) base high low half (su * 50) (opt % 16) d)
            base high low half (su * 50) (opt % 16)) s, .accepted, []⟩ := by
  have hlocked : ¬ ((maskSegs (m &&& configuredMask s)).any fun i => modeOf s i == .locked) = true := by
    rw [List.any_eq_true]
    rintro ⟨i, hi, hmode⟩
    exact (hmodes i (mem_maskSegs.mp hi)).1 (beq_iff_eq.mp hmode)
  have hheld : ¬ ((maskSegs (m &&& configuredMask s)).any fun i => modeOf s i == .held) = true := by
    rw [List.any_eq_true]
    rintro ⟨i, hi, hmode⟩
    exact (hmodes i (mem_maskSegs.mp hi)).2 (beq_iff_eq.mp hmode)
  unfold calStart
  dsimp only
  rw [if_neg (by simp [hidle]), if_neg hm, if_neg hlocked, if_neg hheld, hlink, hdark]
  dsimp only
  rw [hlevel]

/-! ## The run that begins (R136 to R138) -/

section
variable {m : SegMask} (q : CalParams) (clamped : Bool) (s : State)

theorem newRun_groups {g : GroupId} (h : g ∈ (newRun m q s).groups) : groupExists s.lum g = true := by
  have hg := (List.mem_filter.mp h).2
  rw [Bool.and_eq_true] at hg
  exact hg.2

theorem newRun_sensors (hm : ∀ i, maskHas m i = true → configured s i = true) (k : SensorId) :
    (newRun m q s).sensors.contains k = true ↔ ∃ i : SegId, maskHas m i = true ∧
      ((segCfg s i).primary = some k ∨ (segCfg s i).secondary = some k) := by
  have hmem : (newRun m q s).sensors.contains k = true ↔ ∃ i ∈ maskSegs m, segUses (segCfg s i) k = true := by
    rw [List.contains_iff_mem, newRun, List.mem_filter, List.any_eq_true]
    exact and_iff_right (List.mem_finRange k)
  rw [hmem]
  refine exists_congr fun i => ?_
  rw [mem_maskSegs]
  refine and_congr_right fun hi => ?_
  have hc : (segCfg s i).configured = true := hm i hi
  simp [segUses, hc]

theorem newRun_assigned (g : GroupId) : (newRun m q s).assigned[g] =
    if (newRun m q s).groups.contains g = true ∧ q.dark ≠ .first then q.base else 0 := by
  have hlevel : (newRun m q s).assigned[g] =
      if (newRun m q s).groups.contains g then (if q.dark = .first then 0 else q.base) else 0 := phaseLevels_get ..
  rw [hlevel]
  by_cases hd : q.dark = .first
  · rw [if_pos hd, ite_self, if_neg fun h => h.2 hd]
  · rw [if_neg hd]
    exact if_congr (and_iff_left hd).symm rfl rfl

/-- The result record of a run that begins. -/
def runningResult (m : SegMask) : CalResult := ⟨.running, m, q, clamped, Vector.replicate 32 .notInvolved⟩

/-- The state of a new run whose segments have entered CALIBRATING. -/
def entered (m : SegMask) : State :=
  (maskSegs m).foldl enterCalibrating (s.setCal ⟨some (newRun m q s), runningResult q clamped m⟩)

theorem beginRun_eq : beginRun m q clamped s =
    setRun (tested (newRun m q s) (entered q clamped s m).lum) (entered q clamped s m) := by
  have hcal : (entered q clamped s m).cal.run = some (newRun m q s) := by
    rw [entered, (remoded_entering m _).quiet.cal]
    rfl
  exact testFadeWait_tested hcal rfl

/-- Everything that the beginning of a run over configured segments changes (R136 to R138). -/
theorem beginRun_spec (hm : ∀ i, maskHas m i = true → configured s i = true) : ∃ (t : State) (r : CalRun),
    beginRun m q clamped s = t ∧ t.cal = ⟨some r, runningResult q clamped m⟩ ∧
    r = { newRun m q s with stage := r.stage, timer := r.timer } ∧
    (r.stage = .fadeWait ∧ r.timer = none ∧ ¬ Faded r t.lum ∨
      r.stage = .settle ∧ r.timer = some q.settle ∧ Faded r t.lum) ∧
    (∀ i : SegId, t.ctrls[i] = if maskHas m i = true then { s.ctrls[i] with mode := .calibrating } else s.ctrls[i]) ∧
    Recomposed m s t ∧ OnlyEvents s t ∧ t.layout = s.layout ∧ t.sensors = s.sensors ∧ t.coupling = s.coupling ∧
    t.table = s.table ∧ t.energy = s.energy ∧ t.pending = s.pending := by
  have hentered : Remoded (maskHas m) (fun _ => .calibrating) (s.setCal ⟨some (newRun m q s), runningResult q clamped m⟩)
    (entered q clamped s m) := remoded_entering m _
  have hbegin := beginRun_eq (m := m) q clamped s
  generalize entered q clamped s m = u at hentered hbegin
  obtain ⟨hquiet, hctrls, hlum⟩ := hentered
  have hcal : u.cal = ⟨some (newRun m q s), runningResult q clamped m⟩ := hquiet.cal
  have hexist : ∀ g ∈ (newRun m q s).groups, groupExists u.lum g = true := fun g hg => by
    rw [hlum, recomposed_exists]
    exact newRun_groups q s hg
  have hfields := tested_eq (newRun m q s) u.lum
  have hstages := tested_stage (newRun m q s) u.lum rfl rfl
  have hsettle := tested_settle_iff (newRun m q s) u.lum rfl hexist
  generalize tested (newRun m q s) u.lum = r at hbegin hfields hstages hsettle
  refine ⟨_, r, hbegin, ?_, hfields, ?_, fun i => ?_, ?_, hquiet.ports, hquiet.layout, hquiet.sensors, hquiet.coupling,
    hquiet.table, hquiet.energy, hquiet.pending⟩
  · exact congrArg (fun x : Calibration => { x with run := some r }) hcal
  · rcases hstages with ⟨hstage, htimer⟩ | ⟨hstage, htimer⟩
    · exact .inl ⟨hstage, htimer, fun hf => by rw [hsettle.mpr hf] at hstage; cases hstage⟩
    · exact .inr ⟨hstage, htimer, hsettle.mp hstage⟩
  · refine (hctrls i).trans (if_congr Iff.rfl ?_ rfl)
    rw [changedCtrl_eq]
    split
    · next hmode => exact congrArg (fun x => { s.ctrls[i] with mode := x }) hmode
    · rfl
  · have hassigned : r.assigned = (newRun m q s).assigned := by rw [hfields]
    have hchosen : (fun i => maskHas m i && configured (setRun r u) i) = maskHas m := funext fun i => by
      have hconf : configured (setRun r u) i = configured s i := by
        rw [configured, segCfg, setRun_layout, hquiet.layout]
        rfl
      rw [hconf, Bool.and_eq_left_iff_imp]
      exact hm i
    unfold Recomposed
    rw [hchosen, recomposed_setRun (r := newRun m q s) (congrArg Calibration.run hcal) hassigned]
    exact hlum

end

/-- Settles O56: the checks passed leave the run to begin with the parameters brought into range. -/
theorem calStartAccepted : Obligations.CalStartAccepted := by
  unfold Obligations.CalStartAccepted
  intro p link tag m lb h l hp su o cap s hruns hidle hm hmodes hlink hopt hcap hbase hlow
  have hmem : ∀ i, maskHas (m &&& configuredMask s) i = true ↔ maskHas m i = true ∧ configured s i = true := fun i => by
    rw [maskHas_and, maskHas_configuredMask, Bool.and_eq_true]
  have hcapmin : capMin s.table.entries (m &&& configuredMask s) = cap := by
    rcases hcap with ⟨rfl, hnone⟩ | ⟨⟨i, hi, hc, hcov⟩, hle⟩
    · exact capMin_uncapped fun i hi => hnone i ((hmem i).mp hi).1 ((hmem i).mp hi).2
    · exact capMin_eq ⟨i, (hmem i).mpr ⟨hi, hc⟩, hcov⟩ fun j hj => hle j ((hmem j).mp hj).1 ((hmem j).mp hj).2
  have hdark := darkOption?_eq hopt
  generalize (if o / 16 = 0 then DarkOption.none else if o / 16 = 1 then .first else .last) = d at hdark
  have hclamped := adjusted_iff cap lb h l hp (su * 50) (o % 16) d (by omega)
  have hstart := calStart_accepted (base := lb) (high := h) (low := l) (half := hp) (su := su) hidle hm
    (fun i hi => hmodes i ((hmem i).mp hi).1 ((hmem i).mp hi).2) hlink hdark
    (by rw [hcapmin]; exact levelCheck_passed hbase (hlow.trans (Nat.min_le_left ..)) hlow)
  rw [hcapmin] at hstart
  have hexec : exec (.calStart p) s = .next (placeReply p ⟨link, tag, .calStart m lb h l hp su o⟩
      (calStart m lb h l hp su o s).status (calStart m lb h l hp su o s).payload (calStart m lb h l hp su o s).state) :=
    congrArg Host.Outcome.next (serve_runs _ hruns)
  rw [hstart] at hexec
  obtain ⟨hqbase, hqhigh, hqeff, hqlow, hqhalf, hqsettle, hqloops, hqdark⟩ :=
    takeParams_spec cap lb h l hp (su * 50) (o % 16) d (by omega)
  generalize takeParams cap lb h l hp (su * 50) (o % 16) d = q at *
  generalize hadj : (m &&& configuredMask s != m || adjusted q lb h l hp (su * 50) (o % 16)) = clamped at hexec
  obtain ⟨t, r, hbegin, hcal, hrun, hstages, hctrls, hframe⟩ := beginRun_spec (m := m &&& configuredMask s) q clamped s
    fun i hi => ((hmem i).mp hi).2
  rw [hbegin] at hexec
  refine ⟨t, q, r, hexec, hqbase, hqhigh, hqeff, hqlow, hqhalf, hqsettle, hqloops, hqdark,
    ⟨clamped, by rw [hcal, runningResult], ?_⟩, by rw [hcal], by rw [hrun, newRun], by rw [hrun, newRun],
    by rw [hrun, newRun], by rw [hrun, newRun]; rfl, by rw [hrun, newRun], fun k => ?_, fun g => ?_, hstages, ?_⟩
  · rw [← hadj, Bool.or_eq_false_iff, bne_eq_false_iff_eq, hclamped]
  · rw [hrun]
    exact newRun_sensors q s (fun i hi => ((hmem i).mp hi).2) k
  · rw [hrun]
    exact newRun_assigned q s g
  · have hsegs : r.segments = m &&& configuredMask s := by rw [hrun, newRun]
    rw [hsegs]
    exact ⟨hctrls, hframe⟩


end Sys2Proof.Proofs
end

section
/-! PROOFS. The law of the luminaire link group by group (R115, R116, R126): what the arbiter, the placing of a level and a
change of the group table leave of it. -/

namespace Sys2Proof.Proofs

open Sys2Proof Sys2Proof.Machine Sys2Proof.Safety Sys2Proof.Laws

/-! ## The law group by group -/

/-- The link by itself: its queue without repeats, nothing waiting in PAUSED or in transmission in PAUSED and DOWN, and DOWN
as the detector reports. -/
structure LinkShape (k : Link) : Prop where
  nodup : (k.queue.map Prod.fst).Nodup
  paused : k.state = .paused → k.queue = [] ∧ k.tx = none
  down : k.state = .down → k.tx = none
  fault : k.state = .down ↔ k.faultReported = true

/-- The arbiter has looked: a free link that sends has nothing queued (R117). -/
def Granted (k : Link) : Prop := k.state = .running ∨ k.state = .draining → k.tx = none → k.queue = []

/-- The present level of a group's record is queued, marked unsent, in transmission, or the last one sent (R116). -/
def Heard (k : Link) (g : GroupId) (r : Group) : Prop :=
  queued k g = true ∨ r.unsent = true ∨ k.tx = some (.setLevel g r.present true) ∨
    (∀ v b, k.tx ≠ some (.setLevel g v b)) ∧ r.lastSent = some r.present

/-- What the law says of one group and its record. -/
structure Served (k : Link) (g : GroupId) (x : Option Group) : Prop where
  entry : ∀ n, (g, n) ∈ k.queue → ∃ r ∈ x, r.unsent = false ∧ n = r.present
  flag : k.state = .running → ∀ r ∈ x, r.unsent = false
  heard : k.state ≠ .down → ∀ r ∈ x, Heard k g r

/-- The law but for a grant that the arbiter may still owe. -/
structure Serving (l : Lum) : Prop where
  shape : LinkShape l.link
  served : ∀ g : GroupId, Served l.link g l.groups[g]

theorem lumLaw_iff {l : Lum} : LumLaw l ↔ Serving l ∧ Granted l.link := by
  constructor
  · rintro ⟨⟨hnodup, hentry⟩, ⟨hflag, hpaused, hdown, hgranted⟩, hsent, hfault⟩
    exact ⟨⟨⟨hnodup, hpaused, hdown, hfault⟩, fun g => ⟨fun n hn => hentry (g, n) hn, fun h => hflag h g,
      fun h => hsent h g⟩⟩, hgranted⟩
  · rintro ⟨⟨⟨hnodup, hpaused, hdown, hfault⟩, hserved⟩, hgranted⟩
    exact ⟨⟨hnodup, fun e he => (hserved e.1).entry e.2 he⟩,
      ⟨fun h g => (hserved g).flag h, hpaused, hdown, hgranted⟩, fun h g => (hserved g).heard h, hfault⟩

/-- A record with the same present level, flag and last-sent level is served the same. -/
theorem Served.map {k : Link} {g : GroupId} {x : Option Group} (h : Served k g x) {f : Group → Group}
    (hf : ∀ r, (f r).present = r.present ∧ (f r).unsent = r.unsent ∧ (f r).lastSent = r.lastSent) :
    Served k g (x.map f) := by
  have hmap : ∀ {P : Group → Prop}, (∀ r, P r → P (f r)) → (∀ r ∈ x, P r) → ∀ r ∈ x.map f, P r := fun hP hx r hr => by
    obtain ⟨r₀, hr₀, rfl⟩ := Option.map_eq_some_iff.mp hr
    exact hP r₀ (hx r₀ hr₀)
  refine ⟨fun n hn => ?_, fun hs => hmap (fun r hr => ?_) (h.flag hs), fun hs => hmap (fun r hr => ?_) (h.heard hs)⟩
  · obtain ⟨r, hr, hu, hp⟩ := h.entry n hn
    obtain ⟨hpresent, hunsent, _⟩ := hf r
    exact ⟨f r, by rw [Option.mem_def.mp hr]; rfl, hunsent.trans hu, hp.trans hpresent.symm⟩
  · obtain ⟨_, hunsent, _⟩ := hf r
    exact hunsent.trans hr
  · obtain ⟨hpresent, hunsent, hlast⟩ := hf r
    rwa [Heard, hpresent, hunsent, hlast]

/-- A group whose record is gone, and with it its entries. -/
theorem served_none {k : Link} {g : GroupId} (h : ∀ n, (g, n) ∉ k.queue) : Served k g none :=
  ⟨fun n hn => absurd hn (h n), fun _ => nofun, fun _ => nofun⟩

/-- Of the link the law reads state, queue, transmission and the detector's report alone. -/
theorem Serving.relink {l : Lum} (h : Serving l) {k : Link} (hs : k.state = l.link.state) (hq : k.queue = l.link.queue)
    (ht : k.tx = l.link.tx) (hf : k.faultReported = l.link.faultReported) : Serving { l with link := k } := by
  obtain ⟨⟨hnodup, hpaused, hdown, hfault⟩, hserved⟩ := h
  refine ⟨⟨by rwa [hq], by rwa [hs, hq, ht], by rwa [hs, ht], by rwa [hs, hf]⟩, fun g => ?_⟩
  obtain ⟨hentry, hflag, hheard⟩ := hserved g
  exact ⟨by rwa [hq], by rwa [hs], by simpa only [hs, Heard, queued, hq, ht] using hheard⟩

theorem mem_queued {k : Link} {g : GroupId} : queued k g = true ↔ ∃ n, (g, n) ∈ k.queue := by simp [queued]

/-! ## The arbiter (R117, R124) -/

theorem sends_iff {k : Link} : sends k = true ↔ k.state = .running ∨ k.state = .draining := by
  simp [sends]

theorem granted_arbitrate (k : Link) : Granted (arbitrate k) := fun hs ht => by
  rw [arbitrate_state] at hs
  rcases arbitrate_cases k with ⟨e, hn | hn | ⟨hq, _⟩⟩ | ⟨_, _, _, _, e⟩ | ⟨_, _, _, _, _, _, _, e⟩ <;> rw [e] at ht ⊢
  · simp [sends_iff.mpr hs] at hn
  · exact absurd ht hn
  · exact hq
  · cases ht
  · cases ht

/-- A link that sends is neither PAUSED nor DOWN. -/
theorem not_idle_of_sends {k : Link} (h : sends k = true) : k.state ≠ .paused ∧ k.state ≠ .down := by
  rcases sends_iff.mp h with h | h <;> simp [h]

theorem LinkShape.arbitrate {k : Link} (h : LinkShape k) : LinkShape (arbitrate k) := by
  rcases arbitrate_cases k with ⟨e, _⟩ | ⟨hs, _, _, _, e⟩ | ⟨g, n, rest, hs, _, hq, _, e⟩ <;> rw [e]
  · exact h
  · obtain ⟨hp, hd⟩ := not_idle_of_sends hs
    exact ⟨h.nodup, fun he => absurd he hp, fun he => absurd he hd, h.fault⟩
  · obtain ⟨hp, hd⟩ := not_idle_of_sends hs
    have hnodup := h.nodup
    rw [hq, List.map_cons] at hnodup
    exact ⟨hnodup.of_cons, fun he => absurd he hp, fun he => absurd he hd, h.fault⟩

/-- A level granted is in transmission, and it is the present one; the other groups stay as they are. -/
theorem Served.arbitrate {k : Link} {g : GroupId} {x : Option Group} (h : Served k g x) : Served (arbitrate k) g x := by
  refine ⟨fun n hn => h.entry n (mem_of_mem_arbitrate hn), by rw [arbitrate_state]; exact h.flag, fun hs r hr => ?_⟩
  rw [arbitrate_state] at hs
  have hheard := h.heard hs r hr
  rcases arbitrate_cases k with ⟨e, _⟩ | ⟨_, htx, _, _, e⟩ | ⟨a, n, rest, _, htx, hq, _, e⟩ <;> rw [e]
  · exact hheard
  · rcases hheard with hh | hh | hh | ⟨_, hh⟩
    · exact .inl hh
    · exact .inr (.inl hh)
    · rw [htx] at hh; cases hh
    · exact .inr (.inr (.inr ⟨fun _ _ ht => by simp at ht, hh⟩))
  · by_cases ha : a = g
    · subst ha
      obtain ⟨r', hr', _, hp⟩ := h.entry n (by rw [hq]; exact List.mem_cons_self)
      cases Option.some.inj (hr.symm.trans hr')
      exact .inr (.inr (.inl (by rw [hp])))
    · rcases hheard with hh | hh | hh | ⟨_, hh⟩
      · left
        simpa [queued, hq, ha] using hh
      · exact .inr (.inl hh)
      · rw [htx] at hh; cases hh
      · exact .inr (.inr (.inr ⟨fun _ _ ht => ha (by cases ht; rfl), hh⟩))

/-- Once the arbiter has looked the law is whole. -/
theorem Serving.arbitrate {l : Lum} (h : Serving l) : LumLaw { l with link := Machine.arbitrate l.link } :=
  lumLaw_iff.mpr ⟨⟨h.shape.arbitrate, fun g => (h.served g).arbitrate⟩, granted_arbitrate _⟩

theorem drainDone_iff {k : Link} :
    drainDone k = true ↔ k.state = .draining ∧ k.queue = [] ∧ k.unit = .idle ∧ k.tx = none := by
  simp [drainDone, unitIdle, and_assoc]

theorem freeLink_lum (s : State) : (freeLink s).lum = { s.lum with link := (linkFree s.lum.link).1 } := by
  unfold freeLink
  dsimp only
  split <;> rfl

/-- A link that falls free: a finished drain has nothing queued or in transmission, and otherwise the arbiter looks. -/
theorem Serving.freeLink {s : State} (h : Serving s.lum) : LumLaw (freeLink s).lum := by
  rw [freeLink_lum]
  unfold linkFree
  split
  · next hd =>
    obtain ⟨hstate, hqueue, _, htx⟩ := drainDone_iff.mp hd
    refine lumLaw_iff.mpr ⟨⟨⟨h.shape.nodup, fun _ => ⟨hqueue, htx⟩, nofun, ?_⟩, fun g => ?_⟩, nofun⟩
    · rw [← h.shape.fault, hstate]
      simp
    · obtain ⟨hentry, _, hheard⟩ := h.served g
      exact ⟨hentry, nofun, fun _ => hheard (by simp [hstate])⟩
  · exact h.arbitrate

/-! ## Placing a level (R115) -/

/-- A queue with an entry coalesced names the same groups. -/
theorem map_fst_coalesce (g : GroupId) (n : Nat) (q : List (GroupId × Nat)) :
    (coalesce g n q).map Prod.fst = q.map Prod.fst := by
  rw [coalesce, List.map_map]
  refine List.map_congr_left fun e _ => ?_
  simp only [Function.comp_apply]
  split
  · next h => exact h.symm
  · rfl

theorem mem_coalesce {g j : GroupId} {n m : Nat} {q : List (GroupId × Nat)} (h : (j, m) ∈ coalesce g n q) :
    j = g ∧ m = n ∨ j ≠ g ∧ (j, m) ∈ q := by
  obtain ⟨e, he, hj⟩ := List.mem_map.mp h
  split at hj
  · cases hj; exact .inl ⟨rfl, rfl⟩
  · next hne => subst hj; exact .inr ⟨hne, he⟩

theorem queued_coalesce (g j : GroupId) (n : Nat) (k : Link) :
    queued { k with queue := coalesce g n k.queue } j = queued k j := by
  have h : ∀ q : List (GroupId × Nat), (q.any (·.1 == j)) = (q.map Prod.fst).any (· == j) := fun q => by
    rw [List.any_map]; rfl
  rw [queued, queued, h, h, map_fst_coalesce]

section
variable {k : Link} {g j : GroupId} {n : Nat} {x : Option Group} {r : Group}

/-- A group whose one entry carries its present level. -/
theorem served_queued (hq : queued k g = true) (hn : ∀ n, (g, n) ∈ k.queue → n = r.present) (hu : r.unsent = false) :
    Served k g (some r) where
  entry := fun n hmem => ⟨r, rfl, hu, hn n hmem⟩
  flag := fun _ r' hr' => by cases hr'; exact hu
  heard := fun _ _ _ => .inl hq

/-- A group marked unsent, without an entry. -/
theorem served_unsent (hq : queued k g = false) (hs : k.state ≠ .running) (hu : r.unsent = true) : Served k g (some r) where
  entry := fun n hn => by rw [mem_queued.mpr ⟨n, hn⟩] at hq; cases hq
  flag := fun hrun => absurd hrun hs
  heard := fun _ r' hr' => by cases hr'; exact .inr (.inl hu)

theorem LinkShape.coalesce (h : LinkShape k) (g : GroupId) (n : Nat) :
    LinkShape { k with queue := coalesce g n k.queue } where
  nodup := by dsimp only; rw [map_fst_coalesce]; exact h.nodup
  paused := fun hs => by
    obtain ⟨hq, ht⟩ := h.paused hs
    exact ⟨by dsimp only; rw [hq]; rfl, ht⟩
  down := h.down
  fault := h.fault

theorem Served.coalesce (h : Served k j x) (hj : j ≠ g) (n : Nat) :
    Served { k with queue := Machine.coalesce g n k.queue } j x where
  entry := fun m hm => (mem_coalesce hm).elim (fun hg => absurd hg.1 hj) fun hm => h.entry m hm.2
  flag := h.flag
  heard := fun hs r hr => by
    have hh := h.heard hs r hr
    rwa [Heard, queued_coalesce]

theorem LinkShape.append (h : LinkShape k) (hq : queued k g = false) (hs : k.state ≠ .paused) (n : Nat) :
    LinkShape { k with queue := k.queue ++ [(g, n)] } where
  nodup := by
    simp only [List.map_append, List.map_cons, List.map_nil]
    refine h.nodup.append (List.nodup_singleton g) (List.disjoint_singleton.mpr fun hmem => ?_)
    obtain ⟨e, he, hg⟩ := List.mem_map.mp hmem
    exact queued_eq_false.mp hq e he hg
  paused := fun hp => absurd hp hs
  down := h.down
  fault := h.fault

theorem Served.append (h : Served k j x) (hj : j ≠ g) (n : Nat) : Served { k with queue := k.queue ++ [(g, n)] } j x where
  entry := fun m hm => by
    rcases List.mem_append.mp hm with hm | hm
    · exact h.entry m hm
    · cases List.mem_singleton.mp hm
      exact absurd rfl hj
  flag := h.flag
  heard := fun hs r hr => (h.heard hs r hr).imp_left fun hq => by
    obtain ⟨m, hm⟩ := mem_queued.mp hq
    exact mem_queued.mpr ⟨m, List.mem_append_left _ hm⟩

end

/-- The law of every group but one, whose present level the link has still to be handed; its unsent flag stands only where no
entry does, and not in RUNNING. -/
structure Unplaced (l : Lum) (g : GroupId) (r : Group) : Prop where
  shape : LinkShape l.link
  granted : Granted l.link
  record : l.groups[g] = some r
  others : ∀ j : GroupId, j ≠ g → Served l.link j l.groups[j]
  flag : r.unsent = true → queued l.link g = false ∧ l.link.state ≠ .running

/-- Each group's record is served where that of the one group is. -/
theorem Unplaced.serving {l l' : Lum} {g : GroupId} {r r' : Group} (h : Unplaced l g r) (hk : LinkShape l'.link)
    (hr : l'.groups = l.groups.set g (some r')) (hg : Served l'.link g (some r'))
    (hj : ∀ j : GroupId, j ≠ g → ∀ x, Served l.link j x → Served l'.link j x) : Serving l' := by
  refine ⟨hk, fun j => ?_⟩
  rw [hr, set_get]
  split
  · next he => subst he; exact hg
  · next he => exact hj j (Ne.symm he) _ (h.others j (Ne.symm he))

/-- Placed by the link state and by what is held for the group, the level is queued, granted at once, or marked unsent (R115). -/
theorem Unplaced.placed {l : Lum} {g : GroupId} {r : Group} (h : Unplaced l g r) : LumLaw (placeLevel g r.present l) := by
  have hstay : l.groups = l.groups.set g (some r) := vector_ext fun j => by
    rw [set_get]
    split
    · next he => subst he; exact h.record
    · rfl
  rcases placeLevel_cases g r.present l with ⟨hq, e⟩ | ⟨hq, hw, e⟩ | ⟨r', hq, hr', hu, ⟨hs, e⟩ | ⟨hs, e⟩⟩ <;> rw [e]
  · have hu : r.unsent = false := Bool.eq_false_of_not_eq_true fun hu => by
      rw [(h.flag hu).1] at hq; cases hq
    obtain ⟨n, hn⟩ := mem_queued.mp hq
    refine lumLaw_iff.mpr ⟨h.serving (h.shape.coalesce g _) hstay (served_queued ?_ (fun m hm => ?_) hu) fun j hj x hx =>
      hx.coalesce hj _, fun hs ht => ?_⟩
    · rw [queued_coalesce]; exact hq
    · exact (mem_coalesce hm).elim (·.2) fun hm => absurd rfl hm.1
    · rw [h.granted hs ht] at hn; cases hn
  · have hu : r.unsent = true := by
      rcases hw with hw | ⟨r', hw, hu⟩
      · rw [h.record] at hw; cases hw
      · cases Option.some.inj (h.record.symm.trans hw); exact hu
    exact lumLaw_iff.mpr ⟨h.serving h.shape hstay (served_unsent hq (h.flag hu).2 hu) fun _ _ _ hx => hx, h.granted⟩
  · cases Option.some.inj (h.record.symm.trans hr')
    have hpaused : l.link.state ≠ .paused := by rcases hs with hs | hs <;> simp [hs]
    refine Serving.arbitrate (h.serving (l' := { l with link := { l.link with queue := l.link.queue ++ [(g, r.present)] } })
      (h.shape.append hq hpaused _) hstay (served_queued ?_ (fun m hm => ?_) hu) fun j hj x hx => hx.append hj _)
    · exact mem_queued.mpr ⟨r.present, List.mem_append_right _ List.mem_cons_self⟩
    · rcases List.mem_append.mp hm with hm | hm
      · rw [mem_queued.mpr ⟨m, hm⟩] at hq; cases hq
      · cases List.mem_singleton.mp hm; rfl
  · cases Option.some.inj (h.record.symm.trans hr')
    have hrunning : l.link.state ≠ .running := by rcases hs with hs | hs <;> simp [hs]
    refine lumLaw_iff.mpr ⟨h.serving (r' := { r with unsent := true }) h.shape ?_ (served_unsent hq hrunning rfl)
      fun _ _ _ hx => hx, h.granted⟩
    exact congrArg Lum.groups (updGroup_eq_set h.record fun r => { r with unsent := true })

/-- A group whose record alone is new has its level still to be placed, where no unsent flag is new in it. -/
theorem unplaced_of_lumLaw {l : Lum} (h : LumLaw l) {g : GroupId} {r : Group} {v : Vector (Option Group) 48}
    (hr : v = l.groups.set g (some r)) (hu : r.unsent = true → ∃ r₀ ∈ l.groups[g], r₀.unsent = true) :
    Unplaced { l with groups := v } g r := by
  obtain ⟨⟨hshape, hserved⟩, hgranted⟩ := lumLaw_iff.mp h
  subst hr
  refine ⟨hshape, hgranted, (set_get ..).trans (if_pos rfl), fun j hj => ?_, fun hunsent => ?_⟩
  · dsimp only
    rw [set_get, if_neg (Ne.symm hj)]
    exact hserved j
  · obtain ⟨r₀, hr₀, hu₀⟩ := hu hunsent
    refine ⟨Bool.eq_false_of_not_eq_true fun hq => ?_, fun hs => ?_⟩
    · obtain ⟨n, hn⟩ := mem_queued.mp hq
      obtain ⟨r₁, hr₁, hu₁, _⟩ := (hserved g).entry n hn
      cases Option.some.inj (hr₀.symm.trans hr₁)
      rw [hu₀] at hu₁; cases hu₁
    · rw [(hserved g).flag hs r₀ hr₀] at hu₀; cases hu₀

/-- The group's record changed in neither present level, flag nor last-sent level. -/
theorem lumLaw_updGroup {l : Lum} (h : LumLaw l) (g : GroupId) {f : Group → Group}
    (hf : ∀ r, (f r).present = r.present ∧ (f r).unsent = r.unsent ∧ (f r).lastSent = r.lastSent) :
    LumLaw (updGroup g f l) := by
  obtain ⟨⟨hshape, hserved⟩, hgranted⟩ := lumLaw_iff.mp h
  refine lumLaw_iff.mpr ⟨⟨hshape, fun j => ?_⟩, hgranted⟩
  rw [updGroup_groups, updAt_get]
  split
  · exact (hserved j).map hf
  · exact hserved j

/-- A hand-over of an existing group's new present level (R101). -/
theorem lumLaw_handOver {l : Lum} (h : LumLaw l) {g : GroupId} {r : Group} (hr : l.groups[g] = some r) (n : Nat) :
    LumLaw (handOver g n l) := by
  rw [handOver, updGroup_eq_set hr]
  exact (unplaced_of_lumLaw h (r := { r with present := n }) rfl fun hu => ⟨r, hr, hu⟩).placed

theorem lumLaw_demand {l : Lum} (h : LumLaw l) (z : StepSizes) (g : GroupId) (n : Nat) : LumLaw (demand z g n l) := by
  have hdemanded : LumLaw (updGroup g (fun r => { r with demanded := n }) l) :=
    lumLaw_updGroup h g fun _ => ⟨rfl, rfl, rfl⟩
  rcases demand_cases z g n l with ⟨e, _⟩ | ⟨r, hr, _, ⟨_, e⟩ | ⟨_, _, e⟩⟩ <;> rw [e]
  · exact h
  · exact hdemanded
  · refine lumLaw_handOver (lumLaw_updGroup hdemanded g (f := fun r => { r with timer := true }) fun _ => ⟨rfl, rfl, rfl⟩)
      (r := { r with demanded := n, timer := true }) ?_ _
    rw [updGroup_groups, updAt_get, if_pos rfl, updGroup_groups, updAt_get, if_pos rfl, hr]
    rfl

theorem lumLaw_fadeExpiry {l : Lum} (h : LumLaw l) (z : StepSizes) (g : GroupId) : LumLaw (fadeExpiry z g l).1 := by
  unfold fadeExpiry
  split
  · exact h
  · next r hr =>
    split
    · exact h
    · split
      · exact lumLaw_updGroup h g fun _ => ⟨rfl, rfl, rfl⟩
      · exact lumLaw_handOver h hr _

/-- A new group's level is handed to the link, whatever stood at its number (R6, R97). -/
theorem lumLaw_createGroup {l : Lum} (h : LumLaw l) (level : Nat) (g : GroupId) : LumLaw (createGroup level l g) :=
  (unplaced_of_lumLaw h (r := newGroup level) rfl nofun).placed

/-! ## Groups that cease to exist (R8) -/

theorem txWithout_eq_setLevel {gone : GroupId → Bool} {t : Tx} {g : GroupId} {v : Nat} {b : Bool}
    (h : txWithout gone t = .setLevel g v b) : ∃ b₀, t = .setLevel g v b₀ := by
  cases t with
  | setLevel g' v' b' => cases h; exact ⟨b', rfl⟩
  | _ => cases h

theorem lumLaw_dropGroups {l : Lum} (h : LumLaw l) (gone : GroupId → Bool) : LumLaw (dropGroups gone l) := by
  obtain ⟨⟨hshape, hserved⟩, hgranted⟩ := lumLaw_iff.mp h
  have hqueue : (dropGroups gone l).link.queue = l.link.queue.filter fun e => !gone e.1 := rfl
  have htx : (dropGroups gone l).link.tx = l.link.tx.map (txWithout gone) := rfl
  have hnil : l.link.queue = [] → (dropGroups gone l).link.queue = [] := fun hq => by rw [hqueue, hq]; rfl
  have hfree : l.link.tx = none → (dropGroups gone l).link.tx = none := fun ht => by rw [htx, ht]; rfl
  refine lumLaw_iff.mpr ⟨⟨⟨?_, fun hs => ?_, fun hs => hfree (hshape.down hs), hshape.fault⟩, fun g => ?_⟩, fun hs ht => ?_⟩
  · exact (List.filter_sublist.map _).nodup hshape.nodup
  · obtain ⟨hq, ht⟩ := hshape.paused hs
    exact ⟨hnil hq, hfree ht⟩
  · have hg : (dropGroups gone l).groups[g] = if gone g then none else l.groups[g] := ofFn_get _ g
    rw [hg]
    cases hgone : gone g with
    | true => exact served_none fun n hn => by simp [hqueue, hgone] at hn
    | false =>
      obtain ⟨hentry, hflag, hheard⟩ := hserved g
      refine ⟨fun n hn => hentry n (List.mem_filter.mp hn).1, hflag, fun hs r hr => ?_⟩
      rcases hheard hs r hr with hh | hh | hh | ⟨hh, hlast⟩
      · obtain ⟨n, hn⟩ := mem_queued.mp hh
        exact .inl (mem_queued.mpr ⟨n, List.mem_filter.mpr ⟨hn, by simp [hgone]⟩⟩)
      · exact .inr (.inl hh)
      · exact .inr (.inr (.inl (by rw [htx, hh]; simp [txWithout, hgone])))
      · refine .inr (.inr (.inr ⟨fun v b hv => ?_, hlast⟩))
        obtain ⟨t, ht, hv⟩ := Option.map_eq_some_iff.mp hv
        obtain ⟨b₀, rfl⟩ := txWithout_eq_setLevel hv
        exact hh v b₀ ht
  · exact hnil (hgranted hs (Option.map_eq_none_iff.mp ht))

/-! ## Every level queued: resumption, restoration, restart (R125, R128, R130) -/

theorem mem_levelsWhere {l : Lum} {f : GroupId → Group → Bool} {g : GroupId} {n : Nat} :
    (g, n) ∈ levelsWhere l f ↔ ∃ r ∈ l.groups[g], f g r = true ∧ n = r.present := by
  simp only [levelsWhere, List.mem_filterMap, List.mem_finRange, true_and, Option.mem_def]
  constructor
  · rintro ⟨a, ha⟩
    split at ha
    · cases ha
    · next r hr =>
      split at ha
      · next hf => cases ha; exact ⟨r, hr, hf, rfl⟩
      · cases ha
  · rintro ⟨r, hr, hf, rfl⟩
    exact ⟨g, by simp only [hr, hf, if_true]⟩

theorem map_fst_levelsWhere (l : Lum) (f : GroupId → Group → Bool) :
    (levelsWhere l f).map Prod.fst = (List.finRange 48).filter fun g => l.groups[g].any (f g) := by
  rw [levelsWhere, List.map_filterMap, ← List.filterMap_eq_filter]
  congr 1
  funext g
  cases hr : l.groups[g] with
  | none =>
    have hr : l.groups[g.val] = none := hr
    simp [Option.guard, hr]
  | some r =>
    have hr : l.groups[g.val] = some r := hr
    by_cases hf : f g r = true <;> simp [Option.guard, hr, hf]

theorem nodup_levelsWhere (l : Lum) (f : GroupId → Group → Bool) : ((levelsWhere l f).map Prod.fst).Nodup := by
  rw [map_fst_levelsWhere]
  exact (List.nodup_finRange 48).filter _

/-- The levels of the groups of a test join the queue of a link that comes to run, and every unsent flag is cleared: the law
holds where none of them is queued and every other group was heard. -/
theorem lumLaw_refresh {l : Lum} {k : Link} {f : GroupId → Group → Bool} (hk : LinkShape k) (hs : k.state = .running)
    (hentry : ∀ g : GroupId, ∀ n, (g, n) ∈ k.queue → ∃ r ∈ l.groups[g], n = r.present ∧ f g r = false)
    (hheard : ∀ g : GroupId, ∀ r ∈ l.groups[g], f g r = false → r.unsent = false ∧ Heard k g r) :
    LumLaw { setUnsent false l with link := arbitrate { k with queue := k.queue ++ levelsWhere l f } } := by
  have hg : ∀ g : GroupId, (setUnsent false l).groups[g] = l.groups[g].map fun r => { r with unsent := false } :=
    fun g => by simp [setUnsent]
  refine Serving.arbitrate (l := { setUnsent false l with link := { k with queue := k.queue ++ levelsWhere l f } })
    ⟨⟨?_, fun hp => ?_, hk.down, hk.fault⟩, fun g => ?_⟩
  · simp only [List.map_append]
    refine hk.nodup.append (nodup_levelsWhere l f) fun g hq hl => ?_
    obtain ⟨⟨_, n⟩, hn, rfl⟩ := List.mem_map.mp hq
    obtain ⟨⟨_, m⟩, hm, hg⟩ := List.mem_map.mp hl
    cases hg
    obtain ⟨r, hr, _, hf⟩ := hentry _ n hn
    obtain ⟨r', hr', hf', _⟩ := mem_levelsWhere.mp hm
    cases Option.some.inj (hr.symm.trans hr')
    simp [hf] at hf'
  · have hp : k.state = .paused := hp
    simp [hs] at hp
  · dsimp only
    rw [hg]
    refine ⟨fun n hn => ?_, fun _ r hr => ?_, fun _ r hr => ?_⟩
    · obtain ⟨r, hr, hp⟩ : ∃ r ∈ l.groups[g], n = r.present := by
        rcases List.mem_append.mp hn with hn | hn
        · obtain ⟨r, hr, hp, _⟩ := hentry g n hn
          exact ⟨r, hr, hp⟩
        · obtain ⟨r, hr, _, hp⟩ := mem_levelsWhere.mp hn
          exact ⟨r, hr, hp⟩
      exact ⟨{ r with unsent := false }, by rw [Option.mem_def.mp hr]; rfl, rfl, hp⟩
    · obtain ⟨r, _, rfl⟩ := Option.map_eq_some_iff.mp hr
      rfl
    · obtain ⟨r₀, hr₀, rfl⟩ := Option.map_eq_some_iff.mp hr
      cases hf : f g r₀ with
      | true =>
        have hnew := mem_levelsWhere.mpr ⟨r₀, hr₀, hf, rfl⟩
        exact .inl (mem_queued.mpr ⟨r₀.present, List.mem_append_right _ hnew⟩)
      | false =>
        obtain ⟨hu, hh⟩ := hheard g r₀ hr₀ hf
        rcases hh with hh | hh | hh
        · obtain ⟨n, hn⟩ := mem_queued.mp hh
          exact .inl (mem_queued.mpr ⟨n, List.mem_append_left _ hn⟩)
        · rw [hu] at hh; cases hh
        · exact .inr (.inr hh)

/-- LINK_RESUME queues every unsent level; a queued one has no flag (R125). -/
theorem lumLaw_resumeLink {l : Lum} (h : LumLaw l) (hd : l.link.state ≠ .down) : LumLaw (resumeLink l) := by
  obtain ⟨⟨hshape, hserved⟩, _⟩ := lumLaw_iff.mp h
  have hfault : l.link.faultReported ≠ true := fun hf => hd (hshape.fault.mpr hf)
  refine lumLaw_refresh (k := { l.link with state := .running }) (f := fun _ r => r.unsent)
    ⟨hshape.nodup, nofun, nofun, ⟨nofun, fun hf => absurd hf hfault⟩⟩ rfl (fun g n hn => ?_) fun g r hr hu => ⟨hu, ?_⟩
  · obtain ⟨r, hr, hu, hp⟩ := (hserved g).entry n hn
    exact ⟨r, hr, hp, hu⟩
  · exact (hserved g).heard hd r hr

/-- BUS_RESTORATION leaves every group unsent under a pause in force, and otherwise every group queued (R128). -/
theorem lumLaw_restoreLink {l : Lum} (h : LumLaw l) (hf : l.link.faultReported = true) : LumLaw (restoreLink l) := by
  obtain ⟨⟨hshape, hserved⟩, _⟩ := lumLaw_iff.mp h
  have htx : l.link.tx = none := hshape.down (hshape.fault.mpr hf)
  unfold restoreLink
  dsimp only
  split
  · refine lumLaw_iff.mpr ⟨⟨⟨List.nodup_nil, fun _ => ⟨rfl, htx⟩, nofun, ⟨nofun, nofun⟩⟩, fun g => ?_⟩, nofun⟩
    refine ⟨fun n hn => (List.not_mem_nil hn).elim, nofun, fun _ r hr => .inr (.inl ?_)⟩
    simp only [setUnsent, Fin.getElem_fin, Vector.getElem_map] at hr
    obtain ⟨_, _, rfl⟩ := Option.map_eq_some_iff.mp hr
    rfl
  · refine lumLaw_refresh
      (k := { l.link with pauseInForce := false, faultReported := false, state := .running })
      (f := fun g _ => !queued { l.link with pauseInForce := false, faultReported := false } g)
      ⟨hshape.nodup, nofun, nofun, ⟨nofun, nofun⟩⟩ rfl (fun g n hn => ?_) fun g r hr hq => ?_
    · obtain ⟨r, hr, _, hp⟩ := (hserved g).entry n hn
      have hq : queued l.link g = true := mem_queued.mpr ⟨n, hn⟩
      exact ⟨r, hr, hp, by simpa [queued] using hq⟩
    · have hq : queued l.link g = true := by simpa [queued] using hq
      obtain ⟨n, hn⟩ := mem_queued.mp hq
      obtain ⟨r', hr', hu, _⟩ := (hserved g).entry n hn
      cases Option.some.inj (hr.symm.trans hr')
      exact ⟨hu, .inl hq⟩

end Sys2Proof.Proofs
end

section
/-! PROOFS. The law of the luminaire link over every command (R115, R116, R126): which commands reach groups and link by new
demands alone, and what the others leave of the law. -/

namespace Sys2Proof.Proofs

open Sys2Proof Sys2Proof.Machine Sys2Proof.Safety Sys2Proof.Laws

/-! ## New demands alone -/

/-- Any number of new demands, one after the other (R98). -/
def Demanded : Lum → Lum → Prop := Relation.ReflTransGen fun l l' => ∃ z g n, l' = demand z g n l

theorem Demanded.lumLaw {l l' : Lum} (h : Demanded l l') (hl : LumLaw l) : LumLaw l' := by
  induction h with
  | refl => exact hl
  | tail _ hstep ih =>
    obtain ⟨z, g, n, rfl⟩ := hstep
    exact lumLaw_demand ih z g n

/-- Groups and link are reached by new demands alone. -/
def DemandsOnly (s t : State) : Prop := Demanded s.lum t.lum

theorem DemandsOnly.lumLaw {s t : State} (h : DemandsOnly s t) (hs : LumLaw s.lum) : LumLaw t.lum := Demanded.lumLaw h hs

theorem DemandsOnly.of_eq {s t : State} (h : t.lum = s.lum) : DemandsOnly s t := by
  rw [DemandsOnly, h]
  exact .refl

theorem DemandsOnly.refl (s : State) : DemandsOnly s s := .of_eq rfl

theorem DemandsOnly.trans {s t u : State} (h : DemandsOnly s t) (k : DemandsOnly t u) : DemandsOnly s u :=
  Relation.ReflTransGen.trans h k

/-- What is done before, over other blocks, changes nothing of it. -/
theorem DemandsOnly.after {s t u : State} (h : DemandsOnly u t) (hl : u.lum = s.lum) : DemandsOnly s t :=
  (DemandsOnly.of_eq hl).trans h

/-- Nor does what is done then over other blocks. -/
theorem DemandsOnly.before {s t u : State} (h : DemandsOnly s t) (hl : u.lum = t.lum) : DemandsOnly s u :=
  h.trans (.of_eq hl)

theorem DemandsOnly.foldl {α : Type} {f : State → α → State} (h : ∀ s a, DemandsOnly s (f s a)) (l : List α) (s : State) :
    DemandsOnly s (l.foldl f s) :=
  List.foldlRecOn l f (DemandsOnly.refl s) fun u hu a _ => hu.trans (h u a)

theorem demandsOnly_recompose (i : SegId) (s : State) : DemandsOnly s (recompose i s) :=
  List.foldlRecOn (motive := Demanded s.lum) _ _ .refl fun _ hl _ _ => hl.tail ⟨_, _, _, rfl⟩

/-- Where the test holds, the segment is given its mode and recomposed. -/
theorem demandsOnly_remode (c : State → SegId → Bool) (m : State → SegId → Mode) (s : State) (i : SegId) :
    DemandsOnly s (remode c m s i) := by
  unfold remode
  split
  · exact (demandsOnly_recompose i _).after (changeMode_lum ..)
  · exact .refl s

/-! ### The end of a run and table changes (R91, R147) -/

theorem demandsOnly_endRun (r : CalRun) (res : CalResult) (s : State) : DemandsOnly s (endRun r res s) := by
  have h : DemandsOnly s ((maskSegs r.segments).foldl leaveCalibrating (s.setCal ⟨none, res⟩)) := by
    rw [leaveCalibrating_eq_remode]
    exact (DemandsOnly.foldl (demandsOnly_remode _ _) _ _).after rfl
  exact h.before rfl

theorem demandsOnly_abortRun (why : AbortReason) (s : State) : DemandsOnly s (abortRun why s) := by
  unfold abortRun
  split
  · exact .refl s
  · exact demandsOnly_endRun _ _ s

theorem demandsOnly_tableChange (entries : List Entry) (inserted : Option Entry) (informed : SegMask) (s : State) :
    DemandsOnly s (tableChange entries inserted informed s) := by
  obtain ⟨u, h, hu⟩ := tableChange_cases entries inserted informed s
  rw [h, informSegment_eq_remode]
  refine DemandsOnly.trans ?_ (.foldl (demandsOnly_remode _ _) _ u)
  rcases hu with ⟨rfl, _⟩ | ⟨r, res, _, rfl⟩
  · exact .of_eq rfl
  · exact (demandsOnly_endRun r res _).after rfl

theorem TableRequested.demandsOnly {s t : State} (h : TableRequested s t) : DemandsOnly s t := by
  obtain rfl | ⟨_, _, _, rfl⟩ := h
  · exact .refl t
  · exact demandsOnly_tableChange _ _ _ s

theorem demandsOnly_departDue (s : State) : DemandsOnly s (departDue s) := by
  unfold departDue
  exact (demandsOnly_tableChange _ _ _ _).after rfl

/-! ### Tuning, thresholds and the pass -/

theorem demandsOnly_segTune (n : Nat) (x : Tuning) (s : State) : DemandsOnly s (segTune n x s).state := by
  unfold segTune
  repeat' split
  all_goals first | exact .refl s | exact (demandsOnly_recompose _ _).after rfl

theorem demandsOnly_bandSet (n b : Nat) (q : BandConfig) (s : State) : DemandsOnly s (bandSet n b q s).state := by
  unfold bandSet
  repeat' split
  all_goals first | exact .refl s | exact (demandsOnly_recompose _ _).after rfl

theorem demandsOnly_glareSet (m : SegMask) (n : Nat) (s : State) : DemandsOnly s (glareSet m n s).state := by
  unfold glareSet
  dsimp only
  split
  · exact .refl s
  · exact .foldl (f := writeThreshold _) (fun u i => .of_eq (by rw [writeThreshold_eq])) _ s

theorem demandsOnly_couplingWrite (k d n : Nat) (ps : List (Nat × Nat)) (s : State) :
    DemandsOnly s (couplingWrite k d n ps s).state := by
  unfold couplingWrite
  dsimp only
  repeat' split
  all_goals exact .of_eq rfl

theorem demandsOnly_passSegment (i : SegId) (s : State) : DemandsOnly s (passSegment i s) := by
  rw [passSegment_eq]
  exact (demandsOnly_recompose i _).after (onCtrl_passed i s).lum

/-! ### Calibration (Section 8) -/

theorem demandsOnly_beginRun (m : SegMask) (q : CalParams) (clamped : Bool) (s : State) :
    DemandsOnly s (beginRun m q clamped s) := by
  refine DemandsOnly.trans ?_ (.of_eq (testFadeWait_lum _))
  rw [enterCalibrating_eq_remode]
  exact (DemandsOnly.foldl (demandsOnly_remode _ _) (maskSegs m) _).after rfl

theorem demandsOnly_calStart (m : SegMask) (base high low half su opt : Nat) (s : State) :
    DemandsOnly s (calStart m base high low half su opt s).state := by
  unfold calStart
  dsimp only
  repeat' split
  all_goals first | exact .refl s | exact demandsOnly_beginRun _ _ _ s

theorem demandsOnly_enterPhase (f : Phase) (probe cycle : Nat) (r : CalRun) (s : State) :
    DemandsOnly s (enterPhase f probe cycle r s) := by
  refine DemandsOnly.trans ?_ (.of_eq (testFadeWait_lum _))
  exact (DemandsOnly.foldl (f := fun s i => recompose i s) (fun u i => demandsOnly_recompose i u) (changedSegs r _) _).after rfl

theorem demandsOnly_commit (r : CalRun) (s : State) : DemandsOnly s (commit r s) := by
  have h : ∀ x, DemandsOnly s (s.setCoupling x) := fun _ => .of_eq rfl
  exact (h _).trans (demandsOnly_endRun r (commitResult r s.cal.result) _)

theorem demandsOnly_nextPhase (r : CalRun) (s : State) : DemandsOnly s (nextPhase r s) := by
  unfold nextPhase
  dsimp only
  repeat' split
  all_goals first | exact demandsOnly_enterPhase _ _ _ _ s | exact demandsOnly_commit _ s

theorem demandsOnly_calStageTimerExpiry (s : State) : DemandsOnly s (calStageTimerExpiry s) := by
  unfold calStageTimerExpiry
  split
  · exact .refl s
  · split
    · unfold stageExpiry
      split
      · exact .refl s
      · exact .of_eq rfl
      · exact demandsOnly_nextPhase _ s
      · exact demandsOnly_nextPhase _ s
    · exact .refl s

/-! ## Layout requests and the resets -/

section
variable {s : State}

theorem lumLaw_segDefine (h : LumLaw s.lum) (n b p q : Nat) : LumLaw (segDefine n b p q s).state.lum := by
  have hdefine : ∀ i cfg, LumLaw (defineSegment i cfg s).lum := fun i cfg =>
    List.foldlRecOn (motive := LumLaw) _ (createGroup cfg.fallback) h fun _ hl g _ => lumLaw_createGroup hl _ g
  unfold segDefine
  split
  · exact h
  · split
    · split
      · exact h
      · exact hdefine _ _
    · exact h

/-- A removal takes the groups away and then informs the other segments (R8, R9). -/
theorem lumLaw_segRemove (h : LumLaw s.lum) (n : Nat) : LumLaw (segRemove n s).state.lum := by
  have hremove : ∀ i, LumLaw (removeSegment i s).lum := fun i => by
    have hdropped : LumLaw (removedUntabled i s).lum := lumLaw_dropGroups h (ownsGroup i)
    rw [removeSegment_eq]
    exact (demandsOnly_tableChange _ _ _ _).lumLaw hdropped
  unfold segRemove
  split
  · exact h
  · split
    · exact h
    · split
      · exact h
      · split
        · exact h
        · exact hremove _

theorem mem_refreshQueue {l : Lum} {g : GroupId} {n : Nat} : (g, n) ∈ refreshQueue l ↔ ∃ r ∈ l.groups[g], n = r.present := by
  simp only [refreshQueue, List.mem_filterMap, List.mem_finRange, true_and, Option.map_eq_some_iff, Prod.mk.injEq, Option.mem_def]
  constructor
  · rintro ⟨_, r, hr, rfl, rfl⟩
    exact ⟨r, hr, rfl⟩
  · rintro ⟨r, hr, rfl⟩
    exact ⟨g, r, hr, rfl, rfl⟩

theorem nodup_refreshQueue (l : Lum) : ((refreshQueue l).map Prod.fst).Nodup := by
  rw [refreshQueue, List.map_filterMap]
  refine (List.nodup_finRange 48).filterMap fun a b c ha hb => ?_
  simp only [Option.map_map, Option.mem_def, Option.map_eq_some_iff, Function.comp_apply] at ha hb
  obtain ⟨_, _, rfl⟩ := ha
  obtain ⟨_, _, hb⟩ := hb
  exact hb.symm

/-- A warm restart queues every group's level, RUNNING or DOWN as the detector reported last (R130). -/
theorem lumLaw_restartLum {l : Lum} (h : LumLaw l) : LumLaw (restartLum l) := by
  obtain ⟨⟨hshape, _⟩, _⟩ := lumLaw_iff.mp h
  have hdown : (restartLink l).state = .down ↔ l.link.faultReported = true := by
    unfold restartLink
    cases l.link.faultReported <;> simp
  have hpaused : (restartLink l).state ≠ .paused := by
    unfold restartLink
    cases l.link.faultReported <;> simp
  have hserving : Serving { groups := (restartLum l).groups, link := restartLink l } := by
    refine ⟨⟨nodup_refreshQueue l, fun hs => absurd hs hpaused, fun hs => ?_, hdown⟩, fun g => ?_⟩
    · show l.link.tx.map restartTx = none
      rw [hshape.down (hshape.fault.mpr (hdown.mp hs))]
      rfl
    · dsimp only
      rw [restartLum_groups]
      refine ⟨fun n hn => ?_, fun _ r hr => ?_, fun _ r hr => .inl ?_⟩
      · obtain ⟨r, hr, rfl⟩ := mem_refreshQueue.mp hn
        exact ⟨restartGroup r, by rw [Option.mem_def.mp hr]; rfl, rfl, rfl⟩
      · obtain ⟨_, _, rfl⟩ := Option.map_eq_some_iff.mp hr
        rfl
      · obtain ⟨r₀, hr₀, rfl⟩ := Option.map_eq_some_iff.mp hr
        exact mem_queued.mpr ⟨r₀.present, mem_refreshQueue.mpr ⟨r₀, hr₀, rfl⟩⟩
  have hlaw := hserving.arbitrate
  rwa [← restartLum_link] at hlaw

theorem lumLaw_restart (h : LumLaw s.lum) (p : PortId) : LumLaw (restart p s).lum := by
  unfold restart
  split
  · exact h
  · exact h
  · exact h
  · exact lumLaw_restartLum h

theorem lumLaw_powerOn (a b c : StrapPins) (s : State) : LumLaw (powerOn a b c s).lum := by
  have hgroups : ∀ g : GroupId, (powerOn a b c s).lum.groups[g] = none := fun g => by simp [powerOn, State.initial]
  refine lumLaw_iff.mpr ⟨⟨⟨List.nodup_nil, nofun, nofun, ⟨nofun, nofun⟩⟩, fun g => ?_⟩, fun _ _ => rfl⟩
  rw [hgroups]
  exact served_none fun _ => List.not_mem_nil

/-! ## The commands of the link (Section 7) -/

theorem lumLaw_linkPause (h : LumLaw s.lum) : LumLaw (linkPause s).state.lum := by
  unfold linkPause
  split
  · exact h
  · split
    · exact h
    · exact h
    · exact h
    · next hs =>
      obtain ⟨⟨hshape, hserved⟩, _⟩ := lumLaw_iff.mp h
      refine Serving.freeLink ⟨⟨hshape.nodup, nofun, nofun, ⟨nofun, fun hf => ?_⟩⟩, fun g => ?_⟩
      · rw [hshape.fault.mpr hf] at hs; cases hs
      · exact ⟨(hserved g).entry, nofun, fun _ => (hserved g).heard (by simp [hs])⟩

theorem lumLaw_linkResume (h : LumLaw s.lum) : LumLaw (linkResume s).state.lum := by
  unfold linkResume
  split
  · exact h
  · exact h
  · next hs => exact lumLaw_resumeLink h (by simp [hs])
  · next hs => exact lumLaw_resumeLink h (by simp [hs])

/-- A query accepted changes unit and record, and may be granted (R118, R119). -/
theorem lumLaw_queryDriver (h : LumLaw s.lum) (p : PortId) (n item : Nat) : LumLaw (queryDriver p n item s).state.lum := by
  have hserving := (lumLaw_iff.mp h).1
  have haccept : ∀ g i, LumLaw { s.lum with link := acceptQuery p g i s.lum.link } := fun g i =>
    (hserving.relink (k := { s.lum.link with unit := .waiting true, record := ⟨false, p, g, i, none⟩ }) rfl rfl rfl
      rfl).arbitrate
  unfold queryDriver
  repeat' split
  all_goals first | exact h | exact haccept _ _

theorem lumLaw_groupClearFail (h : LumLaw s.lum) (n : Nat) : LumLaw (groupClearFail n s).state.lum := by
  unfold groupClearFail
  split
  · exact h
  · split
    · exact lumLaw_updGroup h _ fun _ => ⟨rfl, rfl, rfl⟩
    · exact h

theorem lumLaw_powerSet (h : LumLaw s.lum) (n w : Nat) : LumLaw (powerSet n w s).state.lum := by
  unfold powerSet
  split
  · exact h
  · split
    · exact lumLaw_updGroup h _ fun _ => ⟨rfl, rfl, rfl⟩
    · exact h

/-- A completed frame to a group that stood throughout becomes its last-sent level, and no frame is in transmission then
(R113). -/
theorem Served.delivered {k : Link} {g a : GroupId} {v : Nat} {kept : Bool} (htx : k.tx = some (.setLevel a v kept))
    {x : Option Group} (h : Served k g x) : Served { k with tx := none } g
      (if kept = true ∧ a = g then x.map fun r => { r with lastSent := some v } else x) := by
  obtain ⟨hentry, hflag, hheard⟩ := h
  split
  · next hk =>
    obtain ⟨rfl, rfl⟩ := hk
    refine ⟨fun n hn => ?_, fun hs r hr => ?_, fun hs r hr => ?_⟩
    · obtain ⟨r, hr, hu, hp⟩ := hentry n hn
      exact ⟨{ r with lastSent := some v }, by rw [Option.mem_def.mp hr]; rfl, hu, hp⟩
    · obtain ⟨r₀, hr₀, rfl⟩ := Option.map_eq_some_iff.mp hr
      exact hflag hs r₀ hr₀
    · obtain ⟨r₀, hr₀, rfl⟩ := Option.map_eq_some_iff.mp hr
      rcases hheard hs r₀ hr₀ with hh | hh | hh | ⟨hh, _⟩
      · exact .inl hh
      · exact .inr (.inl hh)
      · cases htx.symm.trans hh
        exact .inr (.inr (.inr ⟨nofun, rfl⟩))
      · exact absurd htx (hh v true)
  · next hk =>
    refine ⟨hentry, hflag, fun hs r hr => ?_⟩
    rcases hheard hs r hr with hh | hh | hh | ⟨_, hh⟩
    · exact .inl hh
    · exact .inr (.inl hh)
    · cases htx.symm.trans hh
      exact absurd ⟨rfl, rfl⟩ hk
    · exact .inr (.inr (.inr ⟨nofun, hh⟩))

/-- A transmission that ends leaves the rest of the link in shape. -/
theorem LinkShape.freed {k : Link} (h : LinkShape k) : LinkShape { k with tx := none } :=
  ⟨h.nodup, fun hs => ⟨(h.paused hs).1, rfl⟩, fun _ => rfl, h.fault⟩

theorem lumLaw_setLevelDone (h : LumLaw s.lum) : LumLaw (setLevelDone s).lum := by
  obtain ⟨⟨hshape, hserved⟩, _⟩ := lumLaw_iff.mp h
  unfold setLevelDone
  split
  · next a v kept htx =>
    refine Serving.freeLink ⟨?_, fun g => ?_⟩
    · cases kept <;> exact hshape.freed
    · have hg := (hserved g).delivered htx
      cases kept with
      | false => simpa using hg
      | true => simpa [Fin.ext_iff] using hg
  · exact h

/-- A transmission other than a SET_LEVEL frame may end or go on to its answer window: no group is heard by it (R113, R114). -/
theorem Serving.retx {l : Lum} (h : Serving l) (hl : ∀ g v b, l.link.tx ≠ some (.setLevel g v b)) {x : Option Tx}
    (hx : ∀ g v b, x ≠ some (.setLevel g v b)) (hnone : l.link.tx = none → x = none) :
    Serving { l with link := { l.link with tx := x } } := by
  obtain ⟨⟨hnodup, hpaused, hdown, hfault⟩, hserved⟩ := h
  refine ⟨⟨hnodup, fun hs => ⟨(hpaused hs).1, hnone (hpaused hs).2⟩, fun hs => hnone (hdown hs), hfault⟩, fun g => ?_⟩
  obtain ⟨hentry, hflag, hheard⟩ := hserved g
  refine ⟨hentry, hflag, fun hs r hr => ?_⟩
  rcases hheard hs r hr with hh | hh | hh | ⟨_, hh⟩
  · exact .inl hh
  · exact .inr (.inl hh)
  · exact absurd hh (hl _ _ _)
  · exact .inr (.inr (.inr ⟨hx g, hh⟩))

theorem lumLaw_queryFrameDone {l : Lum} (h : LumLaw l) : LumLaw { l with link := queryFrameDone l.link } := by
  obtain ⟨hserving, _⟩ := lumLaw_iff.mp h
  unfold queryFrameDone
  split
  · next g i owned htx =>
    have hwindow := hserving.retx (x := some (.window g i owned)) (by simp [htx]) (by simp) (by simp [htx])
    exact lumLaw_iff.mpr ⟨hwindow.relink rfl rfl rfl rfl, fun _ ht => by cases ht⟩
  · exact h

/-- An answer writes power and FAILED flag alone (R121). -/
theorem applyAnswer_frame (v : AnswerValue) (r : Group) : (applyAnswer v r).present = r.present ∧
    (applyAnswer v r).unsent = r.unsent ∧ (applyAnswer v r).lastSent = r.lastSent := by
  unfold applyAnswer
  split <;> exact ⟨rfl, rfl, rfl⟩

theorem lumLaw_applyOutcomeToGroup (h : LumLaw s.lum) (o : QueryOutcome) : LumLaw (applyOutcomeToGroup o s).lum := by
  unfold applyOutcomeToGroup
  split
  · next v _ =>
    unfold handAnswer
    dsimp only
    repeat' split
    all_goals first | exact h | exact lumLaw_updGroup h _ (applyAnswer_frame v)
  · exact h

theorem applyOutcomeToGroup_link (o : QueryOutcome) (s : State) : (applyOutcomeToGroup o s).lum.link = s.lum.link := by
  unfold applyOutcomeToGroup handAnswer
  dsimp only
  repeat' split
  all_goals rfl

/-- The end of a query writes unit, record and a cause (R120). -/
theorem serving_endQuery (h : Serving s.lum) (o : QueryOutcome) : Serving (endQuery o s).lum := h.relink rfl rfl rfl rfl

theorem lumLaw_windowEnd (h : LumLaw s.lum) (a : Answer) : LumLaw (windowEnd a s).lum := by
  unfold windowEnd
  split
  · next g i owned htx =>
    have hfree : ∀ {l : Lum}, Serving l → l.link.tx = s.lum.link.tx → Serving { l with link := { l.link with tx := none } } :=
      fun hl ht => hl.retx (by simp [ht, htx]) nofun fun _ => rfl
    refine Serving.freeLink ?_
    dsimp only
    split
    · refine hfree (serving_endQuery (lumLaw_iff.mp (lumLaw_applyOutcomeToGroup h _)).1 _) ?_
      show (applyOutcomeToGroup (judgeAnswer i a) s).lum.link.tx = s.lum.link.tx
      rw [applyOutcomeToGroup_link]
    · exact hfree (lumLaw_iff.mp h).1 rfl
  · exact h

/-- The link goes DOWN with its queue and flags as they were, and hears no group any more (R127). -/
theorem lumLaw_linkDown {l : Lum} (h : LumLaw l) : LumLaw { l with link := linkDown l.link } := by
  obtain ⟨⟨hshape, hserved⟩, _⟩ := lumLaw_iff.mp h
  exact lumLaw_iff.mpr ⟨⟨⟨hshape.nodup, nofun, fun _ => rfl, ⟨fun _ => rfl, fun _ => rfl⟩⟩, fun g =>
    ⟨(hserved g).entry, nofun, fun hs => absurd rfl hs⟩⟩, by rintro (hs | hs) <;> cases hs⟩

theorem lumLaw_busFault (h : LumLaw s.lum) : LumLaw (busFault s).lum := by
  have hdown := lumLaw_linkDown h
  unfold busFault
  split
  · exact h
  · refine (demandsOnly_abortRun .link _).lumLaw ?_
    split
    · exact hdown
    · obtain ⟨hserving, _⟩ := lumLaw_iff.mp hdown
      exact lumLaw_iff.mpr ⟨hserving.relink rfl rfl rfl rfl, by rintro (hs | hs) <;> cases hs⟩

theorem lumLaw_busRestoration (h : LumLaw s.lum) :
    LumLaw (if s.lum.link.faultReported then raiseLinkChange (s.setLum (restoreLink s.lum)) else s).lum := by
  split
  · next hf => exact lumLaw_restoreLink h hf
  · exact h

/-! ## Fading and polls -/

theorem lumLaw_fadeStep (h : LumLaw s.lum) (g : GroupId) : LumLaw (fadeStep g s).lum := by
  have hfade := lumLaw_fadeExpiry h (stepSizes s (segOf g)) g
  unfold fadeStep
  dsimp only
  split
  · rw [testFadeWait_lum]; exact hfade
  · exact hfade

theorem judgePoll_lum (f : SensorId → ReplyOutcome) (s : State) : (judgePoll f s).lum = s.lum := by
  unfold judgePoll
  split
  · rfl
  · split
    · rfl
    · dsimp only
      split <;> rfl

end

/-! ## Every step -/

/-- Every command keeps the law of the luminaire link. -/
theorem lumLaw_exec {c : Instr} {s t : State} (h : LumLaw s.lum) (he : exec c s = .next t) : LumLaw t.lum := by
  have hserve : ∀ {p : PortId} {k : Kind} {owner : Body → State → Response},
      (∀ b, LumLaw (owner b s).state.lum) → LumLaw (serve p k owner s).lum := fun ho =>
    serve_keeps (P := fun t => LumLaw t.lum) (fun _ _ hu => hu) h ho
  have keeps : ∀ {t}, DemandsOnly s t → LumLaw t.lum := fun k => k.lumLaw h
  cases c
  all_goals injection he with he; subst he
  case powerOnReset => exact lumLaw_powerOn _ _ _ s
  case selectAssert | selectRelease | roundTimerExpiry | turnaroundEnd | energyTick => exact h
  case nop | ident | causesRead | queryResult | calResultRead | eventsRead | layoutLock => exact hserve fun _ => h
  case causesClear | enablesWrite | settleSet => refine hserve fun b => ?_; split <;> exact h
  case segRead => refine hserve fun b => ?_; split; exacts [by unfold segRead; split <;> exact h, h]
  case sensorRead => refine hserve fun b => ?_; split; exacts [by unfold sensorRead; split <;> exact h, h]
  case tableRead => refine hserve fun b => ?_; split; exacts [by unfold tableRead; split <;> exact h, h]
  case couplingRead => refine hserve fun b => ?_; split; exacts [by unfold couplingRead; split <;> exact h, h]
  case energyRead => refine hserve fun b => ?_; split; exacts [by unfold energyRead; split <;> exact h, h]
  case energyClear => refine hserve fun b => ?_; split; exacts [by unfold energyClear; dsimp only; split <;> exact h, h]
  case segDefine => refine hserve fun b => ?_; split; exacts [lumLaw_segDefine h _ _ _ _, h]
  case segRemove => refine hserve fun b => ?_; split; exacts [lumLaw_segRemove h _, h]
  case segTune => refine hserve fun b => ?_; split; exacts [keeps (demandsOnly_segTune _ _ s), h]
  case bandSet => refine hserve fun b => ?_; split; exacts [keeps (demandsOnly_bandSet _ _ _ s), h]
  case couplingWrite => refine hserve fun b => ?_; split; exacts [keeps (demandsOnly_couplingWrite _ _ _ _ s), h]
  case overrideSet =>
    refine hserve fun b => ?_; split; exacts [keeps (tableRequested_overrideSet s _ _ _).demandsOnly, h]
  case overrideCancel =>
    refine hserve fun b => ?_; split; exacts [keeps (tableRequested_overrideCancel s _).demandsOnly, h]
  case lockSet => refine hserve fun b => ?_; split; exacts [keeps (tableRequested_lockSet s _ _).demandsOnly, h]
  case lockRelease => refine hserve fun b => ?_; split; exacts [keeps (tableRequested_lockRelease s _).demandsOnly, h]
  case holdSet => refine hserve fun b => ?_; split; exacts [keeps (tableRequested_holdSet s _ _).demandsOnly, h]
  case holdSettled => refine hserve fun b => ?_; split; exacts [keeps (tableRequested_holdSettled s _).demandsOnly, h]
  case capSet => refine hserve fun b => ?_; split; exacts [keeps (tableRequested_capSet s _ _ _ _).demandsOnly, h]
  case capCancel => refine hserve fun b => ?_; split; exacts [keeps (tableRequested_capCancel s _).demandsOnly, h]
  case calStart => refine hserve fun b => ?_; split; exacts [keeps (demandsOnly_calStart _ _ _ _ _ _ _ s), h]
  case calAbort => exact hserve fun _ => keeps (demandsOnly_abortRun _ s)
  case linkPause => exact hserve fun _ => lumLaw_linkPause h
  case linkResume => exact hserve fun _ => lumLaw_linkResume h
  case groupClearFail => refine hserve fun b => ?_; split; exacts [lumLaw_groupClearFail h _, h]
  case powerSet => refine hserve fun b => ?_; split; exacts [lumLaw_powerSet h _ _, h]
  case glareSet => refine hserve fun b => ?_; split; exacts [keeps (demandsOnly_glareSet _ _ s), h]
  case queryDriver => refine hserve fun b => ?_; split; exacts [lumLaw_queryDriver h _ _ _, h]
  case restart => exact lumLaw_restart h _
  case sensorReply | replyWindowTimeout | interByteGap => exact keeps (.of_eq (judgePoll_lum _ s))
  case pass => split; exacts [keeps (demandsOnly_passSegment _ s), h]
  case fadeStep => exact lumLaw_fadeStep h _
  case uptimeTick => exact keeps ((demandsOnly_departDue _).after rfl)
  case entryExpiry => exact keeps (demandsOnly_departDue s)
  case setLevelCompletion => exact lumLaw_setLevelDone h
  case queryFrameCompletion => exact lumLaw_queryFrameDone h
  case answerWindowEnd => exact lumLaw_windowEnd h _
  case busFault => exact lumLaw_busFault h
  case busRestoration => exact lumLaw_busRestoration h
  case calStageTimerExpiry => exact keeps (demandsOnly_calStageTimerExpiry s)

/-- Settles O7: a level handed to the link is queued, granted at once or marked unsent; a frame that completes makes its level
the last one sent; and a refresh queues whatever is neither. -/
theorem lumLawKept : Obligations.LumLawKept := by
  unfold Obligations.LumLawKept
  exact step_keeps (P := fun s => LumLaw s.lum) (fun _ _ h => h) fun _ _ _ h he => lumLaw_exec h he

end Sys2Proof.Proofs
end

section
/-! PROOFS. The arbiter and a link that falls free, the query unit, pause and resume (R113, R117 to R120, R123 to R125). -/

namespace Sys2Proof.Proofs

open Sys2Proof Sys2Proof.Machine Sys2Proof.Safety Sys2Proof.Laws

/-! ## The arbiter (R117) -/

theorem queryWaits_eq_true {k : Link} : queryWaits k = true ↔ ∃ kept, k.unit = .waiting kept := by
  unfold queryWaits
  split
  · next kept h => exact ⟨fun _ => ⟨kept, h⟩, fun _ => rfl⟩
  · next h => exact ⟨nofun, fun ⟨kept, hk⟩ => absurd hk (h kept)⟩

theorem queryWaits_eq_false {k : Link} : queryWaits k = false ↔ ∀ kept, k.unit ≠ .waiting kept := by
  rw [← Bool.not_eq_true, queryWaits_eq_true, not_exists]

section
variable {k : Link}

theorem arbitrate_free (ht : k.tx = none) (hs : k.state = .running ∨ k.state = .draining) : arbitrate k = grant k :=
  if_pos (by rw [sends_iff.mpr hs, ht]; rfl)

/-- Where it may send nothing, or nothing waits, the arbiter leaves the link as it is. -/
theorem arbitrate_still (h : k.tx ≠ none ∨ k.state = .paused ∨ k.state = .down ∨
    k.queue = [] ∧ (∀ kept, k.unit ≠ .waiting kept)) : arbitrate k = k := by
  rcases arbitrate_cases k with ⟨e, _⟩ | ⟨hs, ht, hw, _⟩ | ⟨g, n, rest, hs, ht, hq, _⟩
  · exact e
  · obtain ⟨kept, hkept⟩ := queryWaits_eq_true.mp hw
    obtain ⟨hp, hd⟩ := not_idle_of_sends hs
    rcases h with h | h | h | ⟨_, h⟩
    exacts [absurd ht h, absurd h hp, absurd h hd, absurd hkept (h kept)]
  · obtain ⟨hp, hd⟩ := not_idle_of_sends hs
    rcases h with h | h | h | ⟨h, _⟩
    exacts [absurd ht h, absurd h hp, absurd h hd, by rw [hq] at h; cases h]

/-- The query that waits goes before the levels unless the last grant was QUERY. -/
theorem arbitrate_query (ht : k.tx = none) (hs : k.state = .running ∨ k.state = .draining) {kept : Bool}
    (hw : k.unit = .waiting kept) (hq : k.queue = [] ∨ k.lastGrant = .level) :
    arbitrate k = { k with tx := some (.query k.record.group k.record.item true), lastGrant := .query } := by
  rw [arbitrate_free ht hs]
  refine if_pos ?_
  rw [queryWaits_eq_true.mpr ⟨kept, hw⟩]
  rcases hq with hq | hq <;> simp [hq]

/-- Otherwise the head of the queue goes. -/
theorem arbitrate_level (ht : k.tx = none) (hs : k.state = .running ∨ k.state = .draining) {g : GroupId} {level : Nat}
    {rest : List (GroupId × Nat)} (hq : k.queue = (g, level) :: rest)
    (hw : (∀ kept, k.unit ≠ .waiting kept) ∨ k.lastGrant = .query) :
    arbitrate k = { k with tx := some (.setLevel g level true), queue := rest, lastGrant := .level } := by
  have hno : (queryWaits k && (k.queue.isEmpty || k.lastGrant == .level)) = false := by
    rcases hw with hw | hw
    · rw [queryWaits_eq_false.mpr hw, Bool.false_and]
    · simp [hq, hw]
  rw [arbitrate_free ht hs, grant, if_neg (by simp [hno]), hq]

end

/-! ## A link that falls free (R117, R124) -/

theorem raiseLinkChange_eq (s : State) : raiseLinkChange s =
    { s with ports := s.ports.map fun q => if q.role = .off then q else { q with raised := q.raised ||| 0x0400 } } := rfl

section
variable {s : State}

theorem freeLink_drained (h : drainDone s.lum.link = true) :
    freeLink s = raiseLinkChange (setLink { s.lum.link with state := .paused } s) := by
  simp only [freeLink, linkFree, h, if_true]

theorem freeLink_undrained (h : drainDone s.lum.link = false) : freeLink s = setLink (arbitrate s.lum.link) s := by
  simp [freeLink, linkFree, h]

/-- Where the arbiter starts nothing and no drain ends, nothing happens. -/
theorem freeLink_still (hd : drainDone s.lum.link = false) (ha : arbitrate s.lum.link = s.lum.link) : freeLink s = s := by
  rw [freeLink_undrained hd, ha]
  rfl

/-- A drain has not ended where one of its conditions fails. -/
theorem not_drainDone {k : Link} (h : ¬ (k.state = .draining ∧ k.queue = [] ∧ k.unit = .idle ∧ k.tx = none)) :
    drainDone k = false := Bool.eq_false_of_not_eq_true fun hd => h (drainDone_iff.mp hd)

/-! ## Frames that complete (R113, R120) -/

theorem setLevelDone_eq {g : GroupId} {level : Nat} {kept : Bool} (h : s.lum.link.tx = some (.setLevel g level kept)) :
    setLevelDone s = freeLink { s with lum :=
      { groups := if kept then s.lum.groups.set g (s.lum.groups[g].map fun r => { r with lastSent := some level })
          else s.lum.groups
        link := { s.lum.link with tx := none } } } := by
  unfold setLevelDone
  rw [h]
  cases kept <;> rfl

theorem queryFrameDone_eq {k : Link} {g : GroupId} {item : Item} {owned : Bool} (h : k.tx = some (.query g item owned)) :
    queryFrameDone k = { k with
      tx := some (.window g item owned), unit := if owned then enterFlight k.unit else k.unit } := by
  unfold queryFrameDone
  rw [h]

end

/-- Settles O50: the arbiter by its cases, and a link that falls free by whether its drain has ended. -/
theorem linkFreeAndCompletions : Obligations.LinkFreeAndCompletions := by
  unfold Obligations.LinkFreeAndCompletions
  refine ⟨fun k => ⟨arbitrate_still, fun ht hs => ⟨fun _ => arbitrate_query ht hs, fun _ _ _ => arbitrate_level ht hs⟩⟩,
    fun s => ⟨fun ht => ?_, fun hs hq hw => ?_, fun kept hs hq hu => ?_⟩,
    fun s ht => ⟨fun hs hq hu => ?_, fun hs => ?_, fun hs => ⟨fun kept hw hq => ?_, fun g level rest hq hw => ?_⟩⟩,
    fun s => ⟨fun g level kept htx => ?_, fun g item owned htx => ?_⟩⟩
  · exact freeLink_still (not_drainDone fun ⟨_, _, _, h⟩ => ht h) (arbitrate_still (.inl ht))
  · exact freeLink_still (not_drainDone (by simp [hs])) (arbitrate_still (.inr (.inr (.inr ⟨hq, hw⟩))))
  · exact freeLink_still (not_drainDone (by simp [hu])) (arbitrate_still (.inr (.inr (.inr ⟨hq, by simp [hu]⟩))))
  · rw [freeLink_drained (drainDone_iff.mpr ⟨hs, hq, hu, ht⟩), raiseLinkChange_eq]
    rfl
  · refine freeLink_still (not_drainDone ?_) (arbitrate_still (.inr (hs.imp_right .inl)))
    rcases hs with hs | hs <;> simp [hs]
  · rw [freeLink_undrained (not_drainDone (by simp [hw])), arbitrate_query ht hs hw hq]
    rfl
  · rw [freeLink_undrained (not_drainDone (by simp [hq])), arbitrate_level ht hs hq hw]
    rfl
  · exact congrArg Host.Outcome.next (setLevelDone_eq htx)
  · refine congrArg Host.Outcome.next ?_
    rw [queryFrameDone_eq htx]
    cases owned with
    | false => rfl
    | true => cases s.lum.link.unit <;> rfl

/-! ## QUERY_DRIVER (R119) -/

theorem item?_itemCode (i : Item) : item? (itemCode i) = some i := by cases i <;> rfl

theorem item?_eq_none {n : Nat} (h : 2 ≤ n) : item? n = none := by
  unfold item?
  rw [if_neg (by omega), if_neg (by omega)]

theorem exists_item? {n : Nat} (h : n < 2) : ∃ i, item? n = some i := by
  unfold item?
  split
  · exact ⟨_, rfl⟩
  · exact ⟨.status, if_pos (by omega)⟩

theorem exists_groupId? {l : Lum} {n : Nat} (h : NamesGroup l n) : ∃ g, groupId? n = some g ∧ groupExists l g = true := by
  obtain ⟨hn, hex⟩ := h
  exact ⟨⟨n, hn⟩, dif_pos hn, hex⟩

section
variable {k : Link} (p : PortId) (g : GroupId) (i : Item)

/-- A query accepted while a transmission runs waits. -/
theorem acceptQuery_waits (ht : k.tx ≠ none) :
    acceptQuery p g i k = { k with unit := .waiting true, record := ⟨false, p, g, i, none⟩ } := arbitrate_still (.inl ht)

/-- On a free link the accepted query goes out, unless a level waits and the last grant was QUERY (R117). -/
theorem acceptQuery_granted (ht : k.tx = none) (hs : k.state = .running) (hq : k.queue = [] ∨ k.lastGrant = .level) :
    acceptQuery p g i k = { k with
      unit := .waiting true, record := ⟨false, p, g, i, none⟩, tx := some (.query g i true), lastGrant := .query } :=
  arbitrate_query (k := { k with unit := .waiting true, record := ⟨false, p, g, i, none⟩ }) ht (.inl hs) rfl hq

end

section
variable {s : State} {p : PortId} {n item : Nat}

theorem queryDriver_range (h : ¬ NamesGroup s.lum n ∨ 2 ≤ item) : queryDriver p n item s = refuse .range s := by
  unfold queryDriver
  split
  · next g i hg hi =>
    rcases h with h | h
    · rw [groupId?_unnamed h g hg]
      rfl
    · rw [item?_eq_none h] at hi
      cases hi
  · rfl

/-- What follows the RANGE check: the unit, then the link state. -/
theorem queryDriver_named {g : GroupId} {i : Item} (hg : groupId? n = some g) (hi : item? item = some i)
    (hex : groupExists s.lum g = true) : queryDriver p n item s =
      if s.lum.link.unit ≠ .idle then refuse .busy s
      else if s.lum.link.state = .draining ∨ s.lum.link.state = .paused then refuse .paused s
      else if s.lum.link.state = .down then refuse .noLink s
      else ⟨setLink (acceptQuery p g i s.lum.link) s, .accepted, []⟩ := by
  unfold queryDriver
  rw [hg, hi]
  dsimp only
  by_cases hu : s.lum.link.unit = .idle
  · cases hs : s.lum.link.state <;> simp [hex, unitIdle, hu]
  · simp [hex, unitIdle, hu]

theorem queryDriver_refused {st : Status} (hn : NamesGroup s.lum n) (hi : item < 2)
    (h : st = .busy ∧ s.lum.link.unit ≠ .idle ∨
      st = .paused ∧ s.lum.link.unit = .idle ∧ (s.lum.link.state = .draining ∨ s.lum.link.state = .paused) ∨
      st = .noLink ∧ s.lum.link.unit = .idle ∧ s.lum.link.state = .down) : queryDriver p n item s = refuse st s := by
  obtain ⟨g, hg, hex⟩ := exists_groupId? hn
  obtain ⟨i, hi⟩ := exists_item? hi
  rw [queryDriver_named hg hi hex]
  rcases h with ⟨rfl, hu⟩ | ⟨rfl, hu, hs⟩ | ⟨rfl, hu, hs⟩
  · rw [if_pos hu]
  · rw [if_neg (by simp [hu]), if_pos hs]
  · rw [if_neg (by simp [hu]), if_neg (by simp [hs]), if_pos hs]

theorem queryDriver_accepted {g : GroupId} (i : Item) (hex : groupExists s.lum g = true) (hu : s.lum.link.unit = .idle)
    (hs : s.lum.link.state = .running) : queryDriver p g.val (itemCode i) s =
      ⟨setLink (acceptQuery p g i s.lum.link) s, .accepted, []⟩ := by
  rw [queryDriver_named (groupId?_val g) (item?_itemCode i) hex, if_neg (by simp [hu]), if_neg (by simp [hs]),
    if_neg (by simp [hs])]

end

/-- Settles O52: each clause meets the check it names with the checks before it passed, and the accepted query is offered to the
arbiter. -/
theorem queryDriverRule : Obligations.QueryDriverRule := by
  unfold Obligations.QueryDriverRule
  refine fun p link tag n item s h => ⟨fun st hst => exec_refused rfl h ?_, fun g i hn hex hi hu hs => ?_⟩
  · show queryDriver p n item s = refuse st s
    rcases hst with ⟨rfl, hr⟩ | ⟨rfl, hn, hi, hu⟩ | ⟨rfl, hn, hi, hu, hs⟩ | ⟨rfl, hn, hi, hu, hs⟩
    · exact queryDriver_range hr
    · exact queryDriver_refused hn hi (.inl ⟨rfl, hu⟩)
    · exact queryDriver_refused hn hi (.inr (.inl ⟨rfl, hu, hs⟩))
    · exact queryDriver_refused hn hi (.inr (.inr ⟨rfl, hu, hs⟩))
  · subst hn hi
    refine ⟨acceptQuery p g i s.lum.link, ?_, ?_⟩
    · refine congrArg Host.Outcome.next ((serve_runs _ h).trans ?_)
      dsimp only
      rw [queryDriver_accepted i hex hu hs]
      rfl
    · refine ⟨arbitrate_unit _, arbitrate_record _, (arbitrate_state _).trans hs, arbitrate_pauseInForce _,
        arbitrate_faultReported _, fun ht => ?_, fun ht hq => ?_⟩
      · rw [acceptQuery_waits p g i ht]
        exact ⟨rfl, rfl, rfl⟩
      · rw [acceptQuery_granted p g i ht hs hq]
        exact ⟨rfl, rfl, rfl⟩

/-! ## LINK_PAUSE and LINK_RESUME (R123, R125) -/

section
variable {s : State}

theorem linkPause_busy (h : s.cal.run ≠ none) : linkPause s = refuse .busy s :=
  if_pos (Option.isSome_iff_ne_none.mpr h)

/-- What follows the check for a run. -/
theorem linkPause_idle (h : s.cal.run = none) : linkPause s =
    if s.lum.link.state = .down then refuse .noLink s
    else if s.lum.link.state = .running then accept false (freeLink (setLink { s.lum.link with state := .draining } s))
    else accept false s := by
  unfold linkPause
  rw [h]
  cases s.lum.link.state <;> rfl

/-- Every unsent group queued with its present level and its flag cleared, and the link RUNNING (R125). -/
theorem resumeLink_eq (l : Lum) : resumeLink l =
    { groups := l.groups.map fun x => x.map fun r => { r with unsent := false }
      link := arbitrate { l.link with state := .running, queue := l.link.queue ++ levelsWhere l fun _ r => r.unsent } } := rfl

theorem linkResume_down (h : s.lum.link.state = .down) : linkResume s = refuse .noLink s := by
  unfold linkResume; rw [h]

theorem linkResume_running (h : s.lum.link.state = .running) : linkResume s = accept false s := by
  unfold linkResume; rw [h]

theorem linkResume_resumed (h : s.lum.link.state = .draining ∨ s.lum.link.state = .paused) : linkResume s =
    accept false { s with
      ports := if s.lum.link.state = .paused then
          s.ports.map fun q => if q.role = .off then q else { q with raised := q.raised ||| 0x0400 }
        else s.ports
      lum := resumeLink s.lum } := by
  unfold linkResume
  rcases h with h | h
  · rw [if_neg (by simp [h]), h]
    rfl
  · rw [if_pos h, h]
    rfl

end

/-- Settles O53: each link state by its own answer, and a resumption queues the unsent levels behind those that wait. -/
theorem pauseAndResume : Obligations.PauseAndResume := by
  unfold Obligations.PauseAndResume
  refine fun p link tag s => ⟨fun h => ⟨fun hr => ?_, fun hr hs => ?_, fun hr hs => ?_, fun hr hs => ?_⟩,
    fun h => ⟨fun hs => ?_, fun hs => ?_, fun hs => ?_⟩⟩
  · exact exec_refused rfl h (linkPause_busy hr)
  · exact exec_refused rfl h ((linkPause_idle hr).trans (if_pos hs))
  · refine exec_done rfl h ((linkPause_idle hr).trans ?_)
    rcases hs with hs | hs <;> simp [hs]
  · refine exec_done rfl h ((linkPause_idle hr).trans ?_)
    rw [if_neg (by simp [hs]), if_pos hs]
    rfl
  · exact exec_refused rfl h (linkResume_down hs)
  · exact exec_done rfl h (linkResume_running hs)
  · refine (exec_done rfl h (linkResume_resumed hs)).trans ?_
    rw [resumeLink_eq]
    rfl

end Sys2Proof.Proofs
end

section
/-! PROOFS. The reading requests of the query record, the energy and the calibration record (R108, R109, R122, R151, R179). -/

namespace Sys2Proof.Proofs

open Sys2Proof Sys2Proof.Machine Sys2Proof.Safety Sys2Proof.Laws

/-! ## QUERY_RESULT (R122) -/

/-- The unsent levels are as many as the groups marked unsent. -/
theorem length_unsent (l : Lum) : (levelsWhere l fun _ r => r.unsent).length =
    ((List.finRange 48).filter fun g => (l.groups[g].map (·.unsent)).getD false).length := by
  rw [← List.length_map (f := Prod.fst), map_fst_levelsWhere]
  congr 2
  funext g
  cases l.groups[g] <;> rfl

theorem queryPayload_eq (s : State) : queryPayload s =
    [BitVec.ofNat 8 ((if s.lum.link.record.valid then 128 else 0) + unitCode s.lum.link.unit),
      BitVec.ofNat 8 s.lum.link.record.port.val, BitVec.ofNat 8 s.lum.link.record.group.val,
      BitVec.ofNat 8 (itemCode s.lum.link.record.item), BitVec.ofNat 8 (outcomeCode s.lum.link.record.outcome)]
      ++ beBytes 2 (outcomeValue s.lum.link.record.outcome)
      ++ [BitVec.ofNat 8 ((if s.lum.link.pauseInForce then 128 else 0) + linkCode s.lum.link.state),
        BitVec.ofNat 8 s.lum.link.queue.length,
        BitVec.ofNat 8 ((List.finRange 48).filter fun g => (s.lum.groups[g].map (·.unsent)).getD false).length] := by
  simp only [queryPayload, beBytes_one, bit_mul, length_unsent, List.append_assoc, List.cons_append, List.nil_append]

/-! ## ENERGY_READ (R108, R109) -/

theorem energyRead_lt {n : Nat} (h : n < 16) (s : State) : energyRead n s = answer (energyPayload n s) s :=
  if_neg (Nat.not_le_of_lt h)

theorem length_energyRecord (s : State) (n : Nat) : (energyRecord s n).length = 7 := by
  unfold energyRecord
  split <;> simp

theorem energyRecord_eq (s : State) (n : Nat) : energyRecord s n =
    if h : n < 16 then
      (if configured s ⟨n, h⟩ then 1 else 0) :: beBytes 4 s.energy[n].wh
        ++ beBytes 2 (if configured s ⟨n, h⟩ then segDraw s.lum ⟨n, h⟩ / 1000 else 0)
    else List.replicate 7 0 := by
  unfold energyRecord
  by_cases h : n < 16
  · have hseg : segId? n = some ⟨n, h⟩ := dif_pos h
    rw [hseg, dif_pos h]
    dsimp only
    rw [beBytes_one, presentDemand]
    cases configured s ⟨n, h⟩ <;> rfl
  · have hseg : segId? n = none := dif_neg h
    rw [hseg, dif_neg h]

theorem energyPayload_eq (n : Nat) (s : State) : energyPayload n s =
    BitVec.ofNat 8 n :: beBytes 4 s.table.uptime ++ paddedRecords 7 4 (fun j => energyRecord s (n + j)) (List.range 4) := by
  have hlist : (List.range 4).take 4 = List.range 4 := rfl
  have hpad : 7 * 4 - ((List.range 4).flatMap fun j => energyRecord s (n + j)).length = 0 := by
    simp [List.length_flatMap, length_energyRecord]
  rw [energyPayload, beBytes_one, paddedRecords, hlist, hpad, List.replicate_zero, List.append_nil]
  rfl

/-! ## CAL_RESULT_READ (R151) -/

/-- The sensor statuses as twelve bytes, three bits a sensor (R179). -/
def statusBytes (x : CalResult) : List Byte := beBytes 12 (packFields 3 ((List.finRange 32).map fun k => statusCode x.statuses[k]))

theorem statusCode_lt (x : SensorStatus) : statusCode x < 2 ^ 3 := by cases x <;> decide

/-- The status of a sensor read back from its place. -/
theorem statusBytes_field (x : CalResult) (k : SensorId) :
    beNat (statusBytes x) / 8 ^ (31 - k.val) % 8 = statusCode x.statuses[k] := by
  have hfit : ∀ n ∈ (List.finRange 32).map fun k => statusCode x.statuses[k], n < 2 ^ 3 := fun n hn => by
    obtain ⟨j, _, rfl⟩ := List.mem_map.mp hn
    exact statusCode_lt _
  have hlen : ((List.finRange 32).map fun k => statusCode x.statuses[k]).length = 32 := rfl
  have hrange : (256 : Nat) ^ 12 = 2 ^ (3 * 32) := by norm_num
  have hplace : (8 : Nat) ^ (31 - k.val) = 2 ^ (3 * (32 - 1 - k.val)) := by rw [Nat.pow_mul]
  have hlt := packFields_lt hfit
  have hfield := packFields_field hfit (j := k.val) (by rw [hlen]; exact k.isLt)
  rw [hlen, ← hrange] at hlt
  rw [statusBytes, beNat_beBytes, Nat.mod_eq_of_lt hlt, hplace]
  refine hfield.trans ?_
  simp

theorem calPayload_eq (s : State) : calPayload s =
    BitVec.ofNat 8 (calOutcomeCode s.cal.result.outcome) ::
      (beBytes 2 s.cal.result.segments.toNat ++ beBytes 2 s.cal.result.params.base ++ beBytes 2 s.cal.result.params.high
        ++ beBytes 2 s.cal.result.params.highEff ++ beBytes 2 s.cal.result.params.low
        ++ beBytes 2 s.cal.result.params.half ++ beBytes 2 s.cal.result.params.settle
        ++ [BitVec.ofNat 8 ((if s.cal.result.clamped then 128 else 0) + darkCode s.cal.result.params.dark * 16
          + s.cal.result.params.loops)]
        ++ statusBytes s.cal.result ++ progressBytes s.cal.run) := by
  simp only [calPayload, statusBytes, beBytes_one, bit_mul, List.append_assoc, List.cons_append, List.nil_append]

/-- The progress of a run: the probe position where a phase walks the probe groups, and 0 in the others. -/
theorem progressBytes_run (r : CalRun) : progressBytes (some r) =
    [BitVec.ofNat 8 (phaseCode r.phase * 16 + stageCode r.stage),
      BitVec.ofNat 8 (if isProbePhase r.phase then r.probe else 0),
      BitVec.ofNat 8 ((r.groups[if isProbePhase r.phase then r.probe else 0]?.map (·.val)).getD 0),
      BitVec.ofNat 8 (if isProbePhase r.phase then r.cycle else 0), BitVec.ofNat 8 r.groups.length] := by
  simp only [progressBytes, probeGroup, beBytes_one, List.cons_append, List.nil_append]

/-- Settles O33: the payloads byte by byte, the four energy records at their places, and the statuses read back from theirs. -/
theorem queryEnergyCalRead : Obligations.QueryEnergyCalRead := by
  unfold Obligations.QueryEnergyCalRead
  refine ⟨fun p link tag s => ⟨fun h => ?_, fun n hn h => ?_⟩, fun p link tag s h => ?_⟩
  · rw [exec_answered rfl h (rfl : _ = answer (queryPayload s) s), queryPayload_eq]
    congr 8
    · cases s.lum.link.record.item <;> rfl
    · rcases s.lum.link.record.outcome with _ | _ | _ | _ | _ <;> rfl
    · rcases s.lum.link.record.outcome with _ | (_ | d) | _ | _ | _
      case some.ok.status => cases d <;> rfl
      all_goals rfl
  · refine ⟨paddedRecords 7 4 (fun j => energyRecord s (n + j)) (List.range 4), ?_,
      length_paddedRecords (fun j => length_energyRecord s _) 4 _, fun j => ?_⟩
    · rw [exec_answered rfl h (energyRead_lt hn s), energyPayload_eq]
    · rw [paddedRecords_record (fun j => length_energyRecord s _) 4 j.val _ j.isLt, List.getElem?_range j.isLt]
      exact energyRecord_eq s _
  · refine ⟨statusBytes s.cal.result, progressBytes s.cal.run, ?_, length_beBytes .., fun k => ?_, ?_⟩
    · rw [exec_answered rfl h (rfl : _ = answer (calPayload s) s), calPayload_eq]
      congr 10
      · rcases s.cal.result.outcome with _ | _ | _ | why
        case aborted => cases why <;> rfl
        all_goals rfl
      · cases s.cal.result.params.dark <;> rfl
    · rw [statusBytes_field]
      cases s.cal.result.statuses[k] <;> rfl
    · cases s.cal.run with
      | none => rfl
      | some r =>
        rw [progressBytes_run]
        dsimp only
        cases r.phase <;> cases r.stage <;> rfl

end Sys2Proof.Proofs
end

section
/-! PROOFS. CAL_START refused: the checks of the run, the mask, the modes and the link, and then those of the option and the
levels (R134, R135). -/

namespace Sys2Proof.Proofs

open Sys2Proof Sys2Proof.Machine Sys2Proof.Safety Sys2Proof.Laws

/-! ## The segments that take part (R131) -/

/-- The segment takes part in a run over the mask. -/
abbrev Involved (m : SegMask) (s : State) (i : SegId) : Prop := maskHas m i = true ∧ configured s i = true

section
variable {m : SegMask} {s : State}

theorem maskHas_configured_iff {i : SegId} : maskHas (m &&& configuredMask s) i = true ↔ Involved m s i := by
  rw [maskHas_and, maskHas_configuredMask, Bool.and_eq_true]

theorem configuredPart_eq_zero_iff : m &&& configuredMask s = 0 ↔ ∀ i, ¬ Involved m s i := by
  simp only [mask_eq_zero, ← maskHas_configured_iff, Bool.not_eq_true]

theorem any_mode_iff {x : Mode} : ((maskSegs (m &&& configuredMask s)).any fun i => modeOf s i == x) = true ↔
    ∃ i, Involved m s i ∧ modeOf s i = x := by
  simp only [List.any_eq_true, mem_maskSegs, maskHas_configured_iff, beq_iff_eq]

end

/-! ## The checks in their order (R134, R135) -/

theorem darkOption?_eq_none {n : Nat} (h : 3 ≤ n) : darkOption? n = none := by
  rw [darkOption?, if_neg (by omega), if_neg (by omega), if_neg (by omega)]

theorem levelCheck_failed {cap : Nat} {q : CalParams} {st : Status}
    (h : st = .capped ∧ cap < q.base ∨ st = .range ∧ q.base ≤ cap ∧ q.high < q.low + 100 ∨
      st = .capped ∧ q.base ≤ cap ∧ q.low + 100 ≤ q.high ∧ q.highEff < q.low + 100) : levelCheck cap q = some st := by
  rcases h with ⟨rfl, hb⟩ | ⟨rfl, hb, hs⟩ | ⟨rfl, hb, hs, he⟩
  · exact if_pos hb
  · rw [levelCheck, if_neg (Nat.not_lt.mpr hb), if_pos hs]
  · rw [levelCheck, if_neg (Nat.not_lt.mpr hb), if_neg (Nat.not_lt.mpr hs), if_pos he]

section
variable {m : SegMask} {base high low half su opt : Nat} {s : State}

/-- The checks of CAL_START as one chain, with the mask and the modes read segment by segment. -/
theorem calStart_eq : calStart m base high low half su opt s =
    let part := m &&& configuredMask s
    let cap := capMin s.table.entries part
    if s.cal.run ≠ none then refuse .busy s
    else if ∀ i, ¬ Involved m s i then refuse .notConfigured s
    else if ∃ i, Involved m s i ∧ modeOf s i = .locked then refuse .segLocked s
    else if ∃ i, Involved m s i ∧ modeOf s i = .held then refuse .held s
    else if s.lum.link.state = .draining ∨ s.lum.link.state = .paused then refuse .paused s
    else if s.lum.link.state = .down then refuse .noLink s
    else (darkOption? (opt / 16)).elim (refuse .range s) fun d =>
      let q := takeParams cap base high low half (su * 50) (opt % 16) d
      (levelCheck cap q).elim
        ⟨beginRun part q (part != m || adjusted q base high low half (su * 50) (opt % 16)) s, .accepted, []⟩
        (refuse · s) := by
  simp only [calStart, Option.isSome_iff_ne_none, configuredPart_eq_zero_iff, any_mode_iff]
  congr 4
  cases s.lum.link.state
  case running =>
    cases darkOption? (opt / 16) with
    | none => rfl
    | some d =>
      dsimp only [Option.elim_some]
      cases levelCheck _ (takeParams _ base high low half (su * 50) (opt % 16) d) <;> rfl
  all_goals rfl

/-- The first of the checks of R134 that fails gives the status. -/
theorem calStart_refused {st : Status}
    (h : st = .busy ∧ s.cal.run ≠ none ∨
      st = .notConfigured ∧ s.cal.run = none ∧ (∀ i, ¬ Involved m s i) ∨
      st = .segLocked ∧ s.cal.run = none ∧ (∃ i, Involved m s i ∧ modeOf s i = .locked) ∨
      st = .held ∧ s.cal.run = none ∧ (∀ i, Involved m s i → modeOf s i ≠ .locked) ∧
        (∃ i, Involved m s i ∧ modeOf s i = .held) ∨
      (st = .paused ∧ (s.lum.link.state = .draining ∨ s.lum.link.state = .paused) ∨
        st = .noLink ∧ s.lum.link.state = .down) ∧ s.cal.run = none ∧ (∃ i, Involved m s i) ∧
        ∀ i, Involved m s i → modeOf s i ≠ .locked ∧ modeOf s i ≠ .held) :
    calStart m base high low half su opt s = refuse st s := by
  have hinv {P : SegId → Prop} (h : ∃ i, Involved m s i ∧ P i) : ¬ ∀ i, ¬ Involved m s i :=
    fun hno => h.elim fun i hi => hno i hi.1
  rw [calStart_eq]
  dsimp only
  rcases h with ⟨rfl, hr⟩ | ⟨rfl, hr, hno⟩ | ⟨rfl, hr, hlocked⟩ | ⟨rfl, hr, hlocked, hheld⟩ | ⟨hlink, hr, ⟨i, hi⟩, hmodes⟩
  · exact if_pos hr
  · rw [if_neg (not_not.mpr hr), if_pos hno]
  · rw [if_neg (not_not.mpr hr), if_neg (hinv hlocked), if_pos hlocked]
  · rw [if_neg (not_not.mpr hr), if_neg (hinv hheld), if_neg fun ⟨i, hi, hm⟩ => hlocked i hi hm, if_pos hheld]
  · rw [if_neg (not_not.mpr hr), if_neg fun hno => hno i hi, if_neg fun ⟨i, hi, hm⟩ => (hmodes i hi).1 hm,
      if_neg fun ⟨i, hi, hm⟩ => (hmodes i hi).2 hm]
    rcases hlink with ⟨rfl, hs⟩ | ⟨rfl, hs⟩
    · exact if_pos hs
    · rw [if_neg (by simp [hs]), if_pos hs]

/-- Those checks passed, the option and the levels decide (R135). -/
theorem calStart_running_refused (hr : s.cal.run = none) (hm : ∃ i, Involved m s i)
    (hmodes : ∀ i, Involved m s i → modeOf s i ≠ .locked ∧ modeOf s i ≠ .held) (hs : s.lum.link.state = .running) {st : Status}
    (h : st = .range ∧ 3 ≤ opt / 16 ∨ opt / 16 < 3 ∧ ∀ d,
      levelCheck (capMin s.table.entries (m &&& configuredMask s))
        (takeParams (capMin s.table.entries (m &&& configuredMask s)) base high low half (su * 50) (opt % 16) d) = some st) :
    calStart m base high low half su opt s = refuse st s := by
  rw [calStart_eq]
  dsimp only
  rw [if_neg (not_not.mpr hr), if_neg fun hno => hm.elim hno, if_neg fun ⟨i, hi, hx⟩ => (hmodes i hi).1 hx,
    if_neg fun ⟨i, hi, hx⟩ => (hmodes i hi).2 hx, if_neg (by simp [hs]), if_neg (by simp [hs])]
  rcases h with ⟨rfl, ho⟩ | ⟨ho, hlevel⟩
  · rw [darkOption?_eq_none ho]
    rfl
  · rw [darkOption?_eq ho, Option.elim_some, hlevel]
    rfl

end

/-- Settles O55: each clause meets the check it names with the checks before it passed. -/
theorem calStartRefused : Obligations.CalStartRefused := by
  unfold Obligations.CalStartRefused
  refine ⟨fun p link tag m lb h l hp su o s hruns st hst => exec_refused rfl hruns (calStart_refused hst),
    fun p link tag m lb h l hp su o s hruns hr hm hmodes hs cap hcap st hst => exec_refused rfl hruns ?_⟩
  have hinv : ∃ i, Involved m s i := by
    simpa only [not_forall, not_not] using mt configuredPart_eq_zero_iff.mpr hm
  have hcapmin : capMin s.table.entries (m &&& configuredMask s) = cap := by
    rcases hcap with ⟨rfl, hnone⟩ | ⟨⟨i, hi, hc, hcov⟩, hle⟩
    · exact capMin_uncapped fun i hi => (maskHas_configured_iff.mp hi).elim (hnone i)
    · exact capMin_eq ⟨i, maskHas_configured_iff.mpr ⟨hi, hc⟩, hcov⟩ fun j hj => (maskHas_configured_iff.mp hj).elim (hle j)
  refine calStart_running_refused hr hinv (fun i hi => hmodes i hi.1 hi.2) hs ?_
  rw [hcapmin]
  rcases hst with ⟨rfl, ho⟩ | ⟨rfl, ho, hb⟩ | ⟨rfl, ho, hb, hsw⟩ | ⟨rfl, ho, hb, hsw, he⟩
  · exact .inl ⟨rfl, ho⟩
  · exact .inr ⟨ho, fun _ => levelCheck_failed (.inl ⟨rfl, hb⟩)⟩
  · exact .inr ⟨ho, fun _ => levelCheck_failed (.inr (.inl ⟨rfl, hb, hsw⟩))⟩
  · exact .inr ⟨ho, fun _ => levelCheck_failed (.inr (.inr ⟨rfl, hb, hsw, he⟩))⟩

end Sys2Proof.Proofs
end

section
/-! PROOFS. The arithmetic of a run: the coefficient of a pair, the dark offset, and the six candidates that a commit keeps
(R140, R143, R145). -/

namespace Sys2Proof.Proofs

open Sys2Proof Sys2Proof.Machine Sys2Proof.Safety Sys2Proof.Laws

/-! ## The coefficient and the dark offset (R140, R143) -/

section
variable {q : CalParams} {a : CalSensor}

theorem coefficient_unmeasured (h : a.highCount = 0 ∨ a.lowCount = 0) : coefficient q a = none :=
  if_pos (by simpa using h)

theorem coefficient_measured (hh : a.highCount ≠ 0) (hl : a.lowCount ≠ 0) : coefficient q a = some
    (if a.highSum * a.lowCount < a.lowSum * a.highCount then 0
    else min 4095 (roundHalfUp ((a.highSum * a.lowCount - a.lowSum * a.highCount) * 1000)
      (a.highCount * a.lowCount * (q.highEff - q.low)))) := by
  rw [coefficient, if_neg (by simp [hh, hl])]
  generalize a.highSum * a.lowCount = high
  generalize a.lowSum * a.highCount = low
  dsimp only
  by_cases hneg : high < low
  · rw [if_pos hneg, if_pos (by omega)]
  · have hnum : (((high : Int) - low) * 1000).toNat = (high - low) * 1000 := by omega
    rw [if_neg hneg, if_neg (by omega), hnum]

/-- A numerator of 0 rounds to 0, whatever it is divided by. -/
theorem roundHalfUp_zero (d : Nat) : roundHalfUp 0 d = 0 := by
  rcases Nat.eq_zero_or_pos d with rfl | hd
  · rfl
  · exact Nat.div_eq_of_lt (by omega)

/-- Light that does not exceed the light at the low level couples to 0. -/
theorem coefficient_of_le (hh : a.highCount ≠ 0) (hl : a.lowCount ≠ 0)
    (h : a.highSum * a.lowCount ≤ a.lowSum * a.highCount) : coefficient q a = some 0 := by
  rw [coefficient_measured hh hl]
  split
  · rfl
  · rw [Nat.sub_eq_zero_of_le h, Nat.zero_mul, roundHalfUp_zero, Nat.min_zero]

theorem darkOffset_untaken (h : a.darkCount = 0) : darkOffset a = .rejected := if_pos h

theorem darkOffset_taken (h : a.darkCount ≠ 0) : darkOffset a =
    if roundHalfUp a.darkSum a.darkCount ≤ 255 then .measured (roundHalfUp a.darkSum a.darkCount) else .rejected := by
  rw [darkOffset, if_neg h]
  simp only [← Nat.not_le, ite_not]

end

/-! ## The candidates of a sensor's new list (R145) -/

section
variable {r : CalRun} {a : CalSensor} {old : List Coupling}

/-- A group has a candidate exactly where it is measured with 2 or more, or it brings its old entry in. -/
theorem candidate_iff {g : GroupId} {c : Nat} : candidate r a old g = some ⟨g, c⟩ ↔
    (r.groups.contains g = true ∧ measuredOf a g = some c ∧ 2 ≤ c) ∨
      ((r.groups.contains g = false ∨ measuredOf a g = none) ∧ coeffIn old g = some c) := by
  unfold candidate
  cases r.groups.contains g <;> cases measuredOf a g
  case true.some m =>
    have hkeep : (if 2 ≤ m then some (⟨g, m⟩ : Coupling) else none) = some ⟨g, c⟩ ↔ m = c ∧ 2 ≤ c := by
      rw [Option.ite_none_right_eq_some, Option.some.injEq, Coupling.mk.injEq, eq_self, true_and]
      exact ⟨fun ⟨h2, h⟩ => ⟨h, h ▸ h2⟩, fun ⟨h, h2⟩ => ⟨h ▸ h2, h⟩⟩
    simpa using hkeep
  all_goals simp

/-- The candidates of all groups, in ascending group order. -/
def candidates (r : CalRun) (a : CalSensor) (old : List Coupling) : List Coupling :=
  (List.finRange 48).filterMap (candidate r a old)

theorem newList_eq : newList r a old = topSix (candidates r a old) := rfl

theorem mem_candidates {e : Coupling} : e ∈ candidates r a old ↔ candidate r a old e.group = some e := by
  rw [candidates, List.mem_filterMap]
  refine ⟨fun ⟨g, _, hg⟩ => ?_, fun h => ⟨e.group, List.mem_finRange _, h⟩⟩
  rwa [(candidate_cases hg).1]

theorem pairwise_candidates : (candidates r a old).Pairwise fun x y => x.group < y.group :=
  pairwise_filterMap_group fun _ _ he => (candidate_cases he).1

theorem nodup_candidates : (candidates r a old).Nodup :=
  pairwise_candidates.imp fun hlt he => absurd hlt (by rw [he]; exact lt_irrefl _)

end

/-! ## The six that are kept (R145) -/

section
variable {l : List Coupling}

theorem mem_topSix {c : Coupling} : c ∈ topSix l ↔ c ∈ l ∧ rank l c < 6 := by
  rw [topSix_eq, List.mem_filter, decide_eq_true_eq]

/-- No entry goes before itself, so a rank is below the length. -/
theorem rank_lt_length {c : Coupling} (hc : c ∈ l) : rank l c < l.length :=
  List.length_filter_lt_length_iff_exists.mpr ⟨c, hc, before_irrefl c⟩

theorem rank_inj (hl : l.Nodup) {x y : Coupling} (hx : x ∈ l) (hy : y ∈ l) (h : rank l x = rank l y) : x = y := by
  by_contra hne
  rcases before_total hne with hb | hb
  · exact absurd h (rank_lt hl hx hb).ne
  · exact absurd h (rank_lt hl hy hb).ne'

/-- The ranks are the numbers below the length, each taken once. -/
theorem ranks_perm (hl : l.Nodup) : (l.map (rank l)).Perm (List.range l.length) := by
  have hnodup : (l.map (rank l)).Nodup := hl.map_on fun x hx y hy h => rank_inj hl hx hy h
  refine (List.subperm_of_subset hnodup fun n hn => ?_).perm_of_length_le (by simp)
  obtain ⟨c, hc, rfl⟩ := List.mem_map.mp hn
  exact List.mem_range.mpr (rank_lt_length hc)

/-- An entry left out ranks sixth or later, so the ranks 0 to 5 are all taken. -/
theorem length_topSix_of_left {e : Coupling} (hl : l.Nodup) (he : e ∈ l) (hleft : e ∉ topSix l) : (topSix l).length = 6 := by
  have hrank : 6 ≤ rank l e := not_lt.mp fun hlt => hleft (mem_topSix.mpr ⟨he, hlt⟩)
  have hsix : List.range 6 ⊆ (topSix l).map (rank l) := fun n hn => by
    have hn := List.mem_range.mp hn
    have hlen := rank_lt_length he
    obtain ⟨c, hc, rfl⟩ := List.mem_map.mp ((ranks_perm hl).mem_iff.mpr (List.mem_range.mpr (by omega : n < l.length)))
    exact List.mem_map.mpr ⟨c, mem_topSix.mpr ⟨hc, hn⟩, rfl⟩
  have hge := (List.subperm_of_subset List.nodup_range hsix).length_le
  rw [List.length_range, List.length_map] at hge
  exact Nat.le_antisymm (length_topSix hl) hge

/-- Every entry kept goes before every entry left out. -/
theorem before_of_left {e x : Coupling} (hl : l.Nodup) (he : e ∈ l) (hleft : e ∉ topSix l) (hx : x ∈ topSix l) :
    before x e = true := by
  obtain ⟨hxl, hxrank⟩ := mem_topSix.mp hx
  have hrank : 6 ≤ rank l e := not_lt.mp fun hlt => hleft (mem_topSix.mpr ⟨he, hlt⟩)
  have hne : x ≠ e := fun h => hleft (h ▸ hx)
  refine (before_total hne).resolve_right fun hb => ?_
  have hlt := rank_lt hl he hb
  omega

end

/-- Settles O59: the quotients as the model computes them, and the new list as the six candidates that go first. -/
theorem calArithmetic : Obligations.CalArithmetic := by
  unfold Obligations.CalArithmetic
  refine ⟨⟨fun q a => ⟨coefficient_unmeasured, fun hh hl _ => ⟨coefficient_of_le hh hl, fun hlt => ?_⟩⟩,
    fun a => ⟨darkOffset_untaken, darkOffset_taken⟩⟩, fun r a old => ?_⟩
  · rw [coefficient_measured hh hl, if_neg hlt.not_gt, roundHalfUp]
  · intro isCandidate
    rw [newList_eq]
    have hmem {e : Coupling} := (mem_candidates (e := e)).trans (candidate_iff (r := r) (a := a) (old := old))
    refine ⟨length_topSix nodup_candidates, pairwise_candidates.filter _, fun e he => hmem.mp (mem_topSix.mp he).1,
      fun e he hleft => ?_⟩
    have he : e ∈ candidates r a old := hmem.mpr he
    refine ⟨length_topSix_of_left nodup_candidates he hleft, fun x hx => ?_⟩
    exact (before_iff.mp (before_of_left nodup_candidates he hleft hx)).imp_right fun ⟨h, hg⟩ => ⟨h.symm, hg⟩

end Sys2Proof.Proofs
end

section
/-! PROOFS. The law of the ports (R155, R170, R172): what a port does to its own record, which changes of the other blocks reach
the ports by raised causes and offered events alone, and every step. -/

namespace Sys2Proof.Proofs

open Sys2Proof Sys2Proof.Machine Sys2Proof.Safety Sys2Proof.Laws

/-! ## One port -/

section
variable {p : Port}

/-- Causes joined to a port's cause set, SEG_EVENT not among them. -/
theorem portLaw_or (h : PortLaw p) {m : BitVec 16} (hm : m &&& causeMask .segEvent = 0) :
    PortLaw { p with raised := p.raised ||| m } := by
  obtain ⟨hslots, hraised, henables, hevents⟩ := h
  refine ⟨hslots, ?_, henables, hevents⟩
  rw [BitVec.and_or_distrib_right, hraised, hm]
  rfl

theorem portLaw_raiseAt (h : PortLaw p) {c : Cause} (hc : causeMask c &&& causeMask .segEvent = 0) : PortLaw (raiseAt c p) := by
  unfold raiseAt
  split
  · exact h
  · exact portLaw_or h hc

theorem portLaw_dropCauses (h : PortLaw p) (m : BitVec 16) : PortLaw (dropCauses m p) := by
  obtain ⟨hslots, hraised, henables, hevents⟩ := h
  refine ⟨hslots, ?_, henables, hevents⟩
  have hdrop : (p.raised &&& ~~~m) &&& causeMask .segEvent = (p.raised &&& causeMask .segEvent) &&& ~~~m := by ac_rfl
  rw [dropCauses, hdrop, hraised]
  exact BitVec.zero_and

/-- An event is recorded for a segment of the mask alone (R170). -/
theorem portLaw_offerAt (h : PortLaw p) (i : SegId) (e : SegEvent) : PortLaw (offerAt i e p) := by
  obtain ⟨hslots, hraised, henables, hevents⟩ := h
  have hmask : (offerAt i e p).segMask = p.segMask := by rw [offerAt_eq]
  refine ⟨by rw [offerAt_eq]; exact hslots, by rw [offerAt_eq]; exact hraised, by rw [offerAt_eq]; exact henables, fun j hj => ?_⟩
  rw [offerAt_events] at hj
  rw [hmask]
  split at hj
  · next hin =>
    obtain ⟨rfl, _, hin⟩ := hin
    exact hin
  · exact hevents j hj

/-- Event sets emptied. -/
theorem portLaw_emptied (h : PortLaw p) {v : Vector (BitVec 8) 16} (hv : ∀ i : SegId, v[i] ≠ 0 → p.events[i] ≠ 0) :
    PortLaw { p with events := v } := by
  obtain ⟨hslots, hraised, henables, hevents⟩ := h
  exact ⟨hslots, hraised, henables, fun i hi => hevents i (hv i hi)⟩

theorem portLaw_clearEventsAt (h : PortLaw p) (i : SegId) : PortLaw (clearEventsAt i p) :=
  portLaw_emptied h fun j hj => by
    rw [set_get] at hj
    split at hj
    · exact absurd rfl hj
    · exact hj

theorem portLaw_emptyReturned (h : PortLaw p) : PortLaw (emptyReturned p) :=
  portLaw_emptied h fun j hj => by
    rw [ofFn_get] at hj
    split at hj
    · exact absurd rfl hj
    · exact hj

/-- The event sets of the segments taken out of the mask empty (R172). -/
theorem portLaw_writeEnables (h : PortLaw p) (en : BitVec 16) (m : SegMask) : PortLaw (writeEnables en m p) := by
  obtain ⟨hslots, hraised, henables, hevents⟩ := h
  refine ⟨hslots, hraised, by rw [writeEnables, BitVec.and_assoc, BitVec.and_self], fun i hi => ?_⟩
  simp only [writeEnables] at hi ⊢
  rw [ofFn_get, maskHas_minus] at hi
  split at hi
  · exact absurd rfl hi
  · next hin => simpa [hevents i hi] using hin

/-- A reply takes the place of the request (R161). -/
theorem portLaw_placeReplyAt (h : PortLaw p) (k : Kind) (tag : Byte) (st : Status) (l : List Byte) :
    PortLaw (placeReplyAt k tag st l p) := by
  obtain ⟨_, hraised, henables, hevents⟩ := h
  unfold placeReplyAt
  refine portLaw_raiseAt ?_ (by decide)
  exact ⟨.inl rfl, hraised, henables, hevents⟩

theorem portLaw_assertSelect (h : PortLaw p) : PortLaw (assertSelect p) := by
  unfold assertSelect
  split <;> exact h

theorem portLaw_judgeReply (h : PortLaw p) (carries : Bool) (n : Nat) : PortLaw (judgeReply carries n p) := by
  unfold judgeReply
  split
  · exact h
  · split
    · exact h
    · split
      · obtain ⟨_, hraised, henables, hevents⟩ := h
        refine portLaw_dropCauses ?_ _
        exact ⟨.inr rfl, hraised, henables, hevents⟩
      · exact h

theorem portFree_iff : portFree p = true ↔ p.request = none ∧ p.reply = none := by
  simp [portFree]

/-- A request and a BAD_FRAME reply enter a free port alone (R159, R160). -/
theorem portLaw_judgeReceived (h : PortLaw p) (l : List Byte) : PortLaw (judgeReceived l p) := by
  have ⟨_, hraised, henables, hevents⟩ := h
  unfold judgeReceived
  split
  · exact h
  · split
    · split
      · next hfree => exact ⟨.inr (portFree_iff.mp hfree).2, hraised, henables, hevents⟩
      · exact portLaw_raiseAt h (by decide)
    · have hframe : PortLaw (raiseAt .frameError p) := portLaw_raiseAt h (by decide)
      dsimp only
      split
      · next hfree =>
        obtain ⟨_, hraised, henables, hevents⟩ := hframe
        refine portLaw_raiseAt ?_ (by decide)
        exact ⟨.inl (portFree_iff.mp hfree).1, hraised, henables, hevents⟩
      · exact portLaw_raiseAt hframe (by decide)

theorem portLaw_releaseSelect (h : PortLaw p) (x : Clocked) : PortLaw (releaseSelect x p) := by
  unfold releaseSelect
  split
  · exact h
  · split
    · exact h
    · dsimp only
      split
      · exact h
      · exact portLaw_judgeReceived (portLaw_judgeReply (p := { p with period := none }) h _ _) _

/-- After a restart the port's slots and event sets are empty, but for a reply kept (R14). -/
theorem portLaw_restartPort (h : PortLaw p) (keepsReply : Bool) : PortLaw (restartPort keepsReply p) := by
  unfold restartPort
  split
  · exact h
  · obtain ⟨_, _, henables, _⟩ := h
    have hraised : causeMask .restarted &&& causeMask .segEvent = 0 := by decide
    exact ⟨.inl rfl, hraised, henables, fun i hi => absurd (by simp) hi⟩

end

theorem portLaw_initial (strap role : Role) : PortLaw (Port.initial strap role) := by
  have hraised : (if role = .off then 0 else 1) &&& causeMask .segEvent = 0 := by cases role <;> decide
  exact ⟨.inl rfl, hraised, BitVec.zero_and, fun i hi => absurd (by simp [Port.initial]) hi⟩

/-! ## All ports -/

section
variable {s : State}

theorem portsLaw_updAt (h : PortsLaw s) (p : PortId) {f : Port → Port} (hf : ∀ {q : Port}, PortLaw q → PortLaw (f q)) :
    PortsLaw (s.setPorts (updAt s.ports p f)) := fun q => by
  rw [setPorts_ports, updAt_get]
  split
  · exact hf (h q)
  · exact h q

theorem portsLaw_placeReply (h : PortsLaw s) (p : PortId) (r : Request) (st : Status) (l : List Byte) :
    PortsLaw (placeReply p r st l s) := portsLaw_updAt h p fun hq => portLaw_placeReplyAt hq _ _ _ _

theorem portsLaw_raiseEvent (h : PortsLaw s) (i : SegId) (e : SegEvent) : PortsLaw (raiseEvent i e s) := fun q => by
  rw [raiseEvent_ports, offerEvent_get]
  exact portLaw_offerAt (h q) i e

theorem portsLaw_raiseRole (h : PortsLaw s) (r : Role) {c : Cause} (hc : causeMask c &&& causeMask .segEvent = 0) :
    PortsLaw (s.setPorts (raiseRole r c s.ports)) := fun q => by
  rw [setPorts_ports, raiseRole_get]
  split
  · exact portLaw_raiseAt (h q) hc
  · exact h q

theorem portsLaw_raiseLinkChange (h : PortsLaw s) : PortsLaw (raiseLinkChange s) := fun q => by
  rw [raiseLinkChange_ports, raiseAll_get]
  exact portLaw_raiseAt (h q) (by decide)

theorem portsLaw_foldl {α : Type} {f : State → α → State} (hf : ∀ u a, PortsLaw u → PortsLaw (f u a))
    (l : List α) (h : PortsLaw s) : PortsLaw (l.foldl f s) := List.foldlRecOn _ _ h fun u hu a _ => hf u a hu

/-! ## Modes, the end of a run, table changes -/

theorem portsLaw_changeMode (h : PortsLaw s) (i : SegId) (m : Mode) : PortsLaw (changeMode i m s) := by
  unfold changeMode
  split
  · exact h
  · exact portsLaw_raiseEvent (s := updCtrl i _ s) h i .modeChange

theorem portsLaw_remode (c : State → SegId → Bool) (m : State → SegId → Mode) (s : State) (i : SegId) (h : PortsLaw s) :
    PortsLaw (remode c m s i) := by
  unfold remode
  split
  · exact portsLaw_changeMode h i _
  · exact h

theorem portsLaw_endRun (h : PortsLaw s) (r : CalRun) (res : CalResult) : PortsLaw (endRun r res s) := by
  unfold endRun
  rw [leaveCalibrating_eq_remode]
  refine portsLaw_raiseRole ?_ .floor (by decide)
  exact portsLaw_foldl (portsLaw_remode _ _) _ (s := s.setCal _) h

theorem portsLaw_abortRun (h : PortsLaw s) (why : AbortReason) : PortsLaw (abortRun why s) := by
  unfold abortRun
  split
  · exact h
  · exact portsLaw_endRun h _ _

theorem portsLaw_tableChange (h : PortsLaw s) (entries : List Entry) (inserted : Option Entry) (informed : SegMask) :
    PortsLaw (tableChange entries inserted informed s) := by
  obtain ⟨u, he, hu⟩ := tableChange_cases entries inserted informed s
  rw [he, informSegment_eq_remode]
  refine portsLaw_foldl (portsLaw_remode _ _) _ ?_
  rcases hu with ⟨rfl, _⟩ | ⟨r, res, _, rfl⟩
  · exact h
  · exact portsLaw_endRun (s := setEntries entries s) h r res

theorem TableRequested.portsLaw {t : State} (ht : TableRequested s t) (h : PortsLaw s) : PortsLaw t := by
  rcases ht with rfl | ⟨entries, inserted, informed, rfl⟩
  · exact h
  · exact portsLaw_tableChange h entries inserted informed

/-- The causes of expiries are raised, and then the table changes (R79). -/
theorem portsLaw_departDue (h : PortsLaw s) : PortsLaw (departDue s) := by
  refine portsLaw_tableChange (s := s.setPorts _) (fun q => ?_) _ _ _
  rw [setPorts_ports, foldl_raiseExpiry_get]
  refine portLaw_or (h q) ?_
  split
  · cases s.ports[q].role <;> decide
  · exact BitVec.zero_and

/-! ## Passes and thresholds -/

theorem portsLaw_setGlare (h : PortsLaw s) (i : SegId) (on : Bool) : PortsLaw (setGlare i on s) := by
  unfold setGlare glareEvent
  split
  · exact h
  · exact portsLaw_raiseEvent (s := updCtrl i _ s) h i _

theorem portsLaw_passMode (h : PortsLaw s) (i : SegId) (data : Bool) : PortsLaw (passMode i data s) := by
  have hmode : ∀ m, PortsLaw (changeMode i m (updCtrl i (countPass data) s)) := fun m =>
    portsLaw_changeMode (s := updCtrl i _ s) h i m
  unfold passMode
  dsimp only
  split
  · exact portsLaw_raiseEvent (hmode _) i .sensorLost
  · exact hmode _

theorem portsLaw_passDaylight (h : PortsLaw s) (i : SegId) (raw : Option Nat) : PortsLaw (passDaylight i raw s) := by
  unfold passDaylight passRaw
  split
  · exact h
  · cases raw with
    | none => exact h
    | some d => exact portsLaw_setGlare (s := updCtrl i _ s) h i _

theorem portsLaw_passSegment (h : PortsLaw s) (i : SegId) : PortsLaw (passSegment i s) := by
  have hports : (passSegment i s).ports = (passDaylight i (rawDaylight s i) (passMode i (passData i s) s)).ports :=
    passControl_ports ..
  intro q
  rw [hports]
  exact portsLaw_passDaylight (portsLaw_passMode h i _) i _ q

theorem portsLaw_glareSet (h : PortsLaw s) (m : SegMask) (n : Nat) : PortsLaw (glareSet m n s).state := by
  have hwrite : ∀ u i, PortsLaw u → PortsLaw (writeThreshold (min n 20000) u i) := fun u i hu => by
    unfold writeThreshold
    dsimp only
    split
    · exact portsLaw_setGlare (s := updSeg i _ u) hu i false
    · exact hu
  unfold glareSet
  dsimp only
  split
  · exact h
  · exact portsLaw_foldl hwrite _ h

/-! ## Layout -/

theorem portsLaw_segDefine (h : PortsLaw s) (n b p q : Nat) : PortsLaw (segDefine n b p q s).state := by
  have hdefine : ∀ i cfg, PortsLaw (defineSegment i cfg s) := fun i cfg => portsLaw_raiseEvent
    (s := updCtrl i (fun _ => definedCtrl cfg) ((updSeg i (fun _ => cfg) s).setSensors
      (reassign s.layout (updSeg i (fun _ => cfg) s).layout s.sensors))) h i .modeChange
  unfold segDefine
  split
  · exact h
  · split
    · split
      · exact h
      · exact hdefine _ _
    · exact h

/-- The event sets of the removed segment are cleared behind its MODE_CHANGE (R8). -/
theorem portsLaw_segRemove (h : PortsLaw s) (n : Nat) : PortsLaw (segRemove n s).state := by
  have hremove : ∀ i, PortsLaw (removeSegment i s) := fun i q => by
    rw [removeSegment_ports]
    refine portLaw_clearEventsAt ?_ i
    rw [removedInformed, informSegment_eq_remode]
    have huninformed : PortsLaw (removedUninformed i s) := portsLaw_raiseEvent (s := updCtrl i (fun _ => Ctrl.blank)
      ((updSeg i removedConfig s).setLum (dropGroups (ownsGroup i) s.lum))) h i .modeChange
    exact portsLaw_foldl (portsLaw_remode _ _) _ huninformed q
  unfold segRemove
  repeat' split
  case h_2.isFalse.isFalse => exact hremove _
  all_goals exact h

/-! ## Requests that reach no port but by their reply -/

theorem portsLaw_segTune (h : PortsLaw s) (n : Nat) (x : Tuning) : PortsLaw (segTune n x s).state := by
  unfold segTune
  repeat' split
  all_goals exact h

theorem portsLaw_bandSet (h : PortsLaw s) (n b : Nat) (q : BandConfig) : PortsLaw (bandSet n b q s).state := by
  unfold bandSet
  repeat' split
  all_goals exact h

theorem portsLaw_couplingWrite (h : PortsLaw s) (k d n : Nat) (ps : List (Nat × Nat)) :
    PortsLaw (couplingWrite k d n ps s).state := by
  unfold couplingWrite
  dsimp only
  repeat' split
  all_goals exact h

theorem portsLaw_energyClear (h : PortsLaw s) (m : SegMask) : PortsLaw (energyClear m s).state := by
  unfold energyClear
  dsimp only
  split <;> exact h

theorem portsLaw_groupClearFail (h : PortsLaw s) (g : Nat) : PortsLaw (groupClearFail g s).state := by
  unfold groupClearFail
  repeat' split
  all_goals exact h

theorem portsLaw_powerSet (h : PortsLaw s) (g w : Nat) : PortsLaw (powerSet g w s).state := by
  unfold powerSet
  repeat' split
  all_goals exact h

theorem portsLaw_queryDriver (h : PortsLaw s) (p : PortId) (g i : Nat) : PortsLaw (queryDriver p g i s).state := by
  unfold queryDriver
  repeat' split
  all_goals exact h

/-! ## Calibration -/

theorem ports_testFadeWait (s : State) : (testFadeWait s).ports = s.ports := by
  unfold testFadeWait
  repeat' split
  all_goals rfl

theorem portsLaw_testFadeWait (h : PortsLaw s) : PortsLaw (testFadeWait s) := fun q => by
  rw [ports_testFadeWait]
  exact h q

theorem portsLaw_calStart (h : PortsLaw s) (mask : SegMask) (base high low half su opt : Nat) :
    PortsLaw (calStart mask base high low half su opt s).state := by
  have hbegin : ∀ m q clamped, PortsLaw (beginRun m q clamped s) := fun m q clamped => by
    unfold beginRun
    rw [enterCalibrating_eq_remode]
    exact portsLaw_testFadeWait (portsLaw_foldl (portsLaw_remode _ _) _ (s := s.setCal _) h)
  unfold calStart
  dsimp only
  repeat' split
  all_goals first | exact h | exact hbegin _ _ _

theorem portsLaw_enterPhase (h : PortsLaw s) (f : Phase) (probe cycle : Nat) (r : CalRun) :
    PortsLaw (enterPhase f probe cycle r s) := by
  unfold enterPhase
  dsimp only
  have hrun : ∀ x, PortsLaw (setRun x s) := fun _ => h
  exact portsLaw_testFadeWait (portsLaw_foldl (f := fun u i => recompose i u) (fun _ _ hu => hu) _ (hrun _))

theorem portsLaw_commit (h : PortsLaw s) (r : CalRun) : PortsLaw (commit r s) := by
  have hwritten : ∀ x, PortsLaw (s.setCoupling x) := fun _ => h
  unfold commit
  exact portsLaw_endRun (hwritten _) r _

theorem portsLaw_nextPhase (h : PortsLaw s) (r : CalRun) : PortsLaw (nextPhase r s) := by
  unfold nextPhase
  dsimp only
  repeat' split
  all_goals first | exact portsLaw_enterPhase h _ _ _ _ | exact portsLaw_commit h _

theorem portsLaw_calStageTimerExpiry (h : PortsLaw s) : PortsLaw (calStageTimerExpiry s) := by
  unfold calStageTimerExpiry
  split
  · exact h
  · split
    · unfold stageExpiry
      split
      · exact h
      · exact h
      · exact portsLaw_nextPhase h _
      · exact portsLaw_nextPhase h _
    · exact h

theorem portsLaw_fadeStep (h : PortsLaw s) (g : GroupId) : PortsLaw (fadeStep g s) := by
  unfold fadeStep
  dsimp only
  split
  · exact portsLaw_testFadeWait (s := s.setLum _) h
  · exact h

theorem portsLaw_judgePoll (h : PortsLaw s) (f : SensorId → ReplyOutcome) : PortsLaw (judgePoll f s) := by
  unfold judgePoll
  dsimp only
  repeat' split
  all_goals exact h

/-! ## The luminaire link -/

theorem portsLaw_freeLink (h : PortsLaw s) : PortsLaw (freeLink s) := by
  unfold freeLink
  dsimp only
  split
  · exact portsLaw_raiseLinkChange (s := setLink _ s) h
  · exact h

theorem portsLaw_setLevelDone (h : PortsLaw s) : PortsLaw (setLevelDone s) := by
  unfold setLevelDone
  split
  · exact portsLaw_freeLink (s := s.setLum _) h
  · exact h

theorem portsLaw_applyOutcomeToGroup (h : PortsLaw s) (o : QueryOutcome) : PortsLaw (applyOutcomeToGroup o s) := by
  unfold applyOutcomeToGroup handAnswer
  dsimp only
  repeat' split
  case h_2.isTrue => exact portsLaw_raiseEvent (s := s.setLum _) h _ _
  all_goals exact h

/-- The port that asked is told of the end of its query (R120). -/
theorem portsLaw_endQuery (h : PortsLaw s) (o : QueryOutcome) : PortsLaw (endQuery o s) :=
  portsLaw_updAt (s := setLink _ s) h _ fun hq => portLaw_raiseAt hq (by decide)

theorem portsLaw_windowEnd (h : PortsLaw s) (a : Answer) : PortsLaw (windowEnd a s) := by
  unfold windowEnd
  split
  · dsimp only
    refine portsLaw_freeLink (s := setLink _ _) ?_
    split
    · exact portsLaw_endQuery (portsLaw_applyOutcomeToGroup h _) _
    · exact h
  · exact h

theorem portsLaw_linkPause (h : PortsLaw s) : PortsLaw (linkPause s).state := by
  unfold linkPause
  split
  · exact h
  · split
    · exact h
    · exact h
    · exact h
    · exact portsLaw_freeLink (s := setLink _ s) h

theorem portsLaw_linkResume (h : PortsLaw s) : PortsLaw (linkResume s).state := by
  unfold linkResume
  split
  · exact h
  · exact h
  · exact h
  · exact portsLaw_raiseLinkChange (s := s.setLum _) h

theorem portsLaw_busFault (h : PortsLaw s) : PortsLaw (busFault s) := by
  cases hf : s.lum.link.faultReported with
  | true => rw [busFault, if_pos hf]; exact h
  | false =>
    have hdown : PortsLaw (raiseLinkChange (setLink (linkDown s.lum.link) s)) := portsLaw_raiseLinkChange (s := setLink _ s) h
    rw [busFault_eq hf]
    refine portsLaw_abortRun ?_ .link
    unfold faulted
    dsimp only
    split
    · exact hdown
    · exact portsLaw_endQuery hdown .noLink

/-! ## The resets -/

theorem portsLaw_powerOn (a b c : StrapPins) (s : State) : PortsLaw (powerOn a b c s) := fun q => by
  rw [powerOn_port]
  exact portLaw_initial _ _

theorem portsLaw_restart (h : PortsLaw s) (p : PortId) : PortsLaw (restart p s) := by
  unfold restart
  split
  · exact h
  · exact portsLaw_placeReply h _ _ _ _
  · exact portsLaw_placeReply h _ _ _ _
  · intro q
    have hport : ∀ u : State, (warmRestart p u).ports[q] = restartPort (q == p) u.ports[q] := fun u => ofFn_get _ q
    rw [hport]
    exact portLaw_restartPort (portsLaw_placeReply h _ _ _ _ q) _

/-! ## Every step -/

/-- A request keeps the law of the ports where its owning block does: the reply takes the request's place. -/
theorem portsLaw_serve (h : PortsLaw s) {p : PortId} {k : Kind} {owner : Body → State → Response}
    (ho : ∀ b, PortsLaw (owner b s).state) : PortsLaw (serve p k owner s) := by
  rcases serve_cases p k owner s with ⟨e, _⟩ | ⟨r, _, _, _, ⟨_, _, e⟩ | ⟨_, _, e⟩ | ⟨_, e⟩⟩ <;> rw [e]
  · exact h
  · exact portsLaw_placeReply h _ _ _ _
  · exact portsLaw_placeReply h _ _ _ _
  · exact portsLaw_placeReply (ho r.body) _ _ _ _

end

/-- Every command keeps the law of the ports. -/
theorem portsLaw_exec {c : Instr} {s t : State} (h : PortsLaw s) (he : exec c s = .next t) : PortsLaw t := by
  have hserve := @portsLaw_serve s h
  cases c
  all_goals injection he with he; subst he
  case powerOnReset => exact portsLaw_powerOn _ _ _ s
  case selectAssert => exact portsLaw_updAt h _ portLaw_assertSelect
  case selectRelease => exact portsLaw_updAt h _ fun hq => portLaw_releaseSelect hq _
  case nop | ident | causesRead | queryResult | calResultRead | layoutLock => exact hserve fun _ => h
  case causesClear =>
    refine hserve fun b => ?_; split; exacts [portsLaw_updAt h _ fun hq => portLaw_dropCauses hq _, h]
  case enablesWrite =>
    refine hserve fun b => ?_; split; exacts [portsLaw_updAt h _ fun hq => portLaw_writeEnables hq _ _, h]
  case eventsRead => exact hserve fun _ => portsLaw_updAt h _ portLaw_emptyReturned
  case segRead => refine hserve fun b => ?_; split; exacts [by unfold segRead; split <;> exact h, h]
  case sensorRead => refine hserve fun b => ?_; split; exacts [by unfold sensorRead; split <;> exact h, h]
  case tableRead => refine hserve fun b => ?_; split; exacts [by unfold tableRead; split <;> exact h, h]
  case couplingRead => refine hserve fun b => ?_; split; exacts [by unfold couplingRead; split <;> exact h, h]
  case energyRead => refine hserve fun b => ?_; split; exacts [by unfold energyRead; split <;> exact h, h]
  case segDefine => refine hserve fun b => ?_; split; exacts [portsLaw_segDefine h _ _ _ _, h]
  case segRemove => refine hserve fun b => ?_; split; exacts [portsLaw_segRemove h _, h]
  case segTune => refine hserve fun b => ?_; split; exacts [portsLaw_segTune h _ _, h]
  case bandSet => refine hserve fun b => ?_; split; exacts [portsLaw_bandSet h _ _ _, h]
  case couplingWrite => refine hserve fun b => ?_; split; exacts [portsLaw_couplingWrite h _ _ _ _, h]
  case overrideSet => refine hserve fun b => ?_; split; exacts [(tableRequested_overrideSet s _ _ _).portsLaw h, h]
  case overrideCancel => refine hserve fun b => ?_; split; exacts [(tableRequested_overrideCancel s _).portsLaw h, h]
  case lockSet => refine hserve fun b => ?_; split; exacts [(tableRequested_lockSet s _ _).portsLaw h, h]
  case lockRelease => refine hserve fun b => ?_; split; exacts [(tableRequested_lockRelease s _).portsLaw h, h]
  case holdSet => refine hserve fun b => ?_; split; exacts [(tableRequested_holdSet s _ _).portsLaw h, h]
  case holdSettled => refine hserve fun b => ?_; split; exacts [(tableRequested_holdSettled s _).portsLaw h, h]
  case settleSet => refine hserve fun b => ?_; split <;> exact h
  case capSet => refine hserve fun b => ?_; split; exacts [(tableRequested_capSet s _ _ _ _).portsLaw h, h]
  case capCancel => refine hserve fun b => ?_; split; exacts [(tableRequested_capCancel s _).portsLaw h, h]
  case calStart => refine hserve fun b => ?_; split; exacts [portsLaw_calStart h _ _ _ _ _ _ _, h]
  case calAbort => exact hserve fun _ => portsLaw_abortRun h _
  case linkPause => exact hserve fun _ => portsLaw_linkPause h
  case linkResume => exact hserve fun _ => portsLaw_linkResume h
  case groupClearFail => refine hserve fun b => ?_; split; exacts [portsLaw_groupClearFail h _, h]
  case powerSet => refine hserve fun b => ?_; split; exacts [portsLaw_powerSet h _ _, h]
  case energyClear => refine hserve fun b => ?_; split; exacts [portsLaw_energyClear h _, h]
  case glareSet => refine hserve fun b => ?_; split; exacts [portsLaw_glareSet h _ _, h]
  case queryDriver => refine hserve fun b => ?_; split; exacts [portsLaw_queryDriver h _ _ _, h]
  case restart => exact portsLaw_restart h _
  case roundTimerExpiry | turnaroundEnd | energyTick | queryFrameCompletion => exact h
  case sensorReply | replyWindowTimeout | interByteGap => exact portsLaw_judgePoll h _
  case pass => split; exacts [portsLaw_passSegment h _, h]
  case fadeStep => exact portsLaw_fadeStep h _
  case uptimeTick => exact portsLaw_departDue (s := s.setTable _) h
  case entryExpiry => exact portsLaw_departDue h
  case setLevelCompletion => exact portsLaw_setLevelDone h
  case answerWindowEnd => exact portsLaw_windowEnd h _
  case busFault => exact portsLaw_busFault h
  case busRestoration => split; exacts [portsLaw_raiseLinkChange (s := s.setLum _) h, h]
  case calStageTimerExpiry => exact portsLaw_calStageTimerExpiry h

/-- Settles O4: a frame enters a free port or takes the place of the one that stands there, and the other blocks reach the ports
by causes other than SEG_EVENT and by events for the segments of the mask. -/
theorem portsLawKept : Obligations.PortsLawKept := by
  unfold Obligations.PortsLawKept
  exact step_keeps (P := PortsLaw) (fun _ _ h => h) fun _ _ _ => portsLaw_exec

end Sys2Proof.Proofs
end

section
/-! PROOFS. Frames (R156, R159, R176 to R178): the check byte, the bytes of every payload and their reading, and a request read
back from its frame. -/

namespace Sys2Proof.Proofs

open Sys2Proof Sys2Proof.Machine Sys2Proof.Safety Sys2Proof.Laws

/-! ## The check byte (R156) -/

/-- A byte into the register that holds it clears the register. -/
theorem crcByte_self (c : Byte) : crcByte c c = 0 := by
  rw [crcByte, BitVec.xor_self]
  decide

/-- The CRC over bytes and their check byte. -/
theorem crc8_withCheck (l : List Byte) : crc8 (withCheck l) = 0 := by
  rw [withCheck, crc8_append, List.foldl_cons, List.foldl_nil, crcByte_self]

/-! ## Payloads -/

theorem beBytes_two (n : Nat) : beBytes 2 n = [BitVec.ofNat 8 (n / 256), BitVec.ofNat 8 n] := by
  simp [beBytes]

theorem payloadOf_couplingWrite (k d n : Nat) (ps : List (Nat × Nat)) : payloadOf (.couplingWrite k d n ps) =
    [BitVec.ofNat 8 k, BitVec.ofNat 8 d, BitVec.ofNat 8 n]
      ++ ps.flatMap fun q => [BitVec.ofNat 8 q.1, BitVec.ofNat 8 (q.2 / 256), BitVec.ofNat 8 q.2] := by
  simp only [payloadOf, beBytes_one, beBytes_two, List.cons_append, List.nil_append]

/-- A payload has the length of its kind, less kind code, tag and check byte (R177, R178). -/
theorem length_payloadOf {b : Body} (h : b.wellFormed = true) : (payloadOf b).length + 3 = requestLength (kindOf b) := by
  cases b
  case couplingWrite k d n ps =>
    simp only [Body.wellFormed, Bool.and_eq_true, beq_iff_eq] at h
    obtain ⟨⟨_, hps⟩, _⟩ := h
    simp [payloadOf, requestLength, kindOf, List.length_flatMap, hps]
  all_goals simp [payloadOf, requestLength, kindOf]

/-! ## Fields read back (R176, R178) -/

section
variable {n : Nat} (l : List Byte) (x y : Byte)

theorem byteAt_head (h : n < 256) : byteAt (BitVec.ofNat 8 n :: l) 0 = n := by
  simp [byteAt, Nat.mod_eq_of_lt h]

theorem byteAt_tail (i : Nat) : byteAt (x :: l) (i + 1) = byteAt l i := by simp [byteAt]

theorem wordAt_head (h : n < 65536) : wordAt (BitVec.ofNat 8 (n / 256) :: BitVec.ofNat 8 n :: l) 0 = n := by
  simp [wordAt, byteAt]
  omega

theorem wordAt_tail (i : Nat) : wordAt (x :: l) (i + 1) = wordAt l i := by simp only [wordAt, byteAt_tail]

theorem bitsAt_head (m : BitVec 16) :
    bitsAt (BitVec.ofNat 8 (m.toNat / 256) :: BitVec.ofNat 8 m.toNat :: l) 0 = m := by
  rw [bitsAt, wordAt_head l m.isLt, BitVec.ofNat_toNat, BitVec.setWidth_eq]

theorem bitsAt_tail (i : Nat) : bitsAt (x :: l) (i + 1) = bitsAt l i := by simp only [bitsAt, wordAt_tail]

end

/-- Six positions of a coupling list. -/
theorem six_positions {α : Type} {l : List α} (h : l.length = 6) : ∃ a b c d e f, l = [a, b, c, d, e, f] := by
  match l, h with
  | [a, b, c, d, e, f], _ => exact ⟨a, b, c, d, e, f, rfl⟩

/-- A payload is read back as the fields it spells. -/
theorem parseBody_payloadOf {b : Body} (h : b.wellFormed = true) : parseBody (kindOf b) (payloadOf b) = b := by
  cases b
  case couplingWrite k d n ps =>
    simp only [Body.wellFormed, fitsByte, fitsWord, Bool.and_eq_true, decide_eq_true_eq, beq_iff_eq] at h
    obtain ⟨⟨⟨⟨hk, hd⟩, hn⟩, hlength⟩, hps⟩ := h
    obtain ⟨p₀, p₁, p₂, p₃, p₄, p₅, rfl⟩ := six_positions hlength
    simp only [List.all_cons, List.all_nil, Bool.and_true, Bool.and_eq_true, decide_eq_true_eq] at hps
    rw [payloadOf_couplingWrite]
    simp only [kindOf, parseBody, List.flatMap_cons, List.flatMap_nil, List.cons_append, List.nil_append, byteAt_head,
      byteAt_tail, wordAt_head, wordAt_tail, hk, hd, hn, hps]
  all_goals
    simp only [Body.wellFormed, fitsByte, fitsWord, Bool.and_eq_true, decide_eq_true_eq] at h
    simp only [kindOf, parseBody, payloadOf, beBytes_one, beBytes_two, List.cons_append, List.nil_append, byteAt_head,
      byteAt_tail, wordAt_head, wordAt_tail, bitsAt_head, bitsAt_tail, h]

/-! ## Request frames (R156, R159, R177) -/

/-- The first byte of a request frame: the kind code with the LINK flag in bit 7. -/
def firstByte (r : Request) : Byte := BitVec.ofNat 8 (kindCode (kindOf r.body) + if r.link then 128 else 0)

theorem requestFrame_eq (r : Request) : requestFrame r = withCheck (firstByte r :: r.tag :: payloadOf r.body) := rfl

theorem length_requestFrame {r : Request} (h : r.wellFormed = true) :
    (requestFrame r).length = requestLength (kindOf r.body) := by
  rw [requestFrame_eq, length_withCheck, ← length_payloadOf h]
  rfl

theorem firstByte_code (r : Request) : (firstByte r).toNat % 128 = kindCode (kindOf r.body) := by
  obtain ⟨_, hcode, _⟩ := kindLaw (kindOf r.body)
  rw [firstByte, BitVec.toNat_ofNat]
  split <;> omega

theorem firstByte_link (r : Request) : (firstByte r).msb = r.link := by
  obtain ⟨_, hcode, _⟩ := kindLaw (kindOf r.body)
  rw [firstByte, BitVec.msb_eq_decide, BitVec.toNat_ofNat]
  cases r.link <;> simp <;> omega

/-- What the decoder answers to bytes that begin with the kind code of a kind, enough of them and their check byte right (R159). -/
theorem parseFrame_complete {k : Kind} {b tag : Byte} {payload : List Byte} (tail : List Byte)
    (hk : kindOfCode? (b.toNat % 128) = some k) (hl : payload.length + 3 = requestLength k) :
    parseFrame (withCheck (b :: tag :: payload) ++ tail) = some ⟨b.msb, tag, parseBody k payload⟩ := by
  have hframe : withCheck (b :: tag :: payload) ++ tail =
      b :: tag :: (payload ++ crc8 (b :: tag :: payload) :: tail) := by
    simp [withCheck]
  have hn : requestLength k - 1 = (b :: tag :: payload).length := by simp only [List.length_cons]; omega
  have htake : (b :: tag :: (payload ++ crc8 (b :: tag :: payload) :: tail)).take (requestLength k - 1) = b :: tag :: payload := by
    rw [hn]
    exact List.take_left (l₁ := b :: tag :: payload)
  have hcheck : (b :: tag :: (payload ++ crc8 (b :: tag :: payload) :: tail)).getD (requestLength k - 1) 0 =
      crc8 (b :: tag :: payload) := by
    rw [hn]
    simp [List.getD]
  have hlong : ¬ (b :: tag :: (payload ++ crc8 (b :: tag :: payload) :: tail)).length < requestLength k := by
    simp only [List.length_cons, List.length_append]; omega
  rw [hframe]
  simp only [parseFrame, hk]
  rw [if_neg hlong, htake, hcheck, if_pos rfl]
  rfl

/-- A request is read back from its frame, whatever bytes follow. -/
theorem parseFrame_requestFrame {r : Request} (h : r.wellFormed = true) (tail : List Byte) :
    parseFrame (requestFrame r ++ tail) = some r := by
  obtain ⟨hkind, _⟩ := kindLaw (kindOf r.body)
  rw [requestFrame_eq, parseFrame_complete tail (by rw [firstByte_code]; exact hkind) (length_payloadOf h), firstByte_link,
    parseBody_payloadOf h]

/-- Settles O15: the decoder finds kind and check byte, and each field stands at its place in the payload. -/
theorem frameRoundTrip : Obligations.FrameRoundTrip := by
  unfold Obligations.FrameRoundTrip
  exact fun r tail h => ⟨parseFrame_requestFrame h tail, length_requestFrame h⟩

/-! ## Codes and frames as the spec writes them (R176 to R178, 11.5) -/

/-- A code that no kind has is read as none. -/
theorem kindOfCode?_none {c : Nat} (h : ∀ k, kindCode k ≠ c) : kindOfCode? c = none :=
  List.find?_eq_none.mpr fun k _ => by simpa using h k

theorem parseFrame_unknown {first : Byte} (rest : List Byte) (h : ∀ k, kindCode k ≠ first.toNat % 128) :
    parseFrame (first :: rest) = none := by
  simp only [parseFrame, kindOfCode?_none h]

/-- The bytes of NOP (11.5). -/
theorem requestFrame_nop : requestFrame ⟨false, 0x00, .nop⟩ = [0x01, 0x00, 0x15] := by decide +kernel

theorem noneFrame_empty : noneFrame .empty = [0x00, 0x00, 0x20, 0xE0] := by decide +kernel

theorem noneFrame_pending : noneFrame .pending = [0x00, 0x00, 0x21, 0xE7] := by decide +kernel

/-- Settles O16: codes and lengths kind by kind, and every payload field by field in bytes. -/
theorem checkByteAndSpecFrames : Obligations.CheckByteAndSpecFrames := by
  unfold Obligations.CheckByteAndSpecFrames
  refine ⟨crc8_withCheck, fun st => ?_, fun k => ?_, fun first rest h => parseFrame_unknown rest h, fun link tag => ?_,
    ?_, requestFrame_nop, by decide +kernel, noneFrame_empty, noneFrame_pending⟩
  · cases st <;> decide
  · cases k <;> decide
  · simp only [requestFrame, kindOf, kindCode, payloadOf, beBytes_one, beBytes_two, List.flatMap_cons, List.flatMap_nil,
      List.cons_append, List.nil_append, List.append_nil, implies_true, and_self]
  · have hnop := parseFrame_requestFrame (r := ⟨false, 0x00, .nop⟩) rfl []
    rwa [List.append_nil, requestFrame_nop] at hnop

end Sys2Proof.Proofs
end

section
/-! PROOFS. Requests at their ports (R154, R161 to R163, R177): what a request command does by the port's checks, the roles of each
kind, and the reply frame with its length. -/

namespace Sys2Proof.Proofs

open Sys2Proof Sys2Proof.Machine Sys2Proof.Safety Sys2Proof.Laws

/-! ## The port's checks (R154, R162, R163) -/

/-- A request command serves its kind with an owning block, but for RESTART, which brings the restart about. -/
theorem exec_requestCommand (k : Kind) (p : PortId) (s : State) :
    k = .restart ∧ exec (requestCommand k p) s = .next (restart p s) ∨
      ∃ owner, exec (requestCommand k p) s = .next (serve p k owner s) := by
  cases k
  case restart => exact .inl ⟨rfl, rfl⟩
  all_goals exact .inr ⟨_, rfl⟩

section
variable {p : PortId} {k : Kind} {r : Request} {s : State}

theorem exec_absent (h : admission p k s = .absent) : exec (requestCommand k p) s = .next s := by
  obtain ⟨rfl, he⟩ | ⟨owner, he⟩ := exec_requestCommand k p s
  · rw [he, restart, h]
  · rw [he, serve, h]

theorem exec_skipped (h : admission p k s = .skipped r) :
    exec (requestCommand k p) s = .next (placeReply p r .skipped [] s) := by
  obtain ⟨rfl, he⟩ | ⟨owner, he⟩ := exec_requestCommand k p s
  · rw [he, restart, h]
  · rw [he, serve, h]

theorem exec_roleRefused (h : admission p k s = .roleRefused r) :
    exec (requestCommand k p) s = .next (placeReply p r .role [] s) := by
  obtain ⟨rfl, he⟩ | ⟨owner, he⟩ := exec_requestCommand k p s
  · rw [he, restart, h]
  · rw [he, serve, h]

/-- Nothing of the kind waits at the port, or the port is OFF (R154). -/
theorem admission_absent (h : s.ports[p].role = .off ∨ ∀ r, s.ports[p].request = some r → kindOf r.body ≠ k) :
    admission p k s = .absent := by
  unfold admission
  split
  · rfl
  · next r hr =>
    refine if_pos ?_
    rw [Bool.or_eq_true, decide_eq_true_eq, bne_iff_ne]
    exact h.imp_right fun h => h r hr

/-- The LINK check comes before the role check (R162, R163). -/
theorem admission_present (hr : s.ports[p].request = some r) (hrole : s.ports[p].role ≠ .off) :
    admission p (kindOf r.body) s =
      if r.link && s.ports[p].refused then .skipped r
      else if roleMayIssue s.ports[p].role (kindOf r.body) then .admitted r else .roleRefused r := by
  unfold admission
  rw [hr]
  refine if_neg ?_
  rw [bne_self_eq_false, Bool.or_false, decide_eq_true_eq]
  exact hrole

end

/-- The kinds of each role (R163). -/
theorem roleMayIssue_iff (role : Role) (k : Kind) : roleMayIssue role k = true ↔
    role ≠ .off ∧ k ∈ ([.nop, .ident, .causesRead, .causesClear, .enablesWrite, .eventsRead, .segRead, .sensorRead,
      .tableRead, .couplingRead, .queryResult, .energyRead, .calResultRead] : List Kind) ∨
    role = .floor ∧ k ∈ ([.segDefine, .segRemove, .segTune, .bandSet, .layoutLock, .restart, .couplingWrite, .overrideSet,
      .overrideCancel, .lockSet, .lockRelease, .calStart, .calAbort, .linkPause, .linkResume, .groupClearFail] : List Kind) ∨
    role = .shade ∧ k ∈ ([.holdSet, .holdSettled, .settleSet, .glareSet] : List Kind) ∨
    role = .energy ∧ k ∈ ([.capSet, .capCancel, .powerSet, .energyClear] : List Kind) ∨
    (role = .floor ∨ role = .energy) ∧ k = .queryDriver := by
  cases k <;> simp [roleMayIssue]

/-- Settles O18: the checks in their order, and nothing executed where the request is absent. -/
theorem portChecks : Obligations.PortChecks := by
  unfold Obligations.PortChecks
  refine ⟨fun p r s hr hrole => ⟨fun hlink hrefused => exec_skipped ?_, fun hlink hmay => exec_roleRefused ?_⟩,
    roleMayIssue_iff, fun k p s h => exec_absent (admission_absent h)⟩
  · rw [admission_present hr hrole, hlink, hrefused]
    rfl
  · have hpass : (r.link && s.ports[p].refused) = false := by rcases hlink with h | h <;> rw [h]; exacts [rfl, Bool.and_false _]
    rw [admission_present hr hrole, hpass, hmay]
    rfl

/-! ## The length of a reply (R177) -/

/-- What an owning block hands back fills the reply of the kind, unless it is a refusal, whose payload is not its own (R156). -/
def FillsReply (k : Kind) (x : Response) : Prop := x.status.isRefusal = true ∨ x.payload.length + 4 = replyLength k

section
variable {k : Kind} {s : State}

theorem fillsReply_refuse {st : Status} (h : st.isRefusal = true) : FillsReply k (refuse st s) := .inl h

theorem fillsReply_answer {l : List Byte} (h : l.length + 4 = replyLength k) : FillsReply k (answer l s) := .inr h

/-- A reply without payload. -/
theorem fillsReply_empty {x : Response} (hk : replyLength k = 4) (h : x.payload = []) : FillsReply k x :=
  .inr (by rw [h, hk]; rfl)

end

section
variable (s : State)

theorem length_wordOrAbsent (o : Option Nat) : (wordOrAbsent o).length = 2 := by rw [wordOrAbsent_eq, length_beBytes]

theorem length_identPayload (p : PortId) : (identPayload p s).length = 12 := by simp [identPayload]

theorem length_causesPayload (q : Port) : (causesPayload q).length = 6 := by simp [causesPayload]

/-- At most eight event sets are returned, and zeros fill the places of the others (R173). -/
theorem length_eventsPayload (q : Port) : (eventsPayload q).length = 18 := by
  have hpairs : (((pendingSegs q).take 8).flatMap fun i => beBytes 1 i.val ++ [q.events[i]]).length ≤ 16 := by
    simp [List.length_flatMap]
    omega
  simp only [eventsPayload, List.length_append, length_beBytes, List.length_replicate]
  omega

theorem length_segPayload (i : SegId) : (segPayload i s).length = 36 := by
  unfold segPayload
  split <;> simp [segRecordPayload, length_wordOrAbsent, List.length_flatMap]

theorem length_sensorPayload (n : SensorId) : (sensorPayload n s).length = 14 := by simp [sensorPayload]

theorem length_tablePayload (n : Nat) (t : Table) : (tablePayload n t).length = 34 := by
  rw [tablePayload_eq, List.length_append, length_paddedRecords (length_entryRecord _)]
  simp

/-- The entries of a coupling list fit their six places (R32, R40). -/
theorem length_couplingPayload {n : SensorId} {x : CouplingStore} (h : x.lists[n].length ≤ 6) :
    (couplingPayload n x).length = 21 := by
  have hentries : (x.lists[n].flatMap fun e => BitVec.ofNat 8 e.group.val :: beBytes 2 e.coeff).length =
      3 * x.lists[n].length := by simp [List.length_flatMap, Nat.mul_comm]
  rw [couplingPayload_eq, List.length_append, List.length_append, hentries, List.length_replicate]
  simp only [List.length_cons, List.length_nil]
  omega

theorem length_queryPayload : (queryPayload s).length = 10 := by simp [queryPayload]

theorem length_energyPayload (n : Nat) : (energyPayload n s).length = 33 := by
  rw [energyPayload_eq, List.length_append, length_paddedRecords fun j => length_energyRecord s _]
  simp

theorem length_progressBytes (r : Option CalRun) : (progressBytes r).length = 5 := by
  cases r <;> simp [progressBytes]

theorem length_calPayload : (calPayload s).length = 33 := by
  simp [calPayload, length_progressBytes]

/-! ### Owning blocks without a payload -/

theorem payload_replaceOver (sel : Entry → Bool) (m : SegMask) (new : Entry) (clamped : Bool) :
    (replaceOver sel m new clamped s).payload = [] := by
  unfold replaceOver
  dsimp only
  split <;> rfl

theorem payload_segDefine (n b p q : Nat) : (segDefine n b p q s).payload = [] := by
  unfold segDefine
  repeat' split
  all_goals rfl

theorem payload_segRemove (n : Nat) : (segRemove n s).payload = [] := by
  unfold segRemove
  repeat' split
  all_goals rfl

theorem payload_segTune (n : Nat) (x : Tuning) : (segTune n x s).payload = [] := by
  unfold segTune
  repeat' split
  all_goals rfl

theorem payload_bandSet (n b : Nat) (q : BandConfig) : (bandSet n b q s).payload = [] := by
  unfold bandSet
  repeat' split
  all_goals rfl

theorem payload_couplingWrite (n d count : Nat) (ps : List (Nat × Nat)) : (couplingWrite n d count ps s).payload = [] := by
  unfold couplingWrite
  dsimp only
  repeat' split
  all_goals rfl

theorem payload_overrideSet (m : SegMask) (level minutes : Nat) : (overrideSet m level minutes s).payload = [] := by
  unfold overrideSet
  dsimp only
  split
  · rfl
  · exact payload_replaceOver s _ _ _ _

theorem payload_overrideCancel (m : SegMask) : (overrideCancel m s).payload = [] := by
  unfold overrideCancel
  dsimp only
  split <;> rfl

theorem payload_lockSet (m : SegMask) (level : Nat) : (lockSet m level s).payload = [] := by
  unfold lockSet
  dsimp only
  split
  · rfl
  · exact payload_replaceOver s _ _ _ _

theorem payload_lockRelease (m : SegMask) : (lockRelease m s).payload = [] := by
  unfold lockRelease
  dsimp only
  split <;> rfl

theorem payload_holdSet (m : SegMask) (seconds : Nat) : (holdSet m seconds s).payload = [] := by
  unfold holdSet
  dsimp only
  split
  · rfl
  · exact payload_replaceOver s _ _ _ _

theorem payload_holdSettled (m : SegMask) : (holdSettled m s).payload = [] := by
  unfold holdSettled
  dsimp only
  repeat' split
  case isFalse.isFalse.isFalse => exact payload_replaceOver s _ _ _ _
  all_goals rfl

theorem payload_capSet (id : Nat) (m : SegMask) (level minutes : Nat) : (capSet id m level minutes s).payload = [] := by
  unfold capSet
  dsimp only
  repeat' split
  all_goals rfl

theorem payload_capCancel (id : Nat) : (capCancel id s).payload = [] := by
  unfold capCancel
  repeat' split
  all_goals rfl

theorem payload_calStart (m : SegMask) (base high low half su opt : Nat) :
    (calStart m base high low half su opt s).payload = [] := by
  unfold calStart
  dsimp only
  repeat' split
  all_goals rfl

theorem payload_linkPause : (linkPause s).payload = [] := by
  unfold linkPause
  repeat' split
  all_goals rfl

theorem payload_linkResume : (linkResume s).payload = [] := by
  unfold linkResume
  split <;> rfl

theorem payload_groupClearFail (g : Nat) : (groupClearFail g s).payload = [] := by
  unfold groupClearFail
  repeat' split
  all_goals rfl

theorem payload_powerSet (g w : Nat) : (powerSet g w s).payload = [] := by
  unfold powerSet
  repeat' split
  all_goals rfl

theorem payload_energyClear (m : SegMask) : (energyClear m s).payload = [] := by
  unfold energyClear
  dsimp only
  split <;> rfl

theorem payload_glareSet (m : SegMask) (n : Nat) : (glareSet m n s).payload = [] := by
  unfold glareSet
  dsimp only
  split <;> rfl

theorem payload_queryDriver (p : PortId) (g i : Nat) : (queryDriver p g i s).payload = [] := by
  unfold queryDriver
  repeat' split
  all_goals rfl

/-! ### Owning blocks that read -/

theorem fillsReply_segRead (n : Nat) : FillsReply .segRead (segRead n s) := by
  unfold segRead
  split
  · exact fillsReply_refuse rfl
  · exact fillsReply_answer (by rw [length_segPayload]; rfl)

theorem fillsReply_sensorRead (n : Nat) : FillsReply .sensorRead (sensorRead n s) := by
  unfold sensorRead
  split
  · exact fillsReply_refuse rfl
  · exact fillsReply_answer (by rw [length_sensorPayload]; rfl)

theorem fillsReply_tableRead (n : Nat) : FillsReply .tableRead (tableRead n s) := by
  unfold tableRead
  split
  · exact fillsReply_refuse rfl
  · exact fillsReply_answer (by rw [length_tablePayload]; rfl)

theorem fillsReply_couplingRead (h : ∀ n : SensorId, s.coupling.lists[n].length ≤ 6) (n : Nat) :
    FillsReply .couplingRead (couplingRead n s) := by
  unfold couplingRead
  split
  · exact fillsReply_refuse rfl
  · next k _ => exact fillsReply_answer (by rw [length_couplingPayload (h k)]; rfl)

theorem fillsReply_energyRead (n : Nat) : FillsReply .energyRead (energyRead n s) := by
  unfold energyRead
  split
  · exact fillsReply_refuse rfl
  · exact fillsReply_answer (by rw [length_energyPayload]; rfl)

end

/-! ## One reply frame (R156, R161) -/

/-- The bytes of a reply behind kind code and tag: the status, the payload or the zeros of a refusal, and the check byte. -/
def replyRest (k : Kind) (tag : Byte) (st : Status) (payload : List Byte) : List Byte :=
  (replyFrame k tag st payload).drop 2

theorem replyFrame_eq (k : Kind) (tag : Byte) (st : Status) (payload : List Byte) :
    replyFrame k tag st payload = BitVec.ofNat 8 (kindCode k) :: tag :: replyRest k tag st payload := rfl

/-- The slots of a port after a reply: one frame of the length of the kind, with kind code, tag and a good check. -/
def Replied (p : PortId) (r : Request) (t : State) : Prop :=
  ∃ rest : List Byte, t.ports[p].request = none ∧
    t.ports[p].reply = some (BitVec.ofNat 8 (kindCode (kindOf r.body)) :: r.tag :: rest) ∧
    rest.length + 2 = replyLength (kindOf r.body) ∧
    crc8 (BitVec.ofNat 8 (kindCode (kindOf r.body)) :: r.tag :: rest) = 0

/-- A refusal fills its reply with zeros (R156). -/
theorem length_replyFrame_refusal (k : Kind) (tag : Byte) {st : Status} (h : st.isRefusal = true) (payload : List Byte) :
    (replyFrame k tag st payload).length = replyLength k := by
  obtain ⟨_, _, _, _, hmin, _⟩ := kindLaw k
  simp only [replyFrame, h, if_true, length_withCheck, List.length_cons, List.length_replicate]
  omega

theorem replied_placeReply (p : PortId) (r : Request) {x : Response} (h : FillsReply (kindOf r.body) x) :
    Replied p r (placeReply p r x.status x.payload x.state) := by
  have hport : (placeReply p r x.status x.payload x.state).ports[p] =
      placeReplyAt (kindOf r.body) r.tag x.status x.payload x.state.ports[p] := by
    rw [placeReply_ports, updAt_get, if_pos rfl]
  have hlength : (replyFrame (kindOf r.body) r.tag x.status x.payload).length = replyLength (kindOf r.body) := by
    rcases h with h | h
    · exact length_replyFrame_refusal _ _ h _
    · exact length_replyFrame _ _ _ _ h
  refine ⟨replyRest (kindOf r.body) r.tag x.status x.payload, ?_, ?_, hlength, ?_⟩
  · rw [hport, placeReplyAt, raiseAt_request]
  · rw [hport, placeReplyAt, raiseAt_reply, replyFrame_eq]
  · rw [← replyFrame_eq, replyFrame]
    exact crc8_withCheck _

/-- The RESTART reply stays in its slot over the restart (R14). -/
theorem replied_warmRestart {p : PortId} {r : Request} {s : State} (h : Replied p r s) : Replied p r (warmRestart p s) := by
  have hport : (warmRestart p s).ports[p] = restartPort (p == p) s.ports[p] := ofFn_get _ p
  obtain ⟨rest, hrequest, hreply, hrest⟩ := h
  refine ⟨rest, ?_, ?_, hrest⟩
  · rw [hport, restartPort]
    split
    · exact hrequest
    · rfl
  · rw [hport, restartPort, beq_self_eq_true]
    split <;> exact hreply

/-- A request of a kind that is served is replied where its owning block fills the reply. -/
theorem replied_serve {p : PortId} {r : Request} {owner : Body → State → Response} {s : State}
    (hr : s.ports[p].request = some r) (hrole : s.ports[p].role ≠ .off) (ho : FillsReply (kindOf r.body) (owner r.body s)) :
    Replied p r (serve p (kindOf r.body) owner s) := by
  rcases serve_cases p (kindOf r.body) owner s with ⟨_, h⟩ | ⟨r', hr', _, _, h⟩
  · exact (h.elim hrole fun h => h r hr rfl).elim
  · obtain rfl : r' = r := Option.some.inj (hr'.symm.trans hr)
    rcases h with ⟨_, _, h⟩ | ⟨_, _, h⟩ | ⟨_, h⟩ <;> rw [h]
    · exact replied_placeReply p r' (x := refuse .skipped s) (.inl rfl)
    · exact replied_placeReply p r' (x := refuse .role s) (.inl rfl)
    · exact replied_placeReply p r' ho

theorem replied_restart {p : PortId} {r : Request} {s : State} (hr : s.ports[p].request = some r)
    (hrole : s.ports[p].role ≠ .off) (hk : kindOf r.body = .restart) : Replied p r (restart p s) := by
  have ha := admission_present hr hrole
  rw [hk] at ha
  rw [restart, ha]
  split_ifs
  · exact replied_placeReply p r (x := refuse .skipped s) (.inl rfl)
  · exact replied_warmRestart (replied_placeReply p r (x := answer [] s) (.inr (by rw [hk]; rfl)))
  · exact replied_placeReply p r (x := refuse .role s) (.inl rfl)

/-- Every request is replied by the command that executes it. -/
theorem exec_replied {p : PortId} {r : Request} {s : State} (hr : s.ports[p].request = some r)
    (hrole : s.ports[p].role ≠ .off) (hlists : ∀ n : SensorId, s.coupling.lists[n].length ≤ 6) :
    ∃ t, exec (requestCommand (kindOf r.body) p) s = .next t ∧ Replied p r t := by
  obtain ⟨link, tag, b⟩ := r
  have hserve : ∀ {owner : Body → State → Response}, FillsReply (kindOf b) (owner b s) →
      Replied p ⟨link, tag, b⟩ (serve p (kindOf b) owner s) := replied_serve hr hrole
  cases b
  all_goals refine ⟨_, rfl, ?_⟩
  case restart => exact replied_restart hr hrole rfl
  case ident => exact hserve (fillsReply_answer (by rw [length_identPayload]; rfl))
  case causesRead => exact hserve (fillsReply_answer (by rw [length_causesPayload]; rfl))
  case eventsRead => exact hserve (.inr (by rw [eventsRead, length_eventsPayload]; rfl))
  case segRead => exact hserve (fillsReply_segRead s _)
  case sensorRead => exact hserve (fillsReply_sensorRead s _)
  case tableRead => exact hserve (fillsReply_tableRead s _)
  case couplingRead => exact hserve (fillsReply_couplingRead s hlists _)
  case queryResult => exact hserve (fillsReply_answer (by rw [length_queryPayload]; rfl))
  case energyRead => exact hserve (fillsReply_energyRead s _)
  case calResultRead => exact hserve (fillsReply_answer (by rw [length_calPayload]; rfl))
  all_goals refine hserve (fillsReply_empty rfl ?_)
  case nop | causesClear | enablesWrite | layoutLock | settleSet | calAbort => rfl
  case segDefine => exact payload_segDefine s _ _ _ _
  case segRemove => exact payload_segRemove s _
  case segTune => exact payload_segTune s _ _
  case bandSet => exact payload_bandSet s _ _ _
  case couplingWrite => exact payload_couplingWrite s _ _ _ _
  case overrideSet => exact payload_overrideSet s _ _ _
  case overrideCancel => exact payload_overrideCancel s _
  case lockSet => exact payload_lockSet s _ _
  case lockRelease => exact payload_lockRelease s _
  case calStart => exact payload_calStart s _ _ _ _ _ _ _
  case linkPause => exact payload_linkPause s
  case linkResume => exact payload_linkResume s
  case groupClearFail => exact payload_groupClearFail s _
  case holdSet => exact payload_holdSet s _ _
  case holdSettled => exact payload_holdSettled s _
  case glareSet => exact payload_glareSet s _ _
  case capSet => exact payload_capSet s _ _ _ _
  case capCancel => exact payload_capCancel s _
  case powerSet => exact payload_powerSet s _ _
  case energyClear => exact payload_energyClear s _
  case queryDriver => exact payload_queryDriver s _ _ _

/-- One port changed by its own number is one port changed. -/
theorem setPorts_updAt (p : PortId) (f : Port → Port) (s : State) : s.setPorts (updAt s.ports p f) = atPort p f s := rfl

/-- The same change of the port's record is the same change of the state. -/
theorem atPort_congr {p : PortId} {f g : Port → Port} {s : State} (h : f s.ports[p] = g s.ports[p]) :
    atPort p f s = atPort p g s := by rw [atPort, h, atPort]

/-- Settles O17: every owning block fills the reply of its kind or refuses, and the record that a reply leaves. -/
theorem replyFrames : Obligations.ReplyFrames := by
  unfold Obligations.ReplyFrames
  refine ⟨fun p r s hr hrole hlists => ?_, fun p r st payload s hrole => ?_⟩
  · obtain ⟨t, he, rest, hreplied⟩ := exec_replied hr hrole hlists
    exact ⟨t, rest, he, hreplied⟩
  · rw [placeReply, setPorts_updAt]
    refine atPort_congr ?_
    rw [placeReplyAt_eq _ _ _ _ hrole]
    simp only [replyFrame, Status.isRefusal, decide_eq_true_eq]
    rfl

end Sys2Proof.Proofs
end

section
/-! PROOFS. Select periods (R153, R154, R157 to R160, R165): what a port shifts out, and the judgment of a period by the bytes it
clocked and the slots it finds. -/

namespace Sys2Proof.Proofs

open Sys2Proof Sys2Proof.Machine Sys2Proof.Safety Sys2Proof.Laws

/-! ## One port changed -/

/-- A change that leaves the port's record leaves the state. -/
theorem atPort_self {p : PortId} {f : Port → Port} {s : State} (h : f s.ports[p] = s.ports[p]) : atPort p f s = s := by
  rw [atPort, h]
  have hports : s.ports.set p s.ports[p] = s.ports := vector_ext fun q => by
    rw [set_get]
    split
    · next hq => rw [hq]
    · rfl
  rw [hports]

theorem atPort_get (p : PortId) (f : Port → Port) (s : State) : (atPort p f s).ports[p] = f s.ports[p] := by
  rw [atPort_ports, set_get, if_pos rfl]

theorem exec_selectAssert (p : PortId) (s : State) : exec (.selectAssert p) s = .next (atPort p assertSelect s) := rfl

theorem exec_selectRelease (p : PortId) (x : Clocked) (s : State) :
    exec (.selectRelease p x) s = .next (atPort p (releaseSelect x) s) := rfl

/-! ## The assertion (R153, R157) -/

section
variable {p : Port}

theorem assertSelect_off (h : p.role = .off) : assertSelect p = p := if_pos (by simp [h])

theorem assertSelect_eq (hrole : p.role ≠ .off) (hperiod : p.period = none) : assertSelect p =
    { p with progress := .none, period := some ⟨frameToShift p, p.reply.isSome, false⟩ } := if_neg (by simp [hrole, hperiod])

theorem frameToShift_eq (p : Port) : frameToShift p = match p.reply, p.request with
    | some reply, _ => reply
    | none, some _ => [0x00, 0x00, 0x21, 0xE7]
    | none, none => [0x00, 0x00, 0x20, 0xE0] := by
  unfold frameToShift
  cases p.reply with
  | some => rfl
  | none =>
    cases p.request with
    | some => exact noneFrame_pending
    | none => exact noneFrame_empty

theorem dataOut_idle (h : p.period = none) (n : Nat) : dataOut p n = true := by rw [dataOut, h]

/-- Each byte of the period is shifted most significant bit first, and 0xFF follows the frame (R153). -/
theorem dataOut_bit {d : Period} (h : p.period = some d) (n : Nat) (j : Fin 8) :
    dataOut p (8 * n + j.val) = (d.out.getD n 0xFF).getLsbD (7 - j.val) := by
  have hbyte : (8 * n + j.val) / 8 = n := by omega
  have hbit : (8 * n + j.val) % 8 = j.val := by omega
  rw [dataOut, h]
  dsimp only
  rw [hbyte, hbit, BitVec.getMsbD_eq_getLsbD, decide_eq_true j.isLt, Bool.true_and]

end

/-- What the port shifts out was fixed at the assertion; a reply placed later does not change it (R157). -/
theorem dataOut_placeReply (p : PortId) (r : Request) (st : Status) (l : List Byte) (s : State) (n : Nat) :
    dataOut (placeReply p r st l s).ports[p] n = dataOut s.ports[p] n := by
  have hperiod : (placeReply p r st l s).ports[p].period = s.ports[p].period := by
    rw [placeReply_ports, updAt_get, if_pos rfl, placeReplyAt, raiseAt_period]
  rw [dataOut, hperiod, dataOut]

/-- Settles O19: the period keeps the frame of the assertion, and placing a reply leaves the period as it is. -/
theorem selectAssertFixesFrame : Obligations.SelectAssertFixesFrame := by
  unfold Obligations.SelectAssertFixesFrame
  refine fun p s => ⟨fun hoff => ?_, dataOut_idle, fun hrole hperiod => ?_⟩
  · rw [exec_selectAssert, atPort_self (assertSelect_off hoff)]
  · refine ⟨_, frameToShift s.ports[p], frameToShift_eq _, rfl, ?_, fun n j => ?_, fun r st l n =>
      dataOut_placeReply p r st l _ n⟩
    · rw [exec_selectAssert]
      exact congrArg _ (atPort_congr (assertSelect_eq hrole hperiod))
    · rw [atPort_get]
      exact dataOut_bit (d := ⟨frameToShift s.ports[p], s.ports[p].reply.isSome, false⟩) rfl n j

/-! ## The judgment of the reply (R158) -/

section
variable {p : Port} {d : Period} {f : List Byte} {n : Nat}

theorem judgeReply_empty (h : p.reply = none) (carries : Bool) (n : Nat) : judgeReply carries n p = p := by
  rw [judgeReply, h]

/-- A reply placed during the period was not shifted. -/
theorem judgeReply_uncarried (h : p.reply = some f) (n : Nat) : judgeReply false n p = p := by
  rw [judgeReply, h]
  rfl

/-- A reply of which every byte was clocked is consumed. -/
theorem judgeReply_whole (h : p.reply = some f) (h0 : 0 < n) (hn : f.length ≤ n) : judgeReply true n p =
    { p with reply := none, progress := .none, raised := p.raised &&& ~~~(0x0002 : BitVec 16) } := by
  have hwhole : clocked f n = .whole := by rw [clocked, if_neg h0.ne', if_neg hn.not_gt]
  rw [judgeReply, h]
  exact if_pos hwhole

/-- A reply not clocked whole is retained. -/
theorem judgeReply_cut (h : p.reply = some f) (hn : ¬ (0 < n ∧ f.length ≤ n)) : judgeReply true n p =
    { p with progress := if n = 0 then .none else .partly } := by
  have hcut : clocked f n = if n = 0 then .none else .partly := by
    unfold clocked
    split
    · rfl
    · exact if_pos (by omega)
  have hwhole : clocked f n ≠ .whole := by rw [hcut]; split <;> nofun
  rw [judgeReply, h, ← hcut]
  exact if_neg hwhole

/-! ## The judgment of the bytes received (R159, R160) -/

/-- Bytes of which not all are 0xFF are judged. -/
theorem all_ff_eq_false {l : List Byte} (h : ∃ b ∈ l, b ≠ 0xFF) : l.all (· == 0xFF) = false := by
  simpa using h

theorem judgeReceived_nothing (n : Nat) (p : Port) : judgeReceived (List.replicate n 0xFF) p = p := if_pos (by simp)

section
variable {l : List Byte} (h : ∃ b ∈ l, b ≠ 0xFF)
include h

/-- A frame enters a free port. -/
theorem judgeReceived_accepted {r : Request} (hl : parseFrame l = some r) (hrequest : p.request = none)
    (hreply : p.reply = none) : judgeReceived l p = { p with request := some r } := by
  rw [judgeReceived, all_ff_eq_false h, hl]
  exact if_pos (portFree_iff.mpr ⟨hrequest, hreply⟩)

/-- A frame that finds the port not free is an overrun. -/
theorem judgeReceived_overrun (hl : parseFrame l ≠ none) (hrole : p.role ≠ .off)
    (hbusy : ¬ (p.request = none ∧ p.reply = none)) : judgeReceived l p = { p with raised := p.raised ||| 0x0004 } := by
  obtain ⟨r, hl⟩ := Option.ne_none_iff_exists'.mp hl
  rw [judgeReceived, all_ff_eq_false h, hl]
  exact (if_neg fun hfree => hbusy (portFree_iff.mp hfree)).trans (if_neg hrole)

/-- A frame error on a free port is answered BAD_FRAME. -/
theorem judgeReceived_badFrame (hl : parseFrame l = none) (hrole : p.role ≠ .off) (hrequest : p.request = none)
    (hreply : p.reply = none) : judgeReceived l p = { p with
      reply := some (withCheck [l.getD 0 0 &&& 0x7F, l.getD 1 0, 0x10]), progress := .none, refused := true
      raised := p.raised ||| 0x0008 ||| 0x0002 } := by
  have herror : raiseAt .frameError p = { p with raised := p.raised ||| 0x0008 } := if_neg hrole
  rw [judgeReceived, all_ff_eq_false h, hl, herror]
  exact (if_pos (portFree_iff.mpr ⟨hrequest, hreply⟩)).trans (if_neg hrole)

/-- A frame error on a port that is not free is an overrun as well. -/
theorem judgeReceived_error_overrun (hl : parseFrame l = none) (hrole : p.role ≠ .off)
    (hbusy : ¬ (p.request = none ∧ p.reply = none)) :
    judgeReceived l p = { p with raised := p.raised ||| 0x0008 ||| 0x0004 } := by
  have herror : raiseAt .frameError p = { p with raised := p.raised ||| 0x0008 } := if_neg hrole
  rw [judgeReceived, all_ff_eq_false h, hl, herror]
  exact (if_neg fun hfree => hbusy (portFree_iff.mp hfree)).trans (if_neg hrole)

end

/-- A request frame is not all 0xFF, since no kind has the code 0x7F. -/
theorem requestFrame_not_ff (r : Request) (tail : List Byte) : ∃ b ∈ requestFrame r ++ tail, b ≠ 0xFF := by
  refine ⟨firstByte r, by simp [requestFrame_eq, withCheck], fun h => ?_⟩
  have hcode := firstByte_code r
  rw [h] at hcode
  revert hcode
  cases kindOf r.body <;> decide

/-! ## The release (R153, R154, R165) -/

/-- The port with its select released. -/
def released (p : Port) : Port := { p with period := none }

theorem releaseSelect_outside (h : p.role = .off ∨ p.period = none) (x : Clocked) : releaseSelect x p = p := by
  unfold releaseSelect
  split
  · rfl
  · next d hd => exact if_pos (h.resolve_right fun h => by rw [h] at hd; cases hd)

/-- A void period judges nothing (R165). -/
theorem releaseSelect_void (hrole : p.role ≠ .off) (hd : p.period = some d) (hv : d.void = true) {x : Clocked}
    (hx : x.atRestart = false) : releaseSelect x p = released p := by
  rw [releaseSelect, hd]
  dsimp only
  rw [if_neg hrole, if_pos (by rw [hv, hx]; rfl), released]

/-- A period that is judged takes the whole bytes clocked, first for the reply and then for what was received. -/
theorem releaseSelect_judged {cut : List Bool} (hcut : cut.length < 8) (l : List Byte) {late : Bool} (hrole : p.role ≠ .off)
    (hd : p.period = some d) (hv : d.void = false ∨ late = true) :
    releaseSelect ⟨bitsOfBytes l ++ cut, late⟩ p =
      judgeReceived l (judgeReply d.carriesReply l.length (released p)) := by
  have hjudged : (d.void && !late) = false := by rcases hv with h | h <;> rw [h]; exacts [rfl, Bool.and_false _]
  rw [releaseSelect, hd]
  dsimp only
  rw [if_neg hrole, bytesOfBits_append hcut, hjudged]
  rfl

end

/-- Settles O20: the reply is judged first, and a request enters the port that is free then. -/
theorem selectReleaseAccepts : Obligations.SelectReleaseAccepts := by
  unfold Obligations.SelectReleaseAccepts
  refine ⟨fun p n cut late d s hcut hrole hd hv => ?_, fun p r tail cut late d s hcut hr hrole hd hrequest =>
    ⟨fun hv hreply => ?_, fun f hv hreply hcarries hf => ?_⟩⟩
  all_goals
    rw [exec_selectRelease]
    refine congrArg _ (atPort_congr ?_)
    generalize s.ports[p] = q at *
  · rw [releaseSelect_judged hcut _ hrole hd (.inl hv), judgeReceived_nothing, List.length_replicate]
    split
    · next hreply => exact judgeReply_empty (p := released q) hreply _ _
    · next f hreply =>
      split
      · next hcarries =>
        rw [hcarries]
        exact judgeReply_uncarried (p := released q) hreply n
      · next hcarries =>
        rw [Bool.not_eq_false] at hcarries
        rw [hcarries]
        split
        · next hn => exact judgeReply_whole (p := released q) hreply hn.1 hn.2
        · next hn => exact judgeReply_cut (p := released q) hreply hn
  · rw [releaseSelect_judged hcut _ hrole hd hv, judgeReply_empty (p := released q) hreply]
    exact judgeReceived_accepted (requestFrame_not_ff r tail) (parseFrame_requestFrame hr tail) hrequest hreply
  · obtain ⟨b, hb, _⟩ := requestFrame_not_ff r tail
    have hlong : 0 < (requestFrame r ++ tail).length := List.length_pos_of_mem hb
    rw [releaseSelect_judged hcut _ hrole hd (.inl hv), hcarries, judgeReply_whole (p := released q) hreply hlong hf]
    exact judgeReceived_accepted (requestFrame_not_ff r tail) (parseFrame_requestFrame hr tail) hrequest rfl

/-- Settles O21: the slots as the judgment of the reply leaves them decide between BAD_FRAME and overrun. -/
theorem selectReleaseRejects : Obligations.SelectReleaseRejects := by
  unfold Obligations.SelectReleaseRejects
  refine ⟨fun p l cut late d s hcut hrole hd hv hl => ⟨fun hreply => ⟨fun hrequest hparse => ?_, fun hrequest hparse => ?_,
    fun hrequest hparse => ?_⟩, fun f hreply => ⟨fun hheld => ?_, fun hcarries hf hrequest hparse => ?_⟩⟩,
    fun p x s => ⟨fun h => ?_, fun d hrole hd hv hx => ?_⟩⟩
  case refine_6 => rw [exec_selectRelease, atPort_self (releaseSelect_outside h x)]
  all_goals
    rw [exec_selectRelease]
    refine congrArg _ (atPort_congr ?_)
    generalize s.ports[p] = q at *
  case refine_7 => exact releaseSelect_void hrole hd hv hx
  all_goals
    obtain ⟨b, hb, _⟩ := id hl
    have hpos : 0 < l.length := List.length_pos_of_mem hb
    rw [releaseSelect_judged hcut _ hrole hd (.inl hv)]
  · rw [judgeReply_empty (p := released q) hreply]
    exact judgeReceived_badFrame hl hparse hrole hrequest hreply
  · rw [judgeReply_empty (p := released q) hreply]
    exact judgeReceived_error_overrun hl hparse hrole fun h => hrequest h.1
  · rw [judgeReply_empty (p := released q) hreply]
    exact judgeReceived_overrun hl hparse hrole fun h => hrequest h.1
  · have hretained : judgeReply d.carriesReply l.length (released q) =
        { q with period := none, progress := if d.carriesReply then .partly else q.progress } := by
      cases hc : d.carriesReply with
      | false => exact judgeReply_uncarried (p := released q) hreply _
      | true =>
        have hshort : l.length < f.length := hheld.resolve_left (by rw [hc]; exact Bool.noConfusion)
        refine (judgeReply_cut (p := released q) hreply (by omega)).trans ?_
        rw [if_neg hpos.ne']
        rfl
    have hbusy : ¬ (q.request = none ∧ q.reply = none) := fun h => by rw [hreply] at h; cases h.2
    rw [hretained]
    cases hparse : parseFrame l with
    | none => exact judgeReceived_error_overrun hl hparse hrole hbusy
    | some r => exact judgeReceived_overrun hl (by rw [hparse]; nofun) hrole hbusy
  · rw [hcarries, judgeReply_whole (p := released q) hreply hpos hf]
    exact judgeReceived_badFrame hl hparse hrole hrequest rfl

end Sys2Proof.Proofs
end

section
/-! PROOFS. Causes and segment events at a port (R164, R169 to R173, R179): what a cause set holds position by position, when
the attention output is asserted, and what the requests that the port itself owns reply and leave. -/

namespace Sys2Proof.Proofs

open Sys2Proof Sys2Proof.Machine Sys2Proof.Safety Sys2Proof.Laws

/-! ## The cause set, position by position (R170, R178) -/

/-- Two sets share a member exactly when some position is in both. -/
theorem and_ne_zero_iff {w : Nat} {a b : BitVec w} :
    a &&& b ≠ 0 ↔ ∃ n : Nat, a.getLsbD n = true ∧ b.getLsbD n = true := by
  constructor
  · contrapose!
    refine fun h => BitVec.eq_of_getLsbD_eq fun n _ => ?_
    rw [BitVec.getLsbD_and, BitVec.ofNat_eq_ofNat, BitVec.getLsbD_zero, Bool.and_eq_false_imp]
    exact fun ha => Bool.eq_false_iff.mpr (h n ha)
  · rintro ⟨n, ha, hb⟩ h
    have hn := congrArg (·.getLsbD n) h
    simp [ha, hb] at hn

theorem getLsbD_causeMask (c : Cause) (n : Nat) : (causeMask c).getLsbD n = decide (n = c.bit) := by
  have hbit : c.bit < 16 := by cases c <;> decide
  rw [causeMask, BitVec.getLsbD_ofNat, Nat.testBit_two_pow]
  by_cases h : n = c.bit
  · simp [h, hbit]
  · simp [h, Ne.symm h]

/-- A set shares a member with that of one cause exactly when it holds the cause. -/
theorem and_causeMask_ne_zero {x : BitVec 16} {c : Cause} : x &&& causeMask c ≠ 0 ↔ x.getLsbD c.bit = true := by
  rw [and_ne_zero_iff]
  simp only [getLsbD_causeMask, decide_eq_true_eq, exists_eq_right]

section
variable {p : Port}

theorem eventsPending_iff : eventsPending p = true ↔ ∃ i : SegId, p.events[i] ≠ 0 := by simp [eventsPending]

/-- Every cause but SEG_EVENT is present exactly while it is raised (R170). -/
theorem causeSet_raised {n : Nat} (h : n ≠ 4) : (causeSet p).getLsbD n = p.raised.getLsbD n := by
  rw [causeSet, BitVec.getLsbD_or]
  split
  · rw [getLsbD_causeMask, Cause.bit, decide_eq_false h, Bool.or_false]
  · simp

/-- SEG_EVENT is present exactly while an event set is not empty (R170). -/
theorem causeSet_segEvent (h : p.raised &&& causeMask .segEvent = 0) : (causeSet p).getLsbD 4 = eventsPending p := by
  have hraised : p.raised.getLsbD 4 = false :=
    Bool.eq_false_iff.mpr fun h4 => (and_causeMask_ne_zero (c := .segEvent)).mpr h4 h
  rw [causeSet, BitVec.getLsbD_or, hraised, Bool.false_or]
  split
  · next hp => rw [hp, getLsbD_causeMask]; rfl
  · next hp => rw [Bool.eq_false_iff.mpr hp]; rfl

/-! ## The attention output (R154, R169) -/

/-- Where only enable-able causes are enabled, the output follows RESTARTED and the enabled causes present (R169, R172). -/
theorem attention_iff (h : p.enables &&& enableable = p.enables) :
    attention p = true ↔ p.role ≠ .off ∧ ((causeSet p).getLsbD 0 = true ∨
      ∃ n : Nat, (causeSet p).getLsbD n = true ∧ p.enables.getLsbD n = true) := by
  rw [attention, BitVec.and_assoc, h, Bool.and_eq_true, Bool.or_eq_true, bne_iff_ne, bne_iff_ne, bne_iff_ne,
    and_causeMask_ne_zero, and_ne_zero_iff, Cause.bit]

/-- An enabled cause is present: one that is raised, or SEG_EVENT while an event set is not empty (R170). -/
theorem enabledCause_iff (h : p.raised &&& causeMask .segEvent = 0) :
    (∃ n : Nat, (causeSet p).getLsbD n = true ∧ p.enables.getLsbD n = true) ↔
      (∃ n : Nat, n ≠ 4 ∧ p.enables.getLsbD n = true ∧ p.raised.getLsbD n = true) ∨
        (p.enables.getLsbD 4 = true ∧ ∃ i : SegId, p.events[i] ≠ 0) := by
  constructor
  · rintro ⟨n, hcause, henabled⟩
    by_cases hn : n = 4
    · subst hn
      rw [causeSet_segEvent h] at hcause
      exact .inr ⟨henabled, eventsPending_iff.mp hcause⟩
    · rw [causeSet_raised hn] at hcause
      exact .inl ⟨n, hn, henabled, hcause⟩
  · rintro (⟨n, hn, henabled, hraised⟩ | ⟨henabled, hevents⟩)
    · exact ⟨n, (causeSet_raised hn).trans hraised, henabled⟩
    · exact ⟨4, (causeSet_segEvent h).trans (eventsPending_iff.mpr hevents), henabled⟩

end

/-- Settles O22: RESTARTED stands in the cause set as it is raised, and an enabled cause is either raised or SEG_EVENT. -/
theorem attentionRule : Obligations.AttentionRule := by
  unfold Obligations.AttentionRule
  intro p hraised henables
  rw [attention_iff henables, causeSet_raised (by decide), enabledCause_iff hraised]

/-! ## ENABLES_WRITE (R172) -/

/-- Nothing is named at a position without an enable-able cause exactly when nothing is cut off. -/
theorem and_enableable_eq_iff (en : BitVec 16) : en &&& enableable = en ↔ en &&& 0xF801 = 0 := by
  have hboth : enableable &&& 0xF801 = 0 := by decide
  have hall : enableable ||| 0xF801 = BitVec.allOnes 16 := by decide
  constructor
  · intro h
    rw [← h, BitVec.and_assoc, hboth]
    exact BitVec.and_zero
  · intro h
    calc en &&& enableable = en &&& enableable ||| en &&& 0xF801 := by rw [h]; exact BitVec.or_zero.symm
      _ = en := by rw [← BitVec.and_or_distrib_left, hall, BitVec.and_allOnes]

/-- The owner's answer: what the record of the port becomes, in the words of the statement. -/
theorem enablesWrite_eq (p : PortId) (en : BitVec 16) (m : SegMask) (s : State) :
    enablesWrite p en m s = accept (en &&& enableable != en) (atPort p (fun q =>
      { q with
        enables := en &&& 0x07FE
        segMask := m
        events := Vector.ofFn fun i => if q.segMask.getLsbD i.val && !m.getLsbD i.val then 0 else q.events[i] }) s) := by
  rw [enablesWrite, setPorts_updAt]
  refine congrArg _ (atPort_congr ?_)
  simp only [writeEnables, maskHas_minus]
  rfl

/-! ## EVENTS_READ (R173) -/

section
variable {q : Port}

theorem pendingSegs_eq (q : Port) : pendingSegs q = (List.finRange 16).filter fun i => q.events[i] ≠ 0 :=
  List.filter_congr fun i _ => by rw [bne, Bool.beq_eq_decide_eq, ← decide_not]

theorem mem_pendingSegs {i : SegId} : i ∈ pendingSegs q ↔ q.events[i] ≠ 0 := by simp [pendingSegs]

/-- The segments behind the eight lowest are those that are not among them, for each is listed once. -/
theorem mem_drop_pendingSegs {i : SegId} :
    i ∈ (pendingSegs q).drop 8 ↔ i ∈ pendingSegs q ∧ i ∉ (pendingSegs q).take 8 := by
  have hnodup : (pendingSegs q).Nodup := (List.nodup_finRange 16).filter _
  have hmem : i ∈ pendingSegs q ↔ i ∈ (pendingSegs q).take 8 ∨ i ∈ (pendingSegs q).drop 8 := by
    rw [← List.mem_append, List.take_append_drop]
  constructor
  · exact fun h => ⟨List.mem_of_mem_drop h, fun ht => List.disjoint_take_drop hnodup le_rfl ht h⟩
  · exact fun ⟨h, ht⟩ => (hmem.mp h).resolve_left ht

theorem emptyReturned_events (i : SegId) :
    (emptyReturned q).events[i] = if i ∈ (pendingSegs q).take 8 then 0 else q.events[i] := by
  simp [emptyReturned]

/-- An event set is left exactly where it is pending and behind the eight lowest. -/
theorem emptyReturned_events_ne_zero (i : SegId) : (emptyReturned q).events[i] ≠ 0 ↔ i ∈ (pendingSegs q).drop 8 := by
  rw [mem_drop_pendingSegs, mem_pendingSegs, emptyReturned_events]
  split
  · next h => exact ⟨fun h0 => absurd rfl h0, fun hi => absurd h hi.2⟩
  · next h => exact ⟨fun h0 => ⟨h0, h⟩, And.left⟩

/-- SEG_EVENT stays exactly while event sets remain that were not returned (R173). -/
theorem eventsPending_emptyReturned : eventsPending (emptyReturned q) = true ↔ 8 < (pendingSegs q).length := by
  rw [eventsPending_iff]
  simp only [emptyReturned_events_ne_zero]
  rw [← List.length_pos_iff_exists_mem, List.length_drop, Nat.sub_pos_iff_lt]

/-- The payload of EVENTS_READ: the two counts, the pairs, and zeros in the places that remain (R173, R179). -/
theorem eventsPayload_eq (q : Port) : eventsPayload q =
    [BitVec.ofNat 8 ((pendingSegs q).take 8).length,
      BitVec.ofNat 8 ((pendingSegs q).length - ((pendingSegs q).take 8).length)]
      ++ (((pendingSegs q).take 8).flatMap fun i => [BitVec.ofNat 8 i.val, q.events[i]])
      ++ List.replicate (16 - 2 * ((pendingSegs q).take 8).length) 0 := by
  have hpairs : ∀ l : List SegId, (l.flatMap fun i => [BitVec.ofNat 8 i.val, q.events[i]]).length = 2 * l.length :=
    fun l => by simp [List.length_flatMap, Nat.mul_comm]
  simp only [eventsPayload, beBytes_one, List.cons_append, List.nil_append, hpairs]

end

/-- Settles O24: what each of the two requests writes into the port's record, and the event sets left behind the eight lowest. -/
theorem enablesAndEvents : Obligations.EnablesAndEvents := by
  unfold Obligations.EnablesAndEvents
  refine ⟨fun p link tag en m s h => ?_, fun p link tag s h => ?_⟩
  · refine exec_accepted rfl h (enablesWrite_eq p en m s) ?_
    rw [bne_iff_ne, Ne, and_enableable_eq_iff]
  · rw [← pendingSegs_eq]
    refine ⟨_, _, _, rfl, ?_, rfl, rfl, fun hraised => ?_⟩
    · have hstate : atPort p emptyReturned s = atPort p (fun q => { q with
          events := Vector.ofFn fun i => if i ∈ (pendingSegs s.ports[p]).take 8 then 0 else q.events[i] }) s :=
        atPort_congr (by simp only [emptyReturned, List.contains_iff_mem])
      rw [← eventsPayload_eq, ← hstate]
      exact congrArg Host.Outcome.next (serve_runs _ h)
    · have hport : (Vector.ofFn fun i => if i ∈ (pendingSegs s.ports[p]).take 8 then 0 else s.ports[p].events[i]) =
          (emptyReturned s.ports[p]).events := vector_ext fun i => by rw [ofFn_get, emptyReturned_events]
      rw [atPort_get, hport, ← eventsPending_emptyReturned]
      exact iff_of_eq (congrArg (· = true) (causeSet_segEvent hraised))

/-! ## NOP, IDENT, CAUSES_READ and CAUSES_CLEAR (R164, R171) -/

theorem identPayload_eq (p : PortId) (s : State) : identPayload p s =
    [0x0A, 0x3D, 0x34, 0x12, 0x01, BitVec.ofNat 8 (roleCode s.ports[p].role),
      BitVec.ofNat 8 (roleCode s.ports[0].strap + 4 * roleCode s.ports[1].strap + 16 * roleCode s.ports[2].strap),
      if s.layout.lock then 1 else 0] ++ beBytes 4 s.table.uptime := by
  have hlock : BitVec.ofNat 8 (bit s.layout.lock) = if s.layout.lock then 1 else 0 := by cases s.layout.lock <;> rfl
  simp only [identPayload, beBytes_one, beBytes_two, hlock, List.cons_append, List.nil_append, Nat.mul_comm]
  rfl

section
variable {q : Port} {named : BitVec 16}

/-- The named causes leave, and no other (R171). -/
theorem causeSet_dropCauses {n : Nat} (h : n ≠ 4) :
    (causeSet (dropCauses named q)).getLsbD n = ((causeSet q).getLsbD n && !named.getLsbD n) := by
  rw [causeSet_raised h, causeSet_raised h, dropCauses, BitVec.getLsbD_and, BitVec.getLsbD_not]
  by_cases hn : n < 16
  · rw [decide_eq_true hn, Bool.true_and]
  · rw [BitVec.getLsbD_of_ge _ _ (Nat.not_lt.mp hn), Bool.false_and, Bool.false_and]

/-- SEG_EVENT is left to the event sets, which a clear does not touch (R171). -/
theorem segEvent_dropCauses (h : q.raised &&& causeMask .segEvent = 0) :
    (causeSet (dropCauses named q)).getLsbD 4 = (causeSet q).getLsbD 4 := by
  have hdropped : (dropCauses named q).raised &&& causeMask .segEvent = 0 := by
    calc (q.raised &&& ~~~named) &&& causeMask .segEvent
        = (q.raised &&& causeMask .segEvent) &&& ~~~named := by ac_rfl
      _ = 0 := by rw [h]; exact BitVec.zero_and
  rw [causeSet_segEvent h, causeSet_segEvent hdropped]
  rfl

end

/-- Settles O23: the payloads as the spec lays them out, and the cause set that a clear leaves. -/
theorem identAndCauses : Obligations.IdentAndCauses := by
  unfold Obligations.IdentAndCauses
  refine ⟨fun p link tag s => ⟨fun h => exec_answered rfl h rfl, fun h => exec_answered rfl h ?_, rfl, rfl, rfl, rfl⟩,
    fun p link tag s => ⟨fun h => exec_answered rfl h rfl, fun named h hraised =>
      ⟨_, exec_done rfl h rfl, setPorts_updAt .., fun n hn => ?_, ?_⟩⟩⟩
  · exact congrArg (answer · s) (identPayload_eq p s)
  · rw [setPorts_updAt, atPort_get]
    exact causeSet_dropCauses hn
  · rw [setPorts_updAt, atPort_get]
    exact segEvent_dropCauses hraised

end Sys2Proof.Proofs
end

section
/-! PROOFS. The queue of waiting commands: a step runs its front command, and no command reaches the queue's rest (log 4). -/

namespace Sys2Proof.Proofs

open Sys2Proof Sys2Proof.Machine Sys2Proof.Safety Sys2Proof.Laws

/-! ## Operations that cross blocks -/

section
variable (s : State)

theorem foldl_pending {α : Type} {f : State → α → State} (h : ∀ u a, (f u a).pending = u.pending) (l : List α) :
    (l.foldl f s).pending = s.pending :=
  List.foldlRecOn l f (motive := fun u => u.pending = s.pending) rfl fun u hu a _ => (h u a).trans hu

theorem endRun_pending (r : CalRun) (res : CalResult) : (endRun r res s).pending = s.pending := by
  obtain ⟨_, _, _, _, _, _, hpending⟩ := endRun_frame r res s
  exact hpending

theorem abortRun_pending (why : AbortReason) : (abortRun why s).pending = s.pending := by
  unfold abortRun
  split
  · rfl
  · exact endRun_pending ..

/-- A table change writes entries, may end the run, and informs segments: none of them reaches the queue. -/
theorem tableChange_pending (entries : List Entry) (inserted : Option Entry) (informed : SegMask) :
    (tableChange entries inserted informed s).pending = s.pending := by
  obtain ⟨u, h, hu⟩ := tableChange_cases entries inserted informed s
  rw [h, (Quiet.foldl quiet_informSegment (maskSegs informed) u).pending]
  rcases hu with ⟨rfl, _⟩ | ⟨r, res, _, rfl⟩
  · rfl
  · exact endRun_pending ..

theorem testFadeWait_pending : (testFadeWait s).pending = s.pending := by rw [testFadeWait_frame]

/-- What reaches ports, groups and link alone leaves the queue. -/
theorem LinkSide.pending {s t : State} (h : LinkSide s t) : t.pending = s.pending := by
  obtain ⟨hpending, _⟩ := h.frame
  exact hpending

/-- A request leaves the queue where its owning block does. -/
theorem serve_pending {p : PortId} {k : Kind} {owner : Body → State → Response}
    (ho : ∀ b, (owner b s).state.pending = s.pending) : (serve p k owner s).pending = s.pending :=
  serve_keeps (P := fun t => t.pending = s.pending) (fun _ _ h => h) rfl ho

/-! ## The requests that read (R29, R40, R73, R94, R109) -/

theorem segRead_state (n : Nat) : (segRead n s).state = s := by unfold segRead; split <;> rfl

theorem sensorRead_state (n : Nat) : (sensorRead n s).state = s := by unfold sensorRead; split <;> rfl

theorem tableRead_state (n : Nat) : (tableRead n s).state = s := by unfold tableRead; split <;> rfl

theorem couplingRead_state (n : Nat) : (couplingRead n s).state = s := by unfold couplingRead; split <;> rfl

theorem energyRead_state (n : Nat) : (energyRead n s).state = s := by unfold energyRead; split <;> rfl

/-! ## The requests of the table (Section 5) -/

theorem replaceOver_pending (sel : Entry → Bool) (m : SegMask) (new : Entry) (clamped : Bool) :
    (replaceOver sel m new clamped s).state.pending = s.pending := by
  unfold replaceOver
  dsimp only
  split
  · rfl
  · exact tableChange_pending ..

theorem releaseOver_pending (sel : Entry → Bool) (m : SegMask) (clamped : Bool) :
    (releaseOver sel m clamped s).state.pending = s.pending := tableChange_pending ..

theorem overrideSet_pending (m : SegMask) (level minutes : Nat) :
    (overrideSet m level minutes s).state.pending = s.pending := by
  unfold overrideSet
  dsimp only
  split
  · rfl
  · exact replaceOver_pending ..

theorem overrideCancel_pending (m : SegMask) : (overrideCancel m s).state.pending = s.pending := by
  unfold overrideCancel
  dsimp only
  split
  · rfl
  · exact releaseOver_pending ..

theorem lockSet_pending (m : SegMask) (level : Nat) : (lockSet m level s).state.pending = s.pending := by
  unfold lockSet
  dsimp only
  split
  · rfl
  · exact replaceOver_pending ..

theorem lockRelease_pending (m : SegMask) : (lockRelease m s).state.pending = s.pending := by
  unfold lockRelease
  dsimp only
  split
  · rfl
  · exact releaseOver_pending ..

theorem holdSet_pending (m : SegMask) (seconds : Nat) : (holdSet m seconds s).state.pending = s.pending := by
  unfold holdSet
  dsimp only
  split
  · rfl
  · exact replaceOver_pending ..

theorem holdSettled_pending (m : SegMask) : (holdSettled m s).state.pending = s.pending := by
  unfold holdSettled
  dsimp only
  split
  · rfl
  · split
    · rfl
    · split
      · exact releaseOver_pending ..
      · exact replaceOver_pending ..

theorem capSet_pending (id : Nat) (m : SegMask) (level minutes : Nat) :
    (capSet id m level minutes s).state.pending = s.pending := by
  unfold capSet
  dsimp only
  split
  · rfl
  · split
    · rfl
    · split
      · exact tableChange_pending ..
      · split
        · rfl
        · exact tableChange_pending ..

theorem capCancel_pending (id : Nat) : (capCancel id s).state.pending = s.pending := by
  unfold capCancel
  split
  · rfl
  · split
    · rfl
    · exact tableChange_pending ..

theorem departDue_pending : (departDue s).pending = s.pending := tableChange_pending ..

/-! ## The requests that write layout, coupling store and energy (Sections 1, 3, 4.7, 6.4) -/

theorem segDefine_pending (n b p q : Nat) : (segDefine n b p q s).state.pending = s.pending := by
  unfold segDefine
  repeat' split
  all_goals rfl

theorem removeSegment_pending (i : SegId) : (removeSegment i s).pending = s.pending := by
  rw [removeSegment_informed]
  exact (Quiet.foldl quiet_informSegment _ _).pending

theorem segRemove_pending (n : Nat) : (segRemove n s).state.pending = s.pending := by
  unfold segRemove
  repeat' split
  case h_2.isFalse.isFalse => exact removeSegment_pending s _
  all_goals rfl

theorem segTune_pending (n : Nat) (x : Tuning) : (segTune n x s).state.pending = s.pending := by
  unfold segTune
  repeat' split
  all_goals rfl

theorem bandSet_pending (n b : Nat) (q : BandConfig) : (bandSet n b q s).state.pending = s.pending := by
  unfold bandSet
  repeat' split
  all_goals rfl

theorem glareSet_pending (m : SegMask) (n : Nat) : (glareSet m n s).state.pending = s.pending := by
  unfold glareSet
  dsimp only
  split
  · rfl
  · exact foldl_pending s (fun u i => by rw [writeThreshold_eq]) _

theorem couplingWrite_pending (k d n : Nat) (ps : List (Nat × Nat)) :
    (couplingWrite k d n ps s).state.pending = s.pending := by
  unfold couplingWrite
  dsimp only
  repeat' split
  all_goals rfl

theorem energyClear_pending (m : SegMask) : (energyClear m s).state.pending = s.pending := by
  unfold energyClear
  dsimp only
  split
  · rfl
  · exact setEnergy_pending s _

/-! ## The calibration run (Section 8) -/

theorem calStart_pending (mask : SegMask) (base high low half su opt : Nat) :
    (calStart mask base high low half su opt s).state.pending = s.pending := by
  have hbegin : ∀ m q clamped, (beginRun m q clamped s).pending = s.pending := fun m q clamped =>
    (testFadeWait_pending _).trans (remoded_entering m _).quiet.pending
  unfold calStart
  dsimp only
  repeat' split
  all_goals first | exact hbegin .. | rfl

theorem enterPhase_pending (f : Phase) (probe cycle : Nat) (r : CalRun) :
    (enterPhase f probe cycle r s).pending = s.pending :=
  (testFadeWait_pending _).trans (Quiet.foldl (fun u i => quiet_recompose i u) _ _).pending

theorem commit_pending (r : CalRun) : (commit r s).pending = s.pending := by
  unfold commit
  rw [endRun_pending, setCoupling_pending]

/-- The end of a phase enters the next or commits the run (R139 to R141). -/
theorem nextPhase_pending (r : CalRun) : (nextPhase r s).pending = s.pending := by
  unfold nextPhase
  dsimp only
  repeat' split
  all_goals first | exact enterPhase_pending .. | exact commit_pending ..

theorem calStageTimerExpiry_pending : (calStageTimerExpiry s).pending = s.pending := by
  unfold calStageTimerExpiry stageExpiry
  split
  · rfl
  · split
    · split
      · rfl
      · rfl
      · exact nextPhase_pending ..
      · exact nextPhase_pending ..
    · rfl

/-! ## Polls, fades, the bus and the warm restart -/

theorem judgePoll_pending (f : SensorId → ReplyOutcome) : (judgePoll f s).pending = s.pending := by
  unfold judgePoll
  dsimp only
  repeat' split
  all_goals rfl

theorem fadeStep_pending (g : GroupId) : (fadeStep g s).pending = s.pending := by
  unfold fadeStep
  dsimp only
  split
  · exact testFadeWait_pending _
  · rfl

theorem passSegment_pending (i : SegId) : (passSegment i s).pending = s.pending := (onCtrl_passed i s).quiet.pending

theorem busFault_pending : (busFault s).pending = s.pending := by
  cases h : s.lum.link.faultReported with
  | true => rw [busFault, if_pos h]
  | false =>
    obtain ⟨_, _, hside⟩ := faulted_frame s
    rw [busFault_eq h, abortRun_pending, hside.pending]

theorem restart_pending (p : PortId) : (restart p s).pending = s.pending := by unfold restart; split <;> rfl

end

/-! ## Every command and every step -/

/-- No command stops the part: each answers a next state. -/
theorem exec_next (c : Instr) (s : State) : ∃ t, exec c s = .next t := by cases c <;> exact ⟨_, rfl⟩

/-- Every command leaves the waiting commands alone; a power-on reset too (log 22). -/
theorem exec_pending {c : Instr} {s t : State} (he : exec c s = .next t) : t.pending = s.pending := by
  cases c
  all_goals injection he with he; subst he
  case powerOnReset => rfl
  case selectAssert | selectRelease => exact setPorts_pending s _
  case roundTimerExpiry | turnaroundEnd => exact setSensors_pending s _
  case energyTick => exact setEnergy_pending s _
  case queryFrameCompletion => exact setLink_pending s _
  case nop | ident | causesRead | eventsRead | queryResult | calResultRead | layoutLock =>
    exact serve_pending s fun _ => rfl
  case causesClear | enablesWrite | settleSet => refine serve_pending s fun b => ?_; split <;> rfl
  case segRead => refine serve_pending s fun b => ?_; split; exacts [by rw [segRead_state], rfl]
  case sensorRead => refine serve_pending s fun b => ?_; split; exacts [by rw [sensorRead_state], rfl]
  case tableRead => refine serve_pending s fun b => ?_; split; exacts [by rw [tableRead_state], rfl]
  case couplingRead => refine serve_pending s fun b => ?_; split; exacts [by rw [couplingRead_state], rfl]
  case energyRead => refine serve_pending s fun b => ?_; split; exacts [by rw [energyRead_state], rfl]
  case segDefine => refine serve_pending s fun b => ?_; split; exacts [segDefine_pending .., rfl]
  case segRemove => refine serve_pending s fun b => ?_; split; exacts [segRemove_pending .., rfl]
  case segTune => refine serve_pending s fun b => ?_; split; exacts [segTune_pending .., rfl]
  case bandSet => refine serve_pending s fun b => ?_; split; exacts [bandSet_pending .., rfl]
  case glareSet => refine serve_pending s fun b => ?_; split; exacts [glareSet_pending .., rfl]
  case couplingWrite => refine serve_pending s fun b => ?_; split; exacts [couplingWrite_pending .., rfl]
  case overrideSet => refine serve_pending s fun b => ?_; split; exacts [overrideSet_pending .., rfl]
  case overrideCancel => refine serve_pending s fun b => ?_; split; exacts [overrideCancel_pending .., rfl]
  case lockSet => refine serve_pending s fun b => ?_; split; exacts [lockSet_pending .., rfl]
  case lockRelease => refine serve_pending s fun b => ?_; split; exacts [lockRelease_pending .., rfl]
  case holdSet => refine serve_pending s fun b => ?_; split; exacts [holdSet_pending .., rfl]
  case holdSettled => refine serve_pending s fun b => ?_; split; exacts [holdSettled_pending .., rfl]
  case capSet => refine serve_pending s fun b => ?_; split; exacts [capSet_pending .., rfl]
  case capCancel => refine serve_pending s fun b => ?_; split; exacts [capCancel_pending .., rfl]
  case energyClear => refine serve_pending s fun b => ?_; split; exacts [energyClear_pending .., rfl]
  case calStart => refine serve_pending s fun b => ?_; split; exacts [calStart_pending .., rfl]
  case calAbort => exact serve_pending s fun _ => abortRun_pending s .request
  case linkPause => exact serve_pending s fun _ => (linkSide_linkPause s).pending
  case linkResume => exact serve_pending s fun _ => (linkSide_linkResume s).pending
  case groupClearFail => refine serve_pending s fun b => ?_; split; exacts [(linkSide_groupClearFail _ s).pending, rfl]
  case powerSet => refine serve_pending s fun b => ?_; split; exacts [(linkSide_powerSet _ _ s).pending, rfl]
  case queryDriver => refine serve_pending s fun b => ?_; split; exacts [(linkSide_queryDriver _ _ _ s).pending, rfl]
  case restart => exact restart_pending s _
  case sensorReply | replyWindowTimeout | interByteGap => exact judgePoll_pending s _
  case pass => split; exacts [passSegment_pending s _, rfl]
  case fadeStep => exact fadeStep_pending s _
  case uptimeTick => exact departDue_pending _
  case entryExpiry => exact departDue_pending s
  case setLevelCompletion => exact (linkSide_setLevelDone s).pending
  case answerWindowEnd => exact (linkSide_windowEnd _ s).pending
  case busFault => exact busFault_pending s
  case busRestoration => split <;> rfl
  case calStageTimerExpiry => exact calStageTimerExpiry_pending s

theorem step_cons (c : Instr) (rest : List Instr) (s : State) :
    step { s with pending := c :: rest } = exec c { s with pending := rest } := rfl

theorem step_idle {s : State} (h : s.pending = []) : step s = .next s := by
  unfold step
  rw [h]

/-- Settles O1: a step is its front command on the queue's rest, and every command, block by block, leaves the queue. -/
theorem stepRunsFrontCommand : Obligations.StepRunsFrontCommand := by
  unfold Obligations.StepRunsFrontCommand
  refine ⟨⟨step_cons, fun s => step_idle⟩, fun c s => ?_⟩
  obtain ⟨t, ht⟩ := exec_next c s
  exact ⟨t, ht, exec_pending ht⟩

end Sys2Proof.Proofs
end

section
/-! PROOFS. The laws at the reset state: it is what a power-on reset leaves, and a power-on reset establishes every law. -/

namespace Sys2Proof.Proofs

open Sys2Proof Sys2Proof.Machine Sys2Proof.Safety Sys2Proof.Laws

/-- The reset state is its own power-on reset with the straps of the board (R154, R166; log 5). -/
theorem powerOn_reset :
    powerOn Config.resetStraps.1 Config.resetStraps.2.1 Config.resetStraps.2.2 State.reset = State.reset := rfl

/-- What every power-on reset establishes holds at the reset state. -/
theorem reset_of_powerOn {P : State → Prop} (h : ∀ a b c s, P (powerOn a b c s)) : P State.reset := by
  rw [← powerOn_reset]
  exact h ..

theorem expiryLaw_powerOn (a b c : StrapPins) (s : State) : ExpiryLaw (powerOn a b c s) := nofun

theorem energyLaw_powerOn (a b c : StrapPins) (s : State) : EnergyLaw (powerOn a b c s) := fun i => by
  have hi : (powerOn a b c s).energy[i] = ⟨0, 0⟩ := by simp [powerOn, State.initial]
  rw [hi]
  decide

/-- Settles O3: every law holds after a power-on reset, and the reset state is one. -/
theorem lawsAtReset : Obligations.LawsAtReset := by
  unfold Obligations.LawsAtReset
  obtain ⟨hlayout, hctrls⟩ : ControlLaw State.reset := reset_of_powerOn controlLaw_powerOn
  have hlevels : LevelsLaw State.reset := levelsLaw_iff.mpr (reset_of_powerOn leveled_powerOn)
  exact ⟨reset_of_powerOn portsLaw_powerOn, reset_of_powerOn couplingLaw_powerOn, hlayout, hlevels,
    reset_of_powerOn (P := fun s => LumLaw s.lum) lumLaw_powerOn, reset_of_powerOn jointLaw_powerOn,
    reset_of_powerOn sensorLaw_powerOn, ⟨hlayout, hctrls⟩, reset_of_powerOn expiryLaw_powerOn,
    reset_of_powerOn energyLaw_powerOn⟩

end Sys2Proof.Proofs
end
